-- ==== Sys2Proof/Word.lean ====
section
/-! DEFINITION. Word.lean: the word types of the part. Every register is a 32-bit word (R552), a persona word has 16 bits
(R347) and memory is addressed in bytes. -/

namespace Sys2Proof

/-- A register word of the native map (R552). -/
abbrev Word := BitVec 32

/-- Half a word: a persona word (R347), one component of a complex sample. -/
abbrev Half := BitVec 16

/-- One byte of memory or of a frame. -/
abbrev Byte := BitVec 8

end Sys2Proof
end

