-- ==== Sys2Proof/Syntax.lean ====
section
/-! DEFINITION. Syntax.lean: the commands of the part, one constructor for each row of spec/opcode_table.json, with the
operands a row carries: an index, a value written, or what the outside shows the part at that instant. -/

namespace Sys2Proof

/-- The access paths of R553. A command names the path on which its access arrives. -/
inductive Path where
  | rma
  | mspi
  | jtag
  | y (n : Fin 4)
  | ce (n : Fin 4)
  | dm (c : Fin 32)
deriving DecidableEq, Repr, Inhabited

/-- What a board and its chips show a boot (R503 to R514): the straps, the die identifier in the fuses, whether the flash answers,
the words, by debug-window address, that fail in SRAM arrays beyond repair, the failed DRAM trainings, for each poll of a preload that does not hold at once whether it
comes to hold in time, and the ms that the steps up to the tenth take. -/
structure BootEnv where
  persona : Bool := false
  bootSel : Fin 4 := 0
  dieId : BitVec 64 := 0
  flashOk : Bool := true
  sramBad : List Nat := []
  dramFails : Fin 3 := 0
  polls : List Bool := []
  ms : Nat := 0
deriving DecidableEq, Repr, Inhabited

/-- The kinds of PTP message that carry a time of an exchange (R29, R33, R34): a one-step or two-step Sync, its Follow_Up, a
Delay_Req and a Delay_Resp. -/
inductive PtpKind where
  | sync (oneStep : Bool) | followUp | delayReq | delayResp
deriving DecidableEq, Repr, Inhabited

/-- What one lane shows at an LQI evaluation (R307): the eye opening and that of an ideal eye, the bit errors and bits of the
last 1 ms, whether it is locked, and whether it has been without lock for 10 µs. -/
structure LaneMeas where
  eye : Nat := 0
  eyeMax : Nat := 1
  err : Nat := 0
  bits : Nat := 1
  locked : Bool := false
  lost : Bool := false
deriving DecidableEq, Repr, Inhabited

/-- A symbol of an air timeline (R50, R83): its frame counted since the air epoch, its subframe, its slot in the subframe and
its symbol in the slot. -/
structure SymAbs where
  frame : Int
  subframe : Nat
  slot : Nat
  symbol : Nat
deriving DecidableEq, Repr, Inhabited

/-- A resource element's value: its PRB, its subcarrier and its I and Q. -/
structure ReVal where
  prb : Nat
  sc : Nat
  i : Int
  q : Int
deriving DecidableEq, Repr, Inhabited

/-- The resource element that the FFT of one path gives (R111). -/
structure PathRe where
  path : Fin 64
  prb : Nat
  sc : Nat
  i : Int
  q : Int
deriving DecidableEq, Repr, Inhabited

/-- One compressed PRB (R76): its udCompParam and its 24 samples or mantissas, I before Q. -/
structure PrbData where
  param : Nat
  comps : List Int
deriving DecidableEq, Repr, Inhabited

/-- A U-plane section (R75 to R77): its sectionId, its first PRB, its compression header and its PRBs. -/
structure USec where
  secId : Nat
  startPrb : Nat
  meth : Nat
  iqw : Nat
  prbs : List PrbData
deriving DecidableEq, Repr, Inhabited

/-- A compressed vector of beamforming weights or of channel information (R154): bfwCompMeth, bfwIqWidth, bfwCompParam and the
components, I before Q. -/
structure BfVec where
  meth : Nat
  iqw : Nat
  param : Nat
  comps : List Int
deriving DecidableEq, Repr, Inhabited

/-- A bundle of extension 11 (R157): its beamId, and its weights with disableBFWs at 0. -/
structure Bundle where
  beam : Nat
  vec : Option BfVec
deriving DecidableEq, Repr, Inhabited

/-- What a section's extensions say of its weights. -/
inductive CWeights where
  /-- A beamId (R141), or 0 for no beam (R118). -/
  | beam (id : Nat)
  /-- Extension 1 (R156). -/
  | ext1 (id : Nat) (v : BfVec)
  /-- Extension 11 (R157): RAD, numBundPrb and the bundles. -/
  | ext11 (rad : Bool) (bundPrb : Nat) (bundles : List Bundle)
  /-- Section type 5: a UE (R160). -/
  | ue (id : Nat)
deriving DecidableEq, Repr, Inhabited

/-- A C-plane section (R75): section type, sectionId, PRBs, symbols, weights, the compression of its UL data (R77), the eAxCs
and beamIds that extension 10 adds (R119), the PRBs and symbols left by extensions 6, 12 or 13 (R92), whether it carries an
extension or method that R75 discards, for section type 3 its filterIndex, fftSize, subcarrier spacing in Hz, freqOffset, and timeOffset and
cpLength in Tc, and for section type 6 regularizationFactor and the vector of each PRB. -/
structure CSec where
  typ : Nat
  secId : Nat
  startPrb : Nat
  numPrb : Nat
  numSym : Nat
  wts : CWeights
  meth : Nat
  iqw : Nat
  ports : List (Nat × Nat)
  prbs : Option (List Nat)
  syms : Option (List Nat)
  bad : Bool
  filter : Nat
  fftSize : Nat
  dfHz : Nat
  freqOfs : Int
  timeTc : Nat
  cpTc : Nat
  regul : Int
  chi : List (Nat × BfVec)
deriving DecidableEq, Repr, Inhabited

/-- The headers of a message of type 0 or 2 (R73, R74, R83): its source, VLAN ID, eAxC ID, direction, seqId, E bit,
subsequence ID, payloadVersion, frameId, subframeId, slotId and symbol, and its length in bytes from the eCPRI common header
on. -/
structure MsgHdr where
  src : Nat
  vid : Option Nat
  eaxc : Half
  dl : Bool
  seq : Byte
  ebit : Bool
  subseq : Nat
  version : Nat
  frameId : Byte
  subframe : Nat
  slot : Nat
  symbol : Nat
  bytes : Nat
deriving DecidableEq, Repr, Inhabited

/-- The MACsec tag of a protected frame (R71): AN, PN and whether the ICV holds. -/
structure SecTag where
  an : Fin 4
  pn : BitVec 64
  icvOk : Bool
deriving DecidableEq, Repr, Inhabited

/-- What a frame carries (R61, R62, R72, R73). -/
inductive FrameKind where
  /-- eCPRI messages: the type, revision and "payload fits the frame" of each; whether IP options, fragments or extension
  headers are present. -/
  | ecpri (msgs : List (Nat × Nat × Bool)) (ipBad : Bool)
  | ptp
  | esmc
  /-- An ARP request for an IPv4 address, or a neighbour solicitation for an IPv6 address. -/
  | arp (target : Word) (src : Nat)
  | neighbour (target : BitVec 128) (src : Nat)
  | other
deriving DecidableEq, Repr, Inhabited

/-- A received Ethernet frame. -/
structure Frame where
  size : Nat
  fcsOk : Bool
  tagged : Bool
  sec : Option SecTag
  kind : FrameKind
deriving DecidableEq, Repr, Inhabited


/-- What a Strand frame carries (R131, R134): a partial sum of a flow and symbol from a first PRB on, its PRBs as exponent and
mantissas; or a forwarded U-plane or C-plane message, on time by the root's verdict. -/
inductive StrandItem where
  | sum (flow : Fin 256) (sym : SymAbs) (startPrb : Nat) (prbs : List PrbData)
  | uplane (hdr : MsgHdr) (secs : List USec)
  | cplane (hdr : MsgHdr) (secs : List CSec)
deriving DecidableEq, Repr, Inhabited
/-- What a DRAM read finds under its (72,64) code (R417, R418): the value delivered after a single-bit error. -/
inductive DramRead where
  | clean
  | single (data : BitVec 64)
  | double
deriving DecidableEq, Repr, Inhabited

/-- What the cells of one word give at a scrub read (R404, R418): for SRAM the 64 data bits with the row and the column check
bits. -/
inductive WordRead where
  | sram (data : BitVec 64) (rows cols : BitVec 8)
  | dram (r : DramRead)
deriving DecidableEq, Repr, Inhabited

/-- What a capture shows when it is evaluated (R224, R228, R268): the mean levels of x and z in 0.01 dBFS, the ACLR in 0.1 dB
and the path gain G in 0.01 dB. -/
structure CapMeas where
  lx : Int
  lz : Int
  aclr : Nat
  g : Int
deriving DecidableEq, Repr, Inhabited

/-- What core Y0 finds for a path in a calibration run (R266): its correlation peak over the mean of the other lags in 0.1 dB,
its delay in 1/256 sample and its complex gain in a unit common to all paths. -/
structure PathCal where
  path : Fin 64
  peak : Int
  d : Int
  gi : Int
  gq : Int
deriving DecidableEq, Repr, Inhabited

/-- A carrier of the persona's carrier configuration (R336): LTE or NR, its numerology and its bandwidth in MHz. -/
structure LegacyCar where
  lte : Bool
  mu : Nat
  bw : Nat
deriving DecidableEq, Repr, Inhabited

/-- An enabled entry of the AxC table (R338): port, carrier, link and POS. -/
structure AxcEntry where
  port : Nat
  car : Nat
  link : Nat
  pos : Nat
deriving DecidableEq, Repr, Inhabited

/-- A write that touches the persona's carriers (R344): LGC_CARj_FREQ, or the carrier configuration. -/
inductive CarWrite where
  | freq (j : Fin 2) (kHz : Nat)
  | config (cars : List LegacyCar)
deriving DecidableEq, Repr, Inhabited

/-- How a Yakea instruction stands in its pair (R356): in slot 0 with its slot 1 to follow, in slot 0 with a NOP in slot 1, or in
slot 1. -/
inductive YSlot where
  | slot0 | only | slot1
deriving DecidableEq, Repr, Inhabited

/-- The commands: writes and reads that have a row of their own, messages and pin events, and the instants at which the
part's own engines act. -/
inductive Instr where
  /-- R42: the tick comes in which the PHC reaches the time of PHC-mode trigger n. -/
  | triggerFire (n : Fin 64)
  /-- R43: OFS after the realised boundary of symbol `sym` of its carrier, AIR-mode trigger n is due. -/
  | triggerFireAir (n : Fin 64) (sym : Fin 14)
  /-- R45: a write of `cfg`, with ARM at 1, to TIM_TRGn_CFG. -/
  | triggerArm (n : Fin 64) (cfg : Word)
  /-- R26: a write of SNAP. -/
  | timSnap
  /-- R27: a write of LOAD, by CE2 or by another path, with ADJ_GO in the same write or not. -/
  | timLoad (ce2 adj : Bool)
  /-- R27: a write of ADJ_GO. -/
  | timAdjGo (ce2 : Bool)
  /-- R569: a write of TSRC. -/
  | tsrcChange (v : Fin 4)
  /-- R29: a PTP message is received on a port in the current tick, `quarter` × 0.25 ns into it, carrying `time` and
  `corr` in units of 2^-16 ns. -/
  | ptpEventRx (port : Fin 8) (kind : PtpKind) (seq : Fin 65536) (quarter : Fin 5) (time corr : Int)
  /-- R33: the 16 per second Sync of a master port is due. -/
  | ptpSyncTx (port : Fin 8)
  /-- R33: the 8 per second Announce of a master port is due. -/
  | ptpAnnounceTx (port : Fin 8)
  /-- R33: the 16 per second Delay_Req of the slave port is due. -/
  | ptpDelayReqTx (port : Fin 8) (seq : Fin 65536)
  /-- R35: CE2 takes a complete timestamp tuple; `parent` says whether the BMCA selects the clock it came from. -/
  | servoUpdate (port : Fin 8) (seq : Fin 65536) (parent : Bool)
  /-- R36: the source has been lost. -/
  | sourceLost
  /-- R36: HOLD_MAX seconds of holdover have passed. -/
  | holdoverExpire
  /-- R38: an ESMC PDU with an SSM code arrives on a lane, whose recovered clock is locked or not. -/
  | esmcPduRx (lane : Fin 16) (ql : Fin 16) (locked : Bool)
  /-- R40: the tick of a rising edge of PPS_OUT. -/
  | ppsOutRise
  /-- R40: PPS_OUT has been high for WIDTH_MS. -/
  | ppsOutFall
  /-- R41: 100 ms have passed since a rising edge of PPS_OUT. -/
  | todTxMessage
  /-- R41: a time-of-day message arrives on TOD_RX. -/
  | todRxMessage (bytes : List (Fin 256))
  /-- R37: an edge of PPS_IN. -/
  | ppsInEdge
  /-- R47: an edge of the source of capture input ch. -/
  | captureEdge (ch : Fin 16) (rising : Bool)
  /-- R47: a read of TIM_CAPn_TS_LO. -/
  | capTsRead (path : Path) (ch : Fin 16)
  /-- R48: a write of EN = 1, MU and ECP to TIM_AIRc_CFG. -/
  | airTimelineEnable (c : Fin 32) (mu : Fin 4) (ecp : Bool)
  /-- R48: the 10 ms frame boundary at which a timeline starts. -/
  | airTimelineStart (c : Fin 32)
  /-- R49: a write of EN = 0 to TIM_AIRc_CFG. -/
  | airTimelineDisable (c : Fin 32)
  /-- R570: a write to TIM_AIR_ALPHA or TIM_AIR_BETA. -/
  | airOffsetWrite (beta : Bool) (v : Word)
  /-- R54: the facet of carrier c realises its next symbol boundary; bit i of the masks says whether the EVM of path
  16k + i exceeded, or lay within 0.8 of, its budget in the symbol that ends. -/
  | realisedSymbolBoundary (c : Fin 32) (evmOver : BitVec 16) (evmGood : BitVec 16)
  /-- R51: a 0.5 ms boundary of the air time; the tracking error each facet has gained since the last, in f_S/4
  samples. -/
  | airHalfMsBoundary (e0 e1 e2 e3 : Int)
  /-- R56: the frame boundary at which facet k re-anchors. -/
  | realignReanchor (k : Fin 4)
  /-- R60: a write to FPE_PORTn_CFG. -/
  | portConfigWrite (n : Fin 8) (v : Word)
  /-- R63: a write to FPE_GRPg_CFG. -/
  | portGroupWrite (g : Fin 4) (v : Word)
  /-- R67: port n is declared down. -/
  | portDown (n : Fin 8)
  /-- R312: the lane of port n has been LOCKED or DEGRADED for 1 ms. -/
  | portUp (n : Fin 8)
  /-- R69: a slot boundary of a flow's carrier. -/
  | flowRebalance (f : Fin 256)
  /-- R61: a frame arrives on a port. -/
  | frameRx (port : Fin 8) (frame : Frame)
  /-- R91: a message of type 0 of an accepted frame arrives in the current tick. -/
  | uplaneMsgRx (port : Fin 8) (hdr : MsgHdr) (secs : List USec)
  /-- R88: a message of type 2 of an accepted frame arrives in the current tick. -/
  | cplaneMsgRx (port : Fin 8) (hdr : MsgHdr) (secs : List CSec)
  /-- R85: 1 s has passed in which EARLY or LATE of a flow has not advanced. -/
  | windowEventCease (f : Fin 256) (late : Bool)
  /-- R80: a write of `v`, with EN at 1, to FPE_FLOWf_CFG while EN is 0. -/
  | flowArm (f : Fin 256) (v : Word)
  /-- R81: a write of EN = 0 to FPE_FLOWf_CFG. -/
  | flowDisable (f : Fin 256)
  /-- R82: the 8th consecutive empty slot of a flow ends. -/
  | flowStarved (f : Fin 256)
  /-- R82: FLOW_AGE has passed without a valid message. -/
  | flowQuiescent (f : Fin 256)
  /-- R89: t_sym - (T_s + 12 µs) of a DL symbol of timeline c. -/
  | workListReleaseDl (c : Fin 32) (y : SymAbs)
  /-- R89: t_sym + T_s of a UL symbol of timeline c, with what the FFT of each path gives. -/
  | workListReleaseUl (c : Fin 32) (y : SymAbs) (res : List PathRe)
  /-- R87: the next UL U-plane message of a flow is sent. -/
  | ulUplaneTx (f : Fin 256)
  /-- R97: a request of action type 0x00 arrives. -/
  | dmRequest (port : Fin 8) (id : Byte) (src : Nat)
  /-- R97: a request of action type 0x01 arrives. -/
  | dmRequestFollowUp (port : Fin 8) (id : Byte) (src : Nat)
  /-- R97: a remote request, 0x03 or with `followUp` 0x04, arrives. -/
  | dmRemoteRequest (port : Fin 8) (followUp : Bool) (id : Byte) (src : Nat)
  /-- R97: a follow-up arrives. -/
  | dmFollowUp (port : Fin 8) (id : Byte)
  /-- R97: a response arrives. -/
  | dmResponse (port : Fin 8) (id : Byte)
  /-- R100: a remote memory access request arrives on a port, in a frame that MACsec protected or not. -/
  | rmaRequestRx (port : Fin 8) (prot : Bool) (src : Nat) (id : Byte) (kind : Fin 3) (elem : Half) (addr : BitVec 48) (len : Nat) (words : List Word)
  /-- R99: the oldest queued request, a read, is served. -/
  | rmaRead
  /-- R99: the oldest queued request, a write, is served. -/
  | rmaWrite
  /-- R99: the oldest queued request, a write without response, is served. -/
  | rmaWriteNoResponse
  /-- R101: the oldest pending events are sent. -/
  | eventIndicationTx
  /-- R103: an acknowledge arrives. -/
  | faultsIndicationAck (seq : Byte)
  /-- R103: ACK_TO has passed for an indication. -/
  | eventAckTimeout (seq : Byte)
  /-- R103: a Synchronization Request arrives. -/
  | synchronizationRequest (port : Fin 8) (src : Nat)
  /-- R107: a write of `v`, with EN at 1, to BFE_ACa_CFG. -/
  | acEnable (a : Fin 8) (v : Word)
  /-- R108: a write of EN = 0 to BFE_ACa_CFG. -/
  | acDisable (a : Fin 8)
  /-- R108: the next slot boundary of an array carrier that was told to stop. -/
  | acStop (a : Fin 8)
  /-- R109: a write to BFE_FLOWf_BIND. -/
  | flowBind (f : Fin 256) (v : Word)
  /-- R124: a write to BFE_FORCE_TX_HI or BFE_FORCE_RX_HI commits both halves. -/
  | bfeForceWrite (rx : Bool) (mask : BitVec 64)
  /-- R318: a frame arrives on a Strand link: its CRC, the control messages it carries and its contents. -/
  | strandFrameRx (x : Fin 2) (crcOk : Bool) (ctl : List Nat) (items : List StrandItem)
  /-- R137: a slot boundary of the array carriers on a link whose capacity is below its load. -/
  | strandFallback (x : Fin 2) (dl : Bool)
  /-- R137: a slot boundary at which layers of a link may be restored. -/
  | strandRestore (x : Fin 2) (dl : Bool)
  /-- R145: a write of LOAD to BFE_WS_CMD. -/
  | wsLoad (lib : Fin 4) (beam : Fin 32768)
  /-- R145: a write of LOCK to BFE_WS_CMD. -/
  | wsLock (lib : Fin 4) (beam : Fin 32768)
  /-- R145: a write of UNLOCK to BFE_WS_CMD. -/
  | wsUnlock (lib : Fin 4) (beam : Fin 32768)
  /-- R142: a write of INVALIDATE to BFE_WS_CMD. -/
  | wsInvalidate (lib : Fin 4) (beam : Fin 32768)
  /-- R142: a write of INVALIDATE_LIB to BFE_WS_CMD. -/
  | wsInvalidateLib (lib : Fin 4)
  /-- R145: a write to BFE_WS_CMD with an OP of 0 or 6 to 15, or while BUSY. -/
  | wsCmdBadOp (op : Fin 16)
  /-- R149: a library fetch in flight completes, after so many uncorrectable DRAM reads. -/
  | weightFetchComplete (lib : Fin 4) (beam : Fin 32768) (errs : Fin 3)
  /-- R152: the weight deadline of a symbol of timeline c. -/
  | weightDeadline (c : Fin 32) (y : SymAbs)
  /-- R159: a channel set has not been used for CHI_AGE. -/
  | channelSetAge (i : Fin 4096)
  /-- R161: SOL_HOLD has passed since the first section of type 5 of a slot, counted since the air epoch. -/
  | solveIssue (a : Fin 8) (dl : Bool) (slot : Int)
  /-- R164: the solver may start its next job. -/
  | solveJobStart
  /-- R162: the earliest started job completes. -/
  | solveJobDone
  /-- R179: the boundary of the NCOPLAN group of facet k. -/
  | ncoplanCommit (k : Fin 4)
  /-- R195: the boundary of the SYMCFG group of carrier c. -/
  | symcfgCommit (c : Fin 32)
  /-- R191: a repetition of a PRACH occasion of a flow's section ends, with the bins of each path and how many
  saturated. -/
  | prachExtract (f : Fin 256) (secId rep : Nat) (res : List PathRe) (sat : Nat)
  /-- R211: a boundary of the DPDBANK group of path p. -/
  | dpdbankCommit (p : Fin 64)
  /-- R217: the instant at which a capture window of ORX j may open. -/
  | orxCaptureStart (j : Fin 8)
  /-- R218: the capture on ORX j ends, with what it shows and the samples it wrote, one list for each page. -/
  | orxCaptureEnd (j : Fin 8) (m : CapMeas) (streams : List (List Word))
  /-- R216: CLASS_WAIT has passed on ORX j. -/
  | classWaitExpire (j : Fin 8)
  /-- R221: the host capture on ORX j ends, with its samples. -/
  | hostCaptureDone (j : Fin 8) (x z : List Word)
  /-- R223: the firmware has solved the oldest capture of path p: the delay it measured, and the new coefficients as
  codes. -/
  | adaptSolveDone (p : Fin 64) (dly : Fin 256) (coefs : List Word)
  /-- R230: a PC_PERIOD of path p ends, with the detector's value of G in 0.01 dB where it has one. -/
  | pcUpdate (p : Fin 64) (det : Option Int)
  /-- R236: a write to CVA_FACETk_CFG with EN = 1. -/
  | facetEnable (k : Fin 4) (v : Word)
  /-- R236: a write to CVA_FACETk_CFG with EN = 0. -/
  | facetDisable (k : Fin 4) (v : Word)
  /-- R236: a write to CVA_TXp_CFG, or with `rx` to CVA_RXp_CFG. -/
  | pathEnableWrite (rx : Bool) (p : Fin 64) (v : Word)
  /-- R269: the foreground calibration of facet k ends. -/
  | fgcalDone (k : Fin 4) (ok : Bool)
  /-- R238: the pin asserts. -/
  | txQuietNAssert
  /-- R239: the pin deasserts. -/
  | txQuietNDeassert
  /-- R239: a boundary at which path p may leave quiet. -/
  | quietRelease (p : Fin 64)
  /-- R245: a boundary of the TXRANGE group of path p, or the cycle of a commit that needs none. -/
  | txrangeCommit (p : Fin 64)
  /-- R250: a code at or beyond a threshold reaches the flag logic of a path or ORX; beyond full scale, the code an
  input that does not clip would give. -/
  | ovrAssert (orx : Bool) (p : Fin 64) (code : Int)
  /-- R250: 64 f_F cycles have passed since the last code that holds OVR, or with `hi` OVR_HI. -/
  | ovrClear (orx : Bool) (p : Fin 64) (hi : Bool)
  /-- R261: a write to CVA_WFMk_CFG with GO = 1. -/
  | wfmGo (k : Fin 4) (v : Word)
  /-- R261: the realised boundary of symbol SYM of the reference timeline. -/
  | wfmSymbolStart (k : Fin 4)
  /-- R260: a write of STOP. -/
  | wfmStop (k : Fin 4)
  /-- R260: LEN samples have played, some of them saturated or none. -/
  | wfmPlayEnd (k : Fin 4) (sat : Bool)
  /-- R263: 100 µs before the boundary of a calibration run. -/
  | calPageRequest
  /-- R262: a symbol of timeline CAR begins; what a run then captures, one list for each page. -/
  | calRun (y : SymAbs) (streams : List (List Word))
  /-- R262: OP 1. -/
  | calRunOnce
  /-- R266: core Y0 has the results of a run. -/
  | calResult (res : List PathCal)
  /-- R272: OP 2. -/
  | recalTx (p : Fin 64)
  /-- R272: OP 3. -/
  | recalRx (p : Fin 64)
  /-- R272: the RECAL ends. -/
  | recalDone
  /-- R267: SUP_PER may have passed for path p. -/
  | supCaptureRequest (p : Fin 64)
  /-- R275: a write to RCS_CTRL. -/
  | rcsSourceWrite (v : Word)
  /-- R275: EXTFS has been within ±200 ppm of FS_KHZ for 1 ms. -/
  | extfsGood
  /-- R277: the source that SRC selects is absent or out of tolerance for 1 µs. -/
  | refLost
  /-- R277: REFCLK has been good for 1 ms. -/
  | refRecover
  /-- R279: OP 1. -/
  | rcsTune (e : Fin 64)
  /-- R279: OP 2. -/
  | rcsCal (e : Fin 64)
  /-- R279: OP 3. -/
  | rcsSwitch
  /-- R279: OP 4. -/
  | rcsInvalidate (e : Fin 64)
  /-- R279: OP 5. -/
  | rcsCalStby
  /-- R280: an OP of 0 or 6 to 15. -/
  | rcsCmdBadOp (op : Fin 16)
  /-- R281: the active synthesiser's part of a TUNE or CAL ends, well or not, with the record that a calibration
  gives. -/
  | rcsLocked (ok : Bool) (r0 r1 r2 : Word)
  /-- R279: the standby's calibration or its tracking ends, with its record and the phase difference in 0.01 ps. -/
  | rcsStandbyDone (ok : Bool) (r0 r1 r2 : Word) (dphi : Int)
  /-- R574: a TUNE or CAL reaches the end of its timing while the reference is bad. -/
  | rcsCmdEndLost
  /-- R574: a CTRL cycle in which the part's own TUNE may be issued. -/
  | autoTuneIssue
  /-- R282: the active synthesiser's lock is lost. -/
  | rcsLossOfLock
  /-- R283: a 0.5 ms boundary of air time at which facet k may anchor. -/
  | facetAnchor (k : Fin 4)
  /-- R286: a write of STBY_EN = 1. -/
  | stbyEnable
  /-- R286: tracking has lasted 100 µs, with the phase difference in 0.01 ps. -/
  | stbyOkSet (dphi : Int)
  /-- R287: a soft failure of SYN_A or SYN_B. -/
  | synSoftFail (synB : Bool)
  /-- R287: a hard failure of SYN_A or SYN_B. -/
  | synHardFail (synB : Bool)
  /-- R287: the phase difference, in 0.01 ps, has exceeded 1.0 ps for 10 µs. -/
  | synDiverge (dphi : Int)
  /-- R289: the switch instant. -/
  | synSwitch
  /-- R294: a 0.5 ms boundary is r samples of f_S/4 before the next REFCLK edge. -/
  | syncOutPulse (r : Nat)
  /-- R295: a pulse high on w edges, designating a boundary `diff` samples from the part's own next one. -/
  | syncInPulse (w : Nat) (diff : Int)
  /-- R296: no valid pulse for an expected boundary. -/
  | syncMiss
  /-- R296: 1 ms after LOCKED without a valid pulse. -/
  | syncAnchorTimeout
  /-- R311: a write to SRD_LANEl_CFG or SRD_LANEl_TRATE. -/
  | laneConfigWrite (l : Fin 16) (trate : Bool) (v : Word)
  /-- R305: a training attempt: whether the detector sees a signal, the CTLE setting with the highest LQI and the
  first DFE tap. -/
  | laneTrainingAttempt (l : Fin 16) (signal : Bool) (ctle : Fin 16) (h1 : Byte)
  /-- R305: a lane meets its lock condition, with inverted comma characters or not. -/
  | laneLock (l : Fin 16) (inv : Bool)
  /-- R305: training has ended without lock. -/
  | laneTrainingTimeout (l : Fin 16)
  /-- R307: an evaluation instant, with what lanes L0 to L15 show. -/
  | lqiEvaluate (meas : List LaneMeas)
  /-- R306: the trials of a lane end; the lower neighbour, the setting in force or the higher neighbour was best. -/
  | ctleTrial (l : Fin 16) (best : Fin 3)
  /-- R309: a loss of lock shorter than 10 µs. -/
  | laneLockLoss (l : Fin 16)
  /-- R310: 1 ms has passed since a retirement. -/
  | laneRetrainStart (l : Fin 16)
  /-- R320: a write to SRD_LANEl_PRBS that enables a generator, a checker or a loopback. -/
  | prbsTestEnable (l : Fin 16) (v : Word)
  /-- R308: a write to SRD_LANEl_PRBS that clears all test enables. -/
  | testExit (l : Fin 16) (v : Word)
  /-- R321: the checker locks or loses lock, after `bits` compared with `errs` wrong. -/
  | prbsCheckerLock (l : Fin 16) (lock : Bool) (bits errs : Nat)
  /-- R314: the signal detector of a CPRI lane fails, or 16 code violations fall in one hyperframe. -/
  | cpriLossOfSignal (l : Fin 4)
  /-- R314: a CPRI lane loses code-group synchronisation. -/
  | cpriLossOfSync (l : Fin 4)
  /-- R317: the lanes of a Strand link are aligned: the logical lane of each, their inversion, and the largest skew.
  -/
  | strandAlign (x : Fin 2) (map : Byte) (inv : Fin 16) (skew : Byte)
  /-- R319: the first frame whose counter is a multiple of 64, with the lane mode the other end advertises. -/
  | strandModeChange (x : Fin 2) (peer : Fin 4)
  /-- R329: a write of LINK_EN = 1. -/
  | cpriLinkEnable (n : Fin 4)
  /-- R329: link n meets the exit condition of its state. -/
  | cpriStateAdvance (n : Fin 4)
  /-- R329: the timeout of the state of link n has passed. -/
  | cpriStateTimeout (n : Fin 4)
  /-- R330: causes of one CTRL cycle: loss of signal, loss of synchronisation, a reset request, LINK_EN = 0. -/
  | cpriLinkReset (n : Fin 4) (los lof rst dis : Bool)
  /-- R338: APPLY is written while the table has these enabled entries and the sample width is w. -/
  | axcApply (w : Nat) (table : List AxcEntry)
  /-- R338: a 10 ms frame boundary. -/
  | axcTableSwitch
  /-- R343: a write to LGC_PORTi_TXEN. -/
  | portTxenWrite (i : Fin 16) (en : Bool)
  /-- R343: a realised symbol boundary of carrier 0 of the facet of port i. -/
  | portTxenEffect (i : Fin 16)
  /-- R344: a write to LGC_CARj_FREQ or to the carrier configuration. -/
  | carFreqWrite (w : CarWrite)
  /-- R345: a read message on a C&M channel of link n. -/
  | cmRead (n : Fin 4) (fast : Bool) (seq : Byte) (addr count : Fin 65536)
  /-- R345: a write message on a C&M channel of link n. -/
  | cmWrite (n : Fin 4) (fast : Bool) (seq : Byte) (addr count : Fin 65536) (data : List Half)
  /-- R346: a read of `count` words. -/
  | personaMspiRead (addr : Fin 65536) (count : Nat)
  /-- R346: a write of some words. -/
  | personaMspiWrite (addr : Fin 65536) (data : List Half)
  /-- R348: a write to LGC_ALARM. -/
  | alarmClear (v : Half)
  /-- R350: a read of VP_WIN_D_LO. -/
  | vpWinRead
  /-- R350: a write of VP_WIN_D_HI. -/
  | vpWinWrite (v : Half)
  /-- R377: core n issues NOP in a slot, with bits [23:0] of its word. -/
  | yNop (n : Fin 4) (slot : YSlot) (f : BitVec 24)
  /-- R377: core n issues ADD in a slot, with bits [23:0] of its word. -/
  | yAdd (n : Fin 4) (slot : YSlot) (f : BitVec 24)
  /-- R377: core n issues SUB in a slot, with bits [23:0] of its word. -/
  | ySub (n : Fin 4) (slot : YSlot) (f : BitVec 24)
  /-- R377: core n issues AND in a slot, with bits [23:0] of its word. -/
  | yAnd (n : Fin 4) (slot : YSlot) (f : BitVec 24)
  /-- R377: core n issues OR in a slot, with bits [23:0] of its word. -/
  | yOr (n : Fin 4) (slot : YSlot) (f : BitVec 24)
  /-- R377: core n issues XOR in a slot, with bits [23:0] of its word. -/
  | yXor (n : Fin 4) (slot : YSlot) (f : BitVec 24)
  /-- R377: core n issues SHL in a slot, with bits [23:0] of its word. -/
  | yShl (n : Fin 4) (slot : YSlot) (f : BitVec 24)
  /-- R377: core n issues SHR in a slot, with bits [23:0] of its word. -/
  | yShr (n : Fin 4) (slot : YSlot) (f : BitVec 24)
  /-- R377: core n issues SHRA in a slot, with bits [23:0] of its word. -/
  | yShra (n : Fin 4) (slot : YSlot) (f : BitVec 24)
  /-- R377: core n issues ADDS in a slot, with bits [23:0] of its word. -/
  | yAdds (n : Fin 4) (slot : YSlot) (f : BitVec 24)
  /-- R377: core n issues SUBS in a slot, with bits [23:0] of its word. -/
  | ySubs (n : Fin 4) (slot : YSlot) (f : BitVec 24)
  /-- R377: core n issues CADD in a slot, with bits [23:0] of its word. -/
  | yCadd (n : Fin 4) (slot : YSlot) (f : BitVec 24)
  /-- R377: core n issues CSUB in a slot, with bits [23:0] of its word. -/
  | yCsub (n : Fin 4) (slot : YSlot) (f : BitVec 24)
  /-- R377: core n issues MIN in a slot, with bits [23:0] of its word. -/
  | yMin (n : Fin 4) (slot : YSlot) (f : BitVec 24)
  /-- R377: core n issues MAX in a slot, with bits [23:0] of its word. -/
  | yMax (n : Fin 4) (slot : YSlot) (f : BitVec 24)
  /-- R377: core n issues MOV in a slot, with bits [23:0] of its word. -/
  | yMov (n : Fin 4) (slot : YSlot) (f : BitVec 24)
  /-- R377: core n issues FADD in a slot, with bits [23:0] of its word. -/
  | yFadd (n : Fin 4) (slot : YSlot) (f : BitVec 24)
  /-- R377: core n issues FSUB in a slot, with bits [23:0] of its word. -/
  | yFsub (n : Fin 4) (slot : YSlot) (f : BitVec 24)
  /-- R377: core n issues FMUL in a slot, with bits [23:0] of its word. -/
  | yFmul (n : Fin 4) (slot : YSlot) (f : BitVec 24)
  /-- R377: core n issues FMAC in a slot, with bits [23:0] of its word. -/
  | yFmac (n : Fin 4) (slot : YSlot) (f : BitVec 24)
  /-- R377: core n issues FRSQ in a slot, with bits [23:0] of its word. -/
  | yFrsq (n : Fin 4) (slot : YSlot) (f : BitVec 24)
  /-- R377: core n issues FCVTF in a slot, with bits [23:0] of its word. -/
  | yFcvtf (n : Fin 4) (slot : YSlot) (f : BitVec 24)
  /-- R377: core n issues FCVTI in a slot, with bits [23:0] of its word. -/
  | yFcvti (n : Fin 4) (slot : YSlot) (f : BitVec 24)
  /-- R377: core n issues FCMP in a slot, with bits [23:0] of its word. -/
  | yFcmp (n : Fin 4) (slot : YSlot) (f : BitVec 24)
  /-- R377: core n issues MFS in a slot, with bits [23:0] of its word. -/
  | yMfs (n : Fin 4) (slot : YSlot) (f : BitVec 24)
  /-- R377: core n issues MTS in a slot, with bits [23:0] of its word. -/
  | yMts (n : Fin 4) (slot : YSlot) (f : BitVec 24)
  /-- R377: core n issues MFA in a slot, with bits [23:0] of its word. -/
  | yMfa (n : Fin 4) (slot : YSlot) (f : BitVec 24)
  /-- R377: core n issues MTA in a slot, with bits [23:0] of its word. -/
  | yMta (n : Fin 4) (slot : YSlot) (f : BitVec 24)
  /-- R377: core n issues MOVI in a slot, with bits [23:0] of its word. -/
  | yMovi (n : Fin 4) (slot : YSlot) (f : BitVec 24)
  /-- R377: core n issues MOVH in a slot, with bits [23:0] of its word. -/
  | yMovh (n : Fin 4) (slot : YSlot) (f : BitVec 24)
  /-- R377: core n issues ADDI in a slot, with bits [23:0] of its word. -/
  | yAddi (n : Fin 4) (slot : YSlot) (f : BitVec 24)
  /-- R377: core n issues ANDI in a slot, with bits [23:0] of its word. -/
  | yAndi (n : Fin 4) (slot : YSlot) (f : BitVec 24)
  /-- R377: core n issues ORI in a slot, with bits [23:0] of its word. -/
  | yOri (n : Fin 4) (slot : YSlot) (f : BitVec 24)
  /-- R377: core n issues SHLI in a slot, with bits [23:0] of its word. -/
  | yShli (n : Fin 4) (slot : YSlot) (f : BitVec 24)
  /-- R377: core n issues SHRI in a slot, with bits [23:0] of its word. -/
  | yShri (n : Fin 4) (slot : YSlot) (f : BitVec 24)
  /-- R377: core n issues SHRAI in a slot, with bits [23:0] of its word. -/
  | yShrai (n : Fin 4) (slot : YSlot) (f : BitVec 24)
  /-- R377: core n issues CMPI in a slot, with bits [23:0] of its word. -/
  | yCmpi (n : Fin 4) (slot : YSlot) (f : BitVec 24)
  /-- R377: core n issues ADDA in a slot, with bits [23:0] of its word. -/
  | yAdda (n : Fin 4) (slot : YSlot) (f : BitVec 24)
  /-- R378: core n issues CMAC in a slot, with bits [23:0] of its word. -/
  | yCmac (n : Fin 4) (slot : YSlot) (f : BitVec 24)
  /-- R378: core n issues QMAC in a slot, with bits [23:0] of its word. -/
  | yQmac (n : Fin 4) (slot : YSlot) (f : BitVec 24)
  /-- R378: core n issues DMAC in a slot, with bits [23:0] of its word. -/
  | yDmac (n : Fin 4) (slot : YSlot) (f : BitVec 24)
  /-- R378: core n issues DOT in a slot, with bits [23:0] of its word. -/
  | yDot (n : Fin 4) (slot : YSlot) (f : BitVec 24)
  /-- R378: core n issues EADD in a slot, with bits [23:0] of its word. -/
  | yEadd (n : Fin 4) (slot : YSlot) (f : BitVec 24)
  /-- R378: core n issues EMOV in a slot, with bits [23:0] of its word. -/
  | yEmov (n : Fin 4) (slot : YSlot) (f : BitVec 24)
  /-- R378: core n issues LDW in a slot, with bits [23:0] of its word. -/
  | yLdw (n : Fin 4) (slot : YSlot) (f : BitVec 24)
  /-- R378: core n issues LDH in a slot, with bits [23:0] of its word. -/
  | yLdh (n : Fin 4) (slot : YSlot) (f : BitVec 24)
  /-- R378: core n issues STW in a slot, with bits [23:0] of its word. -/
  | yStw (n : Fin 4) (slot : YSlot) (f : BitVec 24)
  /-- R378: core n issues STH in a slot, with bits [23:0] of its word. -/
  | ySth (n : Fin 4) (slot : YSlot) (f : BitVec 24)
  /-- R378: core n issues LDG in a slot, with bits [23:0] of its word. -/
  | yLdg (n : Fin 4) (slot : YSlot) (f : BitVec 24)
  /-- R378: core n issues STG in a slot, with bits [23:0] of its word. -/
  | yStg (n : Fin 4) (slot : YSlot) (f : BitVec 24)
  /-- R378: core n issues MODA in a slot, with bits [23:0] of its word. -/
  | yModa (n : Fin 4) (slot : YSlot) (f : BitVec 24)
  /-- R378: core n issues SAW in a slot, with bits [23:0] of its word. -/
  | ySaw (n : Fin 4) (slot : YSlot) (f : BitVec 24)
  /-- R378: core n issues SAHL in a slot, with bits [23:0] of its word. -/
  | ySahl (n : Fin 4) (slot : YSlot) (f : BitVec 24)
  /-- R378: core n issues SAHH in a slot, with bits [23:0] of its word. -/
  | ySahh (n : Fin 4) (slot : YSlot) (f : BitVec 24)
  /-- R378: core n issues SAC in a slot, with bits [23:0] of its word. -/
  | ySac (n : Fin 4) (slot : YSlot) (f : BitVec 24)
  /-- R378: core n issues ENORM in a slot, with bits [23:0] of its word. -/
  | yEnorm (n : Fin 4) (slot : YSlot) (f : BitVec 24)
  /-- R378: core n issues SAR in a slot, with bits [23:0] of its word. -/
  | ySar (n : Fin 4) (slot : YSlot) (f : BitVec 24)
  /-- R368: core n issues BCC in a slot, with bits [23:0] of its word. -/
  | yBcc (n : Fin 4) (slot : YSlot) (f : BitVec 24)
  /-- R368: core n issues CALL in a slot, with bits [23:0] of its word. -/
  | yCall (n : Fin 4) (slot : YSlot) (f : BitVec 24)
  /-- R368: core n issues JR in a slot, with bits [23:0] of its word. -/
  | yJr (n : Fin 4) (slot : YSlot) (f : BitVec 24)
  /-- R366: core n issues LOOPI in a slot, with bits [23:0] of its word. -/
  | yLoopi (n : Fin 4) (slot : YSlot) (f : BitVec 24)
  /-- R366: core n issues LOOPR in a slot, with bits [23:0] of its word. -/
  | yLoopr (n : Fin 4) (slot : YSlot) (f : BitVec 24)
  /-- R374: core n issues RTI in a slot, with bits [23:0] of its word. -/
  | yRti (n : Fin 4) (slot : YSlot) (f : BitVec 24)
  /-- R374: core n issues WAIT in a slot, with bits [23:0] of its word. -/
  | yWait (n : Fin 4) (slot : YSlot) (f : BitVec 24)
  /-- R374: an enabled interrupt is pending and ends core n's WAIT. -/
  | yWaitWake (n : Fin 4)
  /-- R372: core n issues TRAP in a slot, with bits [23:0] of its word. -/
  | yTrap (n : Fin 4) (slot : YSlot) (f : BitVec 24)
  /-- R374: core n issues SYNC in a slot, with bits [23:0] of its word. -/
  | ySync (n : Fin 4) (slot : YSlot) (f : BitVec 24)
  /-- R370, R371: core n takes an interrupt. -/
  | yInterruptEntry (n : Fin 4)
  /-- R369: core n's timer reaches 0. -/
  | yTimerZero (n : Fin 4)
  /-- R375: core n's watchdog is at half its timeout. -/
  | yWatchdogHalf (n : Fin 4)
  /-- R375: core n's watchdog is at its timeout. -/
  | yWatchdogExpire (n : Fin 4)
  /-- R375: core n writes WDOG_KICK. -/
  | yWdogKick (n : Fin 4)
  /-- R379: a word is written to DSP_Yn_MBI. -/
  | yMbHostPush (n : Fin 4) (w : Word)
  /-- R379: a path reads DSP_Yn_MBO. -/
  | yMbHostPop (path : Path) (n : Fin 4)
  /-- R379: core n reads MB_IN into D(d). -/
  | yMbCorePop (n : Fin 4) (d : Fin 16)
  /-- R379: core n writes MB_OUT. -/
  | yMbCorePush (n : Fin 4) (w : Word)
  /-- R379: core n writes DOORBELL. -/
  | yDoorbell (n : Fin 4) (target : Fin 16)
  /-- R383: core n's firmware deals with its inbound mailbox. -/
  | yKernelCall (n : Fin 4)
  /-- R385: core n's kernel has exceeded its budget. -/
  | yKernelBudget (n : Fin 4)
  /-- R387: DSP_CTRL.RST of core n is written with 1. -/
  | dspCoreReset (n : Fin 4)
  /-- R387: DSP_CTRL.RUN is written. -/
  | dspRunWrite (run : Fin 16)
  /-- R392, R393: engine e loads an immediate, with bits [27:0] of its word. -/
  | ceLdi (e : Fin 4) (f : BitVec 28)
  /-- R392, R393: engine e loads the upper half, with bits [27:0] of its word. -/
  | ceLui (e : Fin 4) (f : BitVec 28)
  /-- R392, R393: engine e adds, with bits [27:0] of its word. -/
  | ceAdd (e : Fin 4) (f : BitVec 28)
  /-- R392, R393: engine e adds an immediate, with bits [27:0] of its word. -/
  | ceAddi (e : Fin 4) (f : BitVec 28)
  /-- R392, R393: engine e subtracts, with bits [27:0] of its word. -/
  | ceSub (e : Fin 4) (f : BitVec 28)
  /-- R392, R393: engine e forms the and, with bits [27:0] of its word. -/
  | ceAnd (e : Fin 4) (f : BitVec 28)
  /-- R392, R393: engine e forms the or, with bits [27:0] of its word. -/
  | ceOr (e : Fin 4) (f : BitVec 28)
  /-- R392, R393: engine e shifts, with bits [27:0] of its word. -/
  | ceShf (e : Fin 4) (f : BitVec 28)
  /-- R392, R393: engine e loads, with bits [27:0] of its word. -/
  | ceLd (e : Fin 4) (f : BitVec 28)
  /-- R392, R393: engine e stores, with bits [27:0] of its word. -/
  | ceSt (e : Fin 4) (f : BitVec 28)
  /-- R392, R393: engine e branches, with bits [27:0] of its word. -/
  | ceBr (e : Fin 4) (f : BitVec 28)
  /-- R392, R393: engine e calls, with bits [27:0] of its word. -/
  | ceCall (e : Fin 4) (f : BitVec 28)
  /-- R392, R393: engine e jumps, with bits [27:0] of its word. -/
  | ceJmp (e : Fin 4) (f : BitVec 28)
  /-- R392, R393: engine e waits for an event, with bits [27:0] of its word. -/
  | ceWaite (e : Fin 4) (f : BitVec 28)
  /-- R395: an event ends engine e's WAITE. -/
  | ceWaiteEvent (e : Fin 4)
  /-- R395: engine e's WAITE times out. -/
  | ceWaiteTimeout (e : Fin 4)
  /-- R397: engine e ends its clause; f is bits [27:1] of the word. -/
  | ceWait (e : Fin 4) (f : BitVec 27)
  /-- R397: WAIT with P at 1; f is bits [27:1] of the word. -/
  | ceWaitPower (e : Fin 4) (f : BitVec 27)
  /-- R394: SIG kind 0 of engine e sets an event line of engine target; zero is bits [23:16] of the word. -/
  | ceSigEvent (e target : Fin 4) (zero : Byte) (code : Half)
  /-- R394: SIG kind 1 of engine e sets source 6 of core target; zero is bits [23:16] of the word. -/
  | ceSigIrq (e target : Fin 4) (zero : Byte) (code : Half)
  /-- R394: SIG kind 2 of engine e reports a fault; zero is bits [23:16] of the word. -/
  | ceSigFault (e target : Fin 4) (zero : Byte) (code : Half)
  /-- R394: SIG kind 3 of engine e writes MSG; zero is bits [23:16] of the word. -/
  | ceSigMsg (e target : Fin 4) (zero : Byte) (code : Half)
  /-- R394: an event line of engine e latches. -/
  | ceEventArrive (e : Fin 4) (line : Fin 32)
  /-- R394: CLS_CEn_EVSET is written. -/
  | ceEvset (e : Fin 4) (mask : Byte)
  /-- R396: engine e's dispatcher starts a clause. -/
  | ceDispatch (e : Fin 4)
  /-- R398: engine e's user clause has run beyond USER_MAX. -/
  | ceRunLimit (e : Fin 4)
  /-- R401: CLS_CEn_CTRL.RST is written with 1. -/
  | ceEngineReset (e : Fin 4)
  /-- R501: engine e's watchdog expires. -/
  | ceHang (e : Fin 4)
  /-- R411: the oldest scheduled write-back takes its cycle. -/
  | sramWriteBack
  /-- R412: a scrub epoch ends. -/
  | scrubEpoch
  /-- R412: the scrubber reads the word at a debug-window address, or at a DRAM data address. -/
  | scrubRead (addr : Nat) (w : WordRead)
  /-- R422: a path requests pages. -/
  | capRequest (path : Path) (n : Fin 256)
  /-- R422: a path releases one page. -/
  | capRelease (path : Path) (p : Fin 256)
  /-- R422: a path releases every page it holds. -/
  | capReleaseAll (path : Path)
  /-- R421: Graulo serves the next request for pages. -/
  | capGrant
  /-- R422: a host path has held a page beyond PAGE_HOLD. -/
  | capReclaim (p : Fin 128)
  /-- R424: a path requests a channel. -/
  | dmvAllocReq (path : Path)
  /-- R424: Graulo serves the requests for channels. -/
  | dmvGrant
  /-- R429: OP 1. -/
  | dmvGo (path : Path) (c : Fin 32)
  /-- R429: OP 2. -/
  | dmvStop (path : Path) (c : Fin 32)
  /-- R430: OP 3. -/
  | dmvAbort (path : Path) (c : Fin 32)
  /-- R429: OP 4. -/
  | dmvRelease (path : Path) (c : Fin 32)
  /-- R427: channel c has performed its current element. -/
  | dmvElementDone (c : Fin 32)
  /-- R429, R430: a channel in DRAIN stops; under ABORT `left` bytes of its element are not written. -/
  | dmvStopped (c : Fin 32) (left : Nat)
  /-- R432: an access of channel c's current element faults. -/
  | dmvDescriptorError (c : Fin 32)
  /-- R437: a write of v, with GO at 1, to MON_x_SEL (0 MADC_A, 1 MADC_B). -/
  | monGo (x : Fin 2) (v : Word)
  /-- R436: the conversion in progress ends with a code. -/
  | monConversionDone (x : Fin 2) (code : Fin 4096)
  /-- R438: no start pulse has reached the converter for 100 µs, or the part is in STANDBY. -/
  | monSequenceStart (x : Fin 2)
  /-- R439: a write of v to MON_x_URG, or the detector conversion of a path (R229) with the SAMP and GAIN of v. -/
  | monUrgentRequest (x : Fin 2) (det : Option (Fin 64)) (v : Word)
  /-- R441: 1 ms after the last ones, the plausibility conversions are requested. -/
  | plausibilityRequest
  /-- R445: the boundary of facet k's FETABLE group. -/
  | fetableCommit (k : Fin 4)
  /-- R443: the entry in progress on FEBk ends, with the bits sampled from MISO. -/
  | febEntryDone (k : Fin 4) (miso : Word)
  /-- R443: a read of FEN_FACETk_RD. -/
  | febRdPop (path : Path) (k : Fin 4)
  /-- R454: a block of 4,096 samples of TX path p, with the sum of its I² + Q², and its saturated components, residual
  peaks and saturated DAC codes (R198, R200, R241). -/
  | levelLimitBlock (p : Fin 64) (sum satDpd resid satDac : Nat)
  /-- R452: a period of slot m ends. -/
  | pmonPeriodEnd (m : Fin 64)
  /-- R456: a write of 0x5EA1 to LKT_CTRL.SEAL. -/
  | locketSealFirst (path : Path)
  /-- R456: a write of 0xA15E to LKT_CTRL.SEAL. -/
  | locketSealSecond (path : Path)
  /-- R456: the OTP is programmed. -/
  | locketSealDone
  /-- R457: CE0 ends its check of the answer it was handed. -/
  | chalCheckDone
  /-- R460: 2 µs before the next boundary at TXOUT, sleeping TX path p unparks. -/
  | symbolSleepWake (p : Fin 64)
  /-- R461: at RXIN the last used UL symbol of RX path p has ended. -/
  | rxSleepEnter (p : Fin 64)
  /-- R461: 2 µs and T_cont,max before its next used UL symbol, RX path p wakes. -/
  | rxSleepWake (p : Fin 64)
  /-- R463: facet k, on its way out of SLOT_SLEEP, delivers samples again. -/
  | slotSleepWakeDone (k : Fin 4)
  /-- R464: a write of v, with REQ at 1, to PWS_MODE. -/
  | pwsModeReq (v : Word)
  /-- R467: wake source src becomes pending before the last Bezel closes. -/
  | sleepAbort (src : Fin 8)
  /-- R468: the facets are powered; bit k of fail says that the trims of facet k fail their check. -/
  | arraySleepWake (fail : Fin 16)
  /-- R472: the supplies and core PLLs of a STANDBY wake are good; count is the crystal cycles since the entry, and
  bit b of fail says that KEEP bank b fails its check. -/
  | standbyWake (count : Nat) (fail : Byte)
  /-- R473: a PG or the core PLLs missed a deadline of R472, or at boot of R504; locked says that the listening lane
  has block lock. -/
  | wakeAttemptFail (locked : Bool)
  /-- R469: the listening lane's signal detector has been asserted for 10 µs. -/
  | wakeLaneEnergy
  /-- R470: a frame on a port with its FCS, whether its destination MAC is the port's or broadcast, whether its
  transport is that of FPE_CTRL.UDP, and an eCPRI message of a type, revision and Event Type with (Element ID, number)
  of each element. -/
  | wakeFrame (port : Fin 8) (own : Bool) (typ rev kind : Nat) (elems : List (Nat × Nat)) (fcsOk transport : Bool)
  /-- R469: WAKE_N has been asserted for 1 µs. -/
  | wakeNAssert
  /-- R470: the STANDBY wake timer has counted to the end. -/
  | wakeTimer
  /-- R394, R481: the synchronised level of PGg changes. -/
  | pgChange (g : Fin 6) (level : Bool)
  /-- R477: a window ends; the mean power of clients 0 to 13 in it, in mW. -/
  | budgetWindow (est : List (Fin 65536))
  /-- R479: 100 ns of a ramp have passed. -/
  | rampBallastStep
  /-- R485: detecting logic reports a fault kind and unit. -/
  | faultReport (kind : Fin 256) (unit : Fin 65536)
  /-- R494: the quiet period of source entry i has passed. -/
  | sourceRecover (i : Fin 64)
  /-- R497: a write of FLT_CLEAR.ONE with SRC. -/
  | fltClearOne (i : Fin 64)
  /-- R497: a write of FLT_CLEAR.ALL. -/
  | fltClearAll
  /-- R575: a write to FLT_HOST. -/
  | fltHostWrite (v : Word)
  /-- R575: a write to FLT_HOST_KICK. -/
  | hostWatchdogKick
  /-- R575: the host watchdog has counted TO. -/
  | hostWatchdogExpire
  /-- R502: a write to FLT_LOG_POP. -/
  | fltLogPop
  /-- R491: the comparator of sensor n is above 125 °C. -/
  | tjCrit (n : Fin 12)
  /-- R491: the lock detector of core PLL A or B reports loss of lock. -/
  | corePllLoss (pllB : Bool)
  /-- R512: PORST_N is released; env is what the board and its chips show the boot. -/
  | porstRelease (env : BootEnv)
  /-- R505: RESET_N is released, or the part leaves a full reset or a reboot by itself; env is what the board and
  chips show the boot. -/
  | resetRelease (env : BootEnv)
  /-- R535: PORST_N is asserted. -/
  | porstAssert
  /-- R535: RESET_N is asserted. -/
  | resetAssert
  /-- R505: a write of 0xB007 to BOOT_CTRL.REBOOT. -/
  | reboot
  /-- R522: a write of BOOT_FL_CMD with OP 1. -/
  | flRead
  /-- R522: a write of BOOT_FL_CMD with OP 2. -/
  | flProgram (unlock : Byte)
  /-- R522: a write of BOOT_FL_CMD with OP 3. -/
  | flErase (unlock : Byte)
  /-- R522: a write of BOOT_FL_CMD with OP 4. -/
  | flVerify (arg : Fin 4) (unlock : Byte)
  /-- R519: a write of BOOT_FL_CMD with OP 5. -/
  | calSave (unlock : Byte)
  /-- R510: a write of BOOT_FL_CMD with OP 6. -/
  | otpKeyProgram (arg : Fin 4) (unlock : Byte)
  /-- R522: the flash operation in progress completes. -/
  | flOpDone
  /-- R518: event 10 of CE1, with the temperatures of TS0, TS2, TS4 and TS6 in 0.1 °C. -/
  | calTempCorrect (t0 t1 t2 t3 : Int)
  /-- R520: the conditions of TX release are checked in a CTRL cycle. -/
  | txRelease
  /-- R521: TIME_OK has been 0 for GRACE_MS. -/
  | txReleaseWithdraw
  /-- R556, R557: a frame on MSPI in native mode that is not a write, its bytes from the opcode on; held says that
  CS_N stays low until the response has ended. -/
  | mspiRead (frame : List Byte) (held : Bool)
  /-- R556, R557: a frame on MSPI in native mode whose opcode is 0x02. -/
  | mspiWrite (frame : List Byte) (held : Bool)
  /-- R558: Update-DR under EXTEST with the bits shifted in; `sampled` is what Capture-DR found on the balls. -/
  | jtagExtest (sampled shift : Nat)
  /-- R558: the IDCODE register is read. -/
  | jtagIdcode
  /-- R558: Update-DR under SAMPLE/PRELOAD. -/
  | jtagSamplePreload (sampled shift : Nat)
  /-- R323: Update-DR under EXTEST_PULSE. -/
  | jtagExtestPulse (sampled shift : Nat)
  /-- R323: Update-DR under EXTEST_TRAIN. -/
  | jtagExtestTrain (sampled shift : Nat)
  /-- R558: LKT_CHAL is shifted out. -/
  | jtagChalRead
  /-- R457, R558: Update-DR hands CE0 the public key and the signature. -/
  | jtagChalAnswer (key sig : List Byte)
  /-- R558: BYPASS, or a code that acts as it, is selected. -/
  | jtagBypass (code : Byte)
  /-- R559: Update-DR of REG_ACCESS with OP 1. -/
  | jtagRegRead (addr : Word)
  /-- R559: Update-DR of REG_ACCESS with OP 2. -/
  | jtagRegWrite (addr data : Word)
  /-- R562: a read of the _LO of a pair. -/
  | twoHalfLoRead (path : Path) (a : Word)
  /-- R564: a write of the _LO of a pair. -/
  | twoHalfLoWrite (path : Path) (a v : Word)
  /-- R564: a write of the _HI of a pair. -/
  | twoHalfHiWrite (path : Path) (a v : Word)
  /-- R566: a write of a register that holds the ARM bit of a shadow group. -/
  | shadowArmWrite (path : Path) (a v : Word)
  /-- R560: a read of a register with RC fields. -/
  | rcRead (path : Path) (a : Word)
  /-- R560: a write of a register. -/
  | regWrite (path : Path) (a v : Word)
  /-- R143: a released work list has been processed; the FFT engine saturated `sat` components of the carrier and the
  DUC or DDC of each path so many. -/
  | workListProcessed (c : Fin 32) (dl : Bool) (y : SymAbs) (sat : Nat) (pathSat : List (Fin 64 × Nat))
  /-- R246: the transition of path p ends. -/
  | txrangeTransitionEnd (p : Fin 64)
  /-- R331: a hyperframe arrives on link n with its RAI and SDI, with code violations or none, and in units of 0.25 ns
  the step of the frame timing on link 0, or the offset from link 0's frame start on another link. -/
  | hyperframeRx (n : Fin 4) (rai sdi cv : Bool) (ofs : Int)
  /-- R491: the comparator of sensor n falls below 115 °C. -/
  | tjCritClear (n : Fin 12)
  /-- R472: core PLLs A and B have lock. -/
  | corePllReady
  /-- R459: the always-on supplies go away. -/
  | supplyLoss
  /-- R490: the re-initialisation of a Yakea core or a clause engine completes. -/
  | subsystemReinitDone (clause : Bool) (n : Fin 4)
deriving DecidableEq, Repr, Inhabited

end Sys2Proof
end

