-- ==== Sys2Proof/Machine/Fp32.lean ====
section
/-! DEFINITION. Machine/Fp32.lean: IEEE 754 binary32 arithmetic as the solver (R162) and the Yakea cores (R376) use it: rounding
to nearest with ties to even, subnormal inputs and results flushed to zero keeping the sign, and one NaN, 0x7FC0_0000. Every
operation forms its exact result and rounds once. -/

namespace Sys2Proof.Machine

/-- The one NaN. -/
def fpNan : Word := 0x7FC00000

/-- A binary32 value taken apart: a NaN, an infinity, or sign, significand and exponent of 2; zero has significand 0. -/
inductive FpVal where
  | nan
  | inf (neg : Bool)
  | fin (neg : Bool) (m : Nat) (e : Int)
deriving DecidableEq, Repr

/-- Take a word apart; a subnormal counts as zero. -/
def fpOf (w : Word) : FpVal :=
  let neg := w.toNat / 2 ^ 31 == 1
  let e : Nat := w.toNat / 2 ^ 23 % 256
  let m : Nat := w.toNat % 2 ^ 23
  if e == 255 then (if m == 0 then .inf neg else .nan)
  else if e == 0 then .fin neg 0 0
  else .fin neg (2 ^ 23 + m) ((e : Int) - 150)

/-- The sign bit. -/
def fpSign (neg : Bool) : Nat := if neg then 2 ^ 31 else 0

/-- Round the value m × 2^e, whose discarded lower part is not zero when `sticky`, to 24 bits, ties to even. -/
def fpRound (neg : Bool) (m : Nat) (e : Int) (sticky : Bool) : Word :=
  if m = 0 then BitVec.ofNat 32 (fpSign neg)
  else
    let n := Nat.log2 m                      -- the leading bit
    let sh : Int := (n : Int) - 23
    let (q, half, low) :=
      if sh ≤ 0 then (m * 2 ^ (-sh).toNat, false, sticky)
      else
        let k := sh.toNat
        (m / 2 ^ k, (m / 2 ^ (k - 1)) % 2 == 1, sticky || m % 2 ^ (k - 1) != 0)
    let q := if half && (low || q % 2 == 1) then q + 1 else q
    let (q, ex) := if q = 2 ^ 24 then (2 ^ 23, e + sh + 1) else (q, e + sh)
    let b := ex + 150
    if 255 ≤ b then BitVec.ofNat 32 (fpSign neg + 255 * 2 ^ 23)
    else if b ≤ 0 then BitVec.ofNat 32 (fpSign neg)
    else BitVec.ofNat 32 (fpSign neg + b.toNat * 2 ^ 23 + (q - 2 ^ 23))

/-- Round a signed integer times 2^e. -/
def fpOfInt (v e : Int) : Word := fpRound (v < 0) v.natAbs e false

/-- A result and whether the operation was invalid. -/
abbrev FpRes := Word × Bool

/-- Is a word a signalling NaN? An operation on one is invalid; a quiet NaN passes through. -/
def fpSnan (w : Word) : Bool := fpOf w == .nan && !w.getLsbD 22

/-- The result of an operation with a NaN among its operands. -/
def fpNan2 (a b : Word) : FpRes := (fpNan, fpSnan a || fpSnan b)

/-- Negate. -/
def fpNeg (w : Word) : Word := w ^^^ 0x80000000

/-- Add (FADD). -/
def fpAdd (a b : Word) : FpRes :=
  match fpOf a, fpOf b with
  | .nan, _ => fpNan2 a b
  | _, .nan => fpNan2 a b
  | .inf x, .inf y => if x == y then (BitVec.ofNat 32 (fpSign x + 255 * 2 ^ 23), false) else (fpNan, true)
  | .inf x, _ => (BitVec.ofNat 32 (fpSign x + 255 * 2 ^ 23), false)
  | _, .inf y => (BitVec.ofNat 32 (fpSign y + 255 * 2 ^ 23), false)
  | .fin x m e, .fin y n f =>
    if m = 0 && n = 0 then (BitVec.ofNat 32 (fpSign (x && y)), false)
    else
      let g := if m = 0 then f else if n = 0 then e else min e f
      let u : Int := m * 2 ^ (if m = 0 then 0 else (e - g).toNat)
      let v : Int := n * 2 ^ (if n = 0 then 0 else (f - g).toNat)
      (fpOfInt ((if x then -u else u) + (if y then -v else v)) g, false)

/-- Subtract (FSUB). -/
def fpSub (a b : Word) : FpRes := fpAdd a (fpNeg b)

/-- Multiply (FMUL). -/
def fpMul (a b : Word) : FpRes :=
  match fpOf a, fpOf b with
  | .nan, _ => fpNan2 a b
  | _, .nan => fpNan2 a b
  | .inf x, .inf y => (BitVec.ofNat 32 (fpSign (x != y) + 255 * 2 ^ 23), false)
  | .inf x, .fin y n _ => if n = 0 then (fpNan, true) else (BitVec.ofNat 32 (fpSign (x != y) + 255 * 2 ^ 23), false)
  | .fin x m _, .inf y => if m = 0 then (fpNan, true) else (BitVec.ofNat 32 (fpSign (x != y) + 255 * 2 ^ 23), false)
  | .fin x m e, .fin y n f => (fpRound (x != y) (m * n) (e + f) false, false)

/-- The integer square root, by bisection over a number of bits. -/
def isqrt (n : Nat) : Nat :=
  (List.range (Nat.log2 n / 2 + 1)).foldr (fun i r => if (r + 2 ^ i) * (r + 2 ^ i) ≤ n then r + 2 ^ i else r) 0

/-- The reciprocal square root (FRSQ): the binary32 value nearest to 1/sqrt(x). The root of 2^(2k) ÷ (m × 2^e), with 2k large
enough for 40 bits, is rounded with what lies below as a sticky part. -/
def fpRsqrt (a : Word) : FpRes :=
  match fpOf a with
  | .nan => fpNan2 a a
  | .inf neg => if neg then (fpNan, true) else (0, false)
  | .fin neg m e =>
    if m = 0 then (BitVec.ofNat 32 (fpSign neg + 255 * 2 ^ 23), false)
    else if neg then (fpNan, true)
    else
      let (m, e) := if e % 2 = 0 then (m, e) else (2 * m, e - 1)
      let d := 2 ^ 112
      let r := isqrt (d / m)
      (fpRound false r (-(e / 2) - 56) (r * r * m != d), false)

/-- Compare (FCMP): less, equal, unordered. -/
def fpLess (a b : Word) : Bool :=
  match fpOf a, fpOf b with
  | .nan, _ => false
  | _, .nan => false
  | .inf x, .inf y => x && !y
  | .inf x, .fin _ _ _ => x
  | .fin _ _ _, .inf y => !y
  | .fin x m e, .fin y n f =>
    let g := min e f
    let u : Int := m * 2 ^ (e - g).toNat
    let v : Int := n * 2 ^ (f - g).toNat
    (if x then -u else u) < (if y then -v else v)

def fpEqual (a b : Word) : Bool :=
  match fpOf a, fpOf b with
  | .nan, _ => false
  | _, .nan => false
  | .inf x, .inf y => x == y
  | .inf _, .fin _ _ _ => false
  | .fin _ _ _, .inf _ => false
  | .fin x m e, .fin y n f =>
    let g := min e f
    let u : Int := m * 2 ^ (e - g).toNat
    let v : Int := n * 2 ^ (f - g).toNat
    (if x then -u else u) = (if y then -v else v)

def fpIsNan (a : Word) : Bool := fpOf a == .nan

/-- The integer nearest to m × 2^e, ties to even. -/
def roundEven (m : Nat) (e : Int) : Nat :=
  if 0 ≤ e then m * 2 ^ e.toNat
  else
    let k := (-e).toNat
    let q := m / 2 ^ k
    let r := m % 2 ^ k
    if 2 ^ k < 2 * r || (2 * r = 2 ^ k && q % 2 = 1) then q + 1 else q

/-- The nearest integer to a value, ties to even; none for a NaN or an infinity. -/
def fpToInt (a : Word) : Option Int :=
  match fpOf a with
  | .nan => none
  | .inf _ => none
  | .fin neg m e => some (if neg then -(roundEven m e : Int) else roundEven m e)

/-! ### Complex arithmetic of the solver (R162): every product and sum is rounded. -/

/-- A complex number of two binary32 words. -/
abbrev FpC := Word × Word

def fpCadd (a b : FpC) : FpC := ((fpAdd a.1 b.1).1, (fpAdd a.2 b.2).1)
def fpCsub (a b : FpC) : FpC := ((fpSub a.1 b.1).1, (fpSub a.2 b.2).1)
def fpCconj (a : FpC) : FpC := (a.1, fpNeg a.2)

/-- (ac − bd) + (ad + bc)i. -/
def fpCmul (a b : FpC) : FpC :=
  ((fpSub (fpMul a.1 b.1).1 (fpMul a.2 b.2).1).1, (fpAdd (fpMul a.1 b.2).1 (fpMul a.2 b.1).1).1)

/-- |a|², as a sum of two rounded squares. -/
def fpCsq (a : FpC) : Word := (fpAdd (fpMul a.1 a.1).1 (fpMul a.2 a.2).1).1

/-- A complex number times a real one. -/
def fpCscale (a : FpC) (r : Word) : FpC := ((fpMul a.1 r).1, (fpMul a.2 r).1)

end Sys2Proof.Machine
end

