-- ==== Sys2Proof/Machine/Regs.lean ====
section
/-! DEFINITION. Machine/Regs.lean: the register map of the part, written from the register tables of spec/: every
register's native address (R552 and each chapter's own table) under its name in the manual, the index letter of a repeated
register turned into an argument. -/

namespace Sys2Proof.Machine

/-- One field of a register: the register's native address, the field's lowest bit and its width in bits. -/
structure Fld where
  reg : Nat
  lo : Nat
  width : Nat
deriving DecidableEq, Repr

namespace Reg

/-! Registers of the time and air timeline (R23 to R59). -/

@[simp] abbrev TIM_CTRL : Nat := 0x03000000
@[simp] abbrev TIM_STATUS : Nat := 0x03000004
@[simp] abbrev TIM_INCR_LO : Nat := 0x03000008
@[simp] abbrev TIM_INCR_HI : Nat := 0x0300000C
@[simp] abbrev TIM_PHC_LO : Nat := 0x03000010
@[simp] abbrev TIM_PHC_HI : Nat := 0x03000014
@[simp] abbrev TIM_SNAP_FRAC : Nat := 0x03000020
@[simp] abbrev TIM_SNAP_NS : Nat := 0x03000024
@[simp] abbrev TIM_SNAP_SEC_LO : Nat := 0x03000028
@[simp] abbrev TIM_SNAP_SEC_HI : Nat := 0x0300002C
@[simp] abbrev TIM_SET_NS : Nat := 0x03000030
@[simp] abbrev TIM_SET_SEC_LO : Nat := 0x03000034
@[simp] abbrev TIM_SET_SEC_HI : Nat := 0x03000038
@[simp] abbrev TIM_ADJ : Nat := 0x0300003C
@[simp] abbrev TIM_SRV_CFG : Nat := 0x03000040
@[simp] abbrev TIM_SRV_LOCK : Nat := 0x03000044
@[simp] abbrev TIM_SRV_OFS : Nat := 0x03000048
@[simp] abbrev TIM_HOLD : Nat := 0x0300004C
@[simp] abbrev TIM_CNT : Nat := 0x03000050
@[simp] abbrev TIM_PTP_CFG : Nat := 0x03000060
@[simp] abbrev TIM_SYNCE_CFG : Nat := 0x03000070
@[simp] abbrev TIM_SYNCE_STAT : Nat := 0x03000074
@[simp] abbrev TIM_PPS_CFG : Nat := 0x03000080
@[simp] abbrev TIM_TOD_CFG : Nat := 0x03000084
@[simp] abbrev TIM_AIR_ALPHA : Nat := 0x03000090
@[simp] abbrev TIM_AIR_BETA : Nat := 0x03000094
@[simp] abbrev TIM_AIR_PEND : Nat := 0x03000098
@[simp] abbrev TIM_AIR_LAG : Nat := 0x0300009C
@[simp] abbrev TIM_PORT_CFG (n : Nat) : Nat := 0x03000100 + 0x10 * n
@[simp] abbrev TIM_PORT_LAT (n : Nat) : Nat := 0x03000104 + 0x10 * n
@[simp] abbrev TIM_PORT_ASYM (n : Nat) : Nat := 0x03000108 + 0x10 * n
@[simp] abbrev TIM_AIR_CFG (c : Nat) : Nat := 0x03000400 + 0x10 * c
@[simp] abbrev TIM_AIR_POS (c : Nat) : Nat := 0x03000404 + 0x10 * c
@[simp] abbrev TIM_TRG_CFG (n : Nat) : Nat := 0x03001000 + 0x20 * n
@[simp] abbrev TIM_TRG_PERIOD (n : Nat) : Nat := 0x03001004 + 0x20 * n
@[simp] abbrev TIM_TRG_TIME_LO (n : Nat) : Nat := 0x03001008 + 0x20 * n
@[simp] abbrev TIM_TRG_TIME_HI (n : Nat) : Nat := 0x0300100C + 0x20 * n
@[simp] abbrev TIM_TRG_STAT (n : Nat) : Nat := 0x03001010 + 0x20 * n
@[simp] abbrev TIM_CAP_CFG (n : Nat) : Nat := 0x03001800 + 0x10 * n
@[simp] abbrev TIM_CAP_STAT (n : Nat) : Nat := 0x03001804 + 0x10 * n
@[simp] abbrev TIM_CAP_TS_LO (n : Nat) : Nat := 0x03001808 + 0x10 * n
@[simp] abbrev TIM_CAP_TS_HI (n : Nat) : Nat := 0x0300180C + 0x10 * n

/-! Registers of the architecture (R21). -/

@[simp] abbrev GRL_STATUS : Nat := 0x05000000
@[simp] abbrev GRL_CNT0 : Nat := 0x05000004
@[simp] abbrev GRL_CNT1 : Nat := 0x05000008
@[simp] abbrev GRL_CNT2 : Nat := 0x0500000C
@[simp] abbrev GRL_CNT3 : Nat := 0x05000010

/-! Registers of the fronthaul (R60 to R103). -/

@[simp] abbrev FPE_CTRL : Nat := 0x04000000
@[simp] abbrev FPE_STATUS : Nat := 0x04000004
@[simp] abbrev FPE_GLB_CNT0 : Nat := 0x04000008
@[simp] abbrev FPE_GLB_CNT1 : Nat := 0x0400000C
@[simp] abbrev FPE_GLB_CNT2 : Nat := 0x04000010
@[simp] abbrev FPE_UBUF_LVL : Nat := 0x04000014
@[simp] abbrev FPE_SEC_LVL : Nat := 0x04000018
@[simp] abbrev FPE_UDP_CFG : Nat := 0x04000020
@[simp] abbrev FPE_IPV4 : Nat := 0x04000024
@[simp] abbrev FPE_RMA_CFG : Nat := 0x04000040
@[simp] abbrev FPE_RMA_STAT : Nat := 0x04000044
@[simp] abbrev FPE_EVT_CFG : Nat := 0x04000050
@[simp] abbrev FPE_TIMING : Nat := 0x04000060
@[simp] abbrev FPE_IPV6 (i : Nat) : Nat := 0x04000028 + 0x4 * i
@[simp] abbrev FPE_PORT_CFG (n : Nat) : Nat := 0x04000100 + 0x40 * n
@[simp] abbrev FPE_PORT_STAT (n : Nat) : Nat := 0x04000104 + 0x40 * n
@[simp] abbrev FPE_PORT_MAC0 (n : Nat) : Nat := 0x04000108 + 0x40 * n
@[simp] abbrev FPE_PORT_MAC1 (n : Nat) : Nat := 0x0400010C + 0x40 * n
@[simp] abbrev FPE_PORT_CNT0 (n : Nat) : Nat := 0x04000110 + 0x40 * n
@[simp] abbrev FPE_PORT_CNT1 (n : Nat) : Nat := 0x04000114 + 0x40 * n
@[simp] abbrev FPE_PORT_CNT2 (n : Nat) : Nat := 0x04000118 + 0x40 * n
@[simp] abbrev FPE_GRP_CFG (g : Nat) : Nat := 0x04000400 + 0x10 * g
@[simp] abbrev FPE_MSEC_CFG (n : Nat) : Nat := 0x04000800 + 0x200 * n
@[simp] abbrev FPE_MSEC_STAT (n : Nat) : Nat := 0x04000804 + 0x200 * n
@[simp] abbrev FPE_MSEC_TX_SCI0 (n : Nat) : Nat := 0x04000808 + 0x200 * n
@[simp] abbrev FPE_MSEC_TX_SCI1 (n : Nat) : Nat := 0x0400080C + 0x200 * n
@[simp] abbrev FPE_MSEC_RX_SCI0 (n : Nat) : Nat := 0x04000810 + 0x200 * n
@[simp] abbrev FPE_MSEC_RX_SCI1 (n : Nat) : Nat := 0x04000814 + 0x200 * n
@[simp] abbrev FPE_MSEC_TX_SAK (n : Nat) (k : Nat) (w : Nat) : Nat := 0x04000840 + 0x200 * n + 0x40 * k + 0x4 * w
@[simp] abbrev FPE_MSEC_TX_SALT (n : Nat) (k : Nat) (w : Nat) : Nat := 0x04000860 + 0x200 * n + 0x40 * k + 0x4 * w
@[simp] abbrev FPE_MSEC_TX_SSCI (n : Nat) (k : Nat) : Nat := 0x0400086C + 0x200 * n + 0x40 * k
@[simp] abbrev FPE_MSEC_TX_AN (n : Nat) (k : Nat) : Nat := 0x04000870 + 0x200 * n + 0x40 * k
@[simp] abbrev FPE_MSEC_TX_PN_LO (n : Nat) (k : Nat) : Nat := 0x04000874 + 0x200 * n + 0x40 * k
@[simp] abbrev FPE_MSEC_TX_PN_HI (n : Nat) (k : Nat) : Nat := 0x04000878 + 0x200 * n + 0x40 * k
@[simp] abbrev FPE_MSEC_RX_SAK (n : Nat) (k : Nat) (w : Nat) : Nat := 0x040008C0 + 0x200 * n + 0x40 * k + 0x4 * w
@[simp] abbrev FPE_MSEC_RX_SALT (n : Nat) (k : Nat) (w : Nat) : Nat := 0x040008E0 + 0x200 * n + 0x40 * k + 0x4 * w
@[simp] abbrev FPE_MSEC_RX_SSCI (n : Nat) (k : Nat) : Nat := 0x040008EC + 0x200 * n + 0x40 * k
@[simp] abbrev FPE_MSEC_RX_AN (n : Nat) (k : Nat) : Nat := 0x040008F0 + 0x200 * n + 0x40 * k
@[simp] abbrev FPE_MSEC_RX_PN_LO (n : Nat) (k : Nat) : Nat := 0x040008F4 + 0x200 * n + 0x40 * k
@[simp] abbrev FPE_MSEC_RX_PN_HI (n : Nat) (k : Nat) : Nat := 0x040008F8 + 0x200 * n + 0x40 * k
@[simp] abbrev FPE_FLOW_CFG (f : Nat) : Nat := 0x04010000 + 0x100 * f
@[simp] abbrev FPE_FLOW_CFG2 (f : Nat) : Nat := 0x04010004 + 0x100 * f
@[simp] abbrev FPE_FLOW_RATE (f : Nat) : Nat := 0x04010008 + 0x100 * f
@[simp] abbrev FPE_FLOW_WIN_UP (f : Nat) : Nat := 0x0401000C + 0x100 * f
@[simp] abbrev FPE_FLOW_ADV (f : Nat) : Nat := 0x04010010 + 0x100 * f
@[simp] abbrev FPE_FLOW_WIN_UL (f : Nat) : Nat := 0x04010014 + 0x100 * f
@[simp] abbrev FPE_FLOW_STAT (f : Nat) : Nat := 0x04010018 + 0x100 * f
@[simp] abbrev FPE_FLOW_CNT0 (f : Nat) : Nat := 0x04010020 + 0x100 * f
@[simp] abbrev FPE_FLOW_CNT1 (f : Nat) : Nat := 0x04010024 + 0x100 * f
@[simp] abbrev FPE_FLOW_CNT2 (f : Nat) : Nat := 0x04010028 + 0x100 * f
@[simp] abbrev FPE_FLOW_CNT3 (f : Nat) : Nat := 0x0401002C + 0x100 * f
@[simp] abbrev FPE_FLOW_CNT4 (f : Nat) : Nat := 0x04010030 + 0x100 * f
@[simp] abbrev FPE_FLOW_CNT5 (f : Nat) : Nat := 0x04010034 + 0x100 * f
@[simp] abbrev FPE_FLOW_CNT6 (f : Nat) : Nat := 0x04010038 + 0x100 * f
@[simp] abbrev FPE_FLOW_CNT7 (f : Nat) : Nat := 0x0401003C + 0x100 * f

/-! Registers of the beamforming engine (R138). -/

@[simp] abbrev BFE_CTRL : Nat := 0x06000000
@[simp] abbrev BFE_STATUS : Nat := 0x06000004
@[simp] abbrev BFE_CNT0 : Nat := 0x06000008
@[simp] abbrev BFE_CNT1 : Nat := 0x0600000C
@[simp] abbrev BFE_CNT2 : Nat := 0x06000010
@[simp] abbrev BFE_ELIDE_TX_LO : Nat := 0x06000020
@[simp] abbrev BFE_ELIDE_TX_HI : Nat := 0x06000024
@[simp] abbrev BFE_ELIDE_RX_LO : Nat := 0x06000028
@[simp] abbrev BFE_ELIDE_RX_HI : Nat := 0x0600002C
@[simp] abbrev BFE_FORCE_TX_LO : Nat := 0x06000030
@[simp] abbrev BFE_FORCE_TX_HI : Nat := 0x06000034
@[simp] abbrev BFE_FORCE_RX_LO : Nat := 0x06000038
@[simp] abbrev BFE_FORCE_RX_HI : Nat := 0x0600003C
@[simp] abbrev BFE_STRD_CFG : Nat := 0x06000060
@[simp] abbrev BFE_STRD_STAT : Nat := 0x06000064
@[simp] abbrev BFE_STRD_CAP : Nat := 0x06000068
@[simp] abbrev BFE_SLICE_LOAD (k : Nat) : Nat := 0x06000040 + 0x4 * k
@[simp] abbrev BFE_AC_CFG (a : Nat) : Nat := 0x06000100 + 0x10 * a
@[simp] abbrev BFE_AC_GAIN (a : Nat) : Nat := 0x06000104 + 0x10 * a
@[simp] abbrev BFE_AC_STAT (a : Nat) : Nat := 0x06000108 + 0x10 * a
@[simp] abbrev BFE_FLOW_BIND (f : Nat) : Nat := 0x06010000 + 0x100 * f
@[simp] abbrev BFE_FLOW_STAT (f : Nat) : Nat := 0x06010004 + 0x100 * f
@[simp] abbrev BFE_PATH_CAL_TX (p : Nat) : Nat := 0x06040000 + 0x1000 * p
@[simp] abbrev BFE_PATH_CAL_RX (p : Nat) : Nat := 0x06040004 + 0x1000 * p
@[simp] abbrev BFE_PATH_CNT (p : Nat) : Nat := 0x06040008 + 0x1000 * p

/-! Registers of the weight store and solver (R168). -/

@[simp] abbrev BFE_WS_CTRL : Nat := 0x06100000
@[simp] abbrev BFE_WS_STAT0 : Nat := 0x06100004
@[simp] abbrev BFE_WS_STAT1 : Nat := 0x06100008
@[simp] abbrev BFE_WS_CMD : Nat := 0x0610000C
@[simp] abbrev BFE_WS_CMD_STAT : Nat := 0x06100010
@[simp] abbrev BFE_WS_CNT0 : Nat := 0x06100014
@[simp] abbrev BFE_WS_CNT1 : Nat := 0x06100018
@[simp] abbrev BFE_WS_CNT2 : Nat := 0x0610001C
@[simp] abbrev BFE_WS_CNT3 : Nat := 0x06100020
@[simp] abbrev BFE_WS_CNT4 : Nat := 0x06100024
@[simp] abbrev BFE_WS_CNT5 : Nat := 0x06100028
@[simp] abbrev BFE_WS_CNT6 : Nat := 0x0610002C
@[simp] abbrev BFE_WS_TIMING : Nat := 0x06100030
@[simp] abbrev BFE_WS_LIB_BASE (n : Nat) : Nat := 0x06100040 + 0x8 * n
@[simp] abbrev BFE_WS_LIB_META (n : Nat) : Nat := 0x06100044 + 0x8 * n
@[simp] abbrev BFE_WS_AC_CFG (a : Nat) : Nat := 0x06100100 + 0x10 * a
@[simp] abbrev BFE_WS_AC_STAT (a : Nat) : Nat := 0x06100104 + 0x10 * a
@[simp] abbrev BFE_WS_FLOW_CFG (f : Nat) : Nat := 0x06110000 + 0x100 * f
@[simp] abbrev BFE_WS_TAG_0 (s : Nat) : Nat := 0x06200000 + 0x8 * s
@[simp] abbrev BFE_WS_TAG_1 (s : Nat) : Nat := 0x06200004 + 0x8 * s
@[simp] abbrev BFE_WS_SET_W (s : Nat) (p : Nat) : Nat := 0x06400000 + 0x100 * s + 0x4 * p

/-! Registers of the spectral processing (R196). -/

@[simp] abbrev LPE_STATUS : Nat := 0x07000000
@[simp] abbrev LPE_FACET_WTX_LO (k : Nat) : Nat := 0x07000100 + 0x40 * k
@[simp] abbrev LPE_FACET_WTX_HI (k : Nat) : Nat := 0x07000104 + 0x40 * k
@[simp] abbrev LPE_FACET_WRX_LO (k : Nat) : Nat := 0x07000108 + 0x40 * k
@[simp] abbrev LPE_FACET_WRX_HI (k : Nat) : Nat := 0x0700010C + 0x40 * k
@[simp] abbrev LPE_FACET_PLAN (k : Nat) : Nat := 0x07000110 + 0x40 * k
@[simp] abbrev LPE_FACET_NCOCTL (k : Nat) : Nat := 0x07000114 + 0x40 * k
@[simp] abbrev LPE_FACET_LOAD (k : Nat) : Nat := 0x07000118 + 0x40 * k
@[simp] abbrev LPE_CAR_CFG (c : Nat) : Nat := 0x07001000 + 0x100 * c
@[simp] abbrev LPE_CAR_DL_FTW_LO (c : Nat) : Nat := 0x07001004 + 0x100 * c
@[simp] abbrev LPE_CAR_DL_FTW_HI (c : Nat) : Nat := 0x07001008 + 0x100 * c
@[simp] abbrev LPE_CAR_UL_FTW_LO (c : Nat) : Nat := 0x0700100C + 0x100 * c
@[simp] abbrev LPE_CAR_UL_FTW_HI (c : Nat) : Nat := 0x07001010 + 0x100 * c
@[simp] abbrev LPE_CAR_SYM0 (c : Nat) : Nat := 0x07001014 + 0x100 * c
@[simp] abbrev LPE_CAR_SYM1 (c : Nat) : Nat := 0x07001018 + 0x100 * c
@[simp] abbrev LPE_CAR_SYMCTL (c : Nat) : Nat := 0x0700101C + 0x100 * c
@[simp] abbrev LPE_CAR_PRACH (c : Nat) : Nat := 0x07001020 + 0x100 * c
@[simp] abbrev LPE_CAR_CNT0 (c : Nat) : Nat := 0x07001024 + 0x100 * c
@[simp] abbrev LPE_CAR_CNT1 (c : Nat) : Nat := 0x07001028 + 0x100 * c
@[simp] abbrev LPE_PATH_CNT (p : Nat) : Nat := 0x07100000 + 0x1000 * p

/-! Registers of the linearisation (R232). -/

@[simp] abbrev LDE_CTRL : Nat := 0x08000000
@[simp] abbrev LDE_STATUS : Nat := 0x08000004
@[simp] abbrev LDE_ADAPT_CFG : Nat := 0x08000008
@[simp] abbrev LDE_ADAPT_CFG2 : Nat := 0x0800000C
@[simp] abbrev LDE_CNT0 : Nat := 0x08000010
@[simp] abbrev LDE_CNT1 : Nat := 0x08000014
@[simp] abbrev LDE_CNT2 : Nat := 0x08000018
@[simp] abbrev LDE_FACET_TCFG (k : Nat) : Nat := 0x08000100 + 0x40 * k
@[simp] abbrev LDE_FACET_EVM_LO (k : Nat) : Nat := 0x08000104 + 0x40 * k
@[simp] abbrev LDE_FACET_EVM_HI (k : Nat) : Nat := 0x08000108 + 0x40 * k
@[simp] abbrev LDE_ORX_CFG (j : Nat) : Nat := 0x08000200 + 0x10 * j
@[simp] abbrev LDE_ORX_STAT (j : Nat) : Nat := 0x08000204 + 0x10 * j
@[simp] abbrev LDE_ORX_TCAP (j : Nat) : Nat := 0x08000208 + 0x10 * j
@[simp] abbrev LDE_FACET_TERM (k : Nat) (t : Nat) : Nat := 0x08001000 + 0x200 * k + 0x4 * t
@[simp] abbrev LDE_PATH_CFG (p : Nat) : Nat := 0x08100000 + 0x1000 * p
@[simp] abbrev LDE_PATH_CFR (p : Nat) : Nat := 0x08100004 + 0x1000 * p
@[simp] abbrev LDE_PATH_NB (p : Nat) : Nat := 0x08100008 + 0x1000 * p
@[simp] abbrev LDE_PATH_BANKSEL (p : Nat) : Nat := 0x0810000C + 0x1000 * p
@[simp] abbrev LDE_PATH_PGAIN (p : Nat) : Nat := 0x08100010 + 0x1000 * p
@[simp] abbrev LDE_PATH_BANKCTL (p : Nat) : Nat := 0x08100014 + 0x1000 * p
@[simp] abbrev LDE_PATH_STAT (p : Nat) : Nat := 0x08100018 + 0x1000 * p
@[simp] abbrev LDE_PATH_ACLR (p : Nat) : Nat := 0x0810001C + 0x1000 * p
@[simp] abbrev LDE_PATH_PC (p : Nat) : Nat := 0x08100020 + 0x1000 * p
@[simp] abbrev LDE_PATH_PCSTAT (p : Nat) : Nat := 0x08100024 + 0x1000 * p
@[simp] abbrev LDE_PATH_LOOP (p : Nat) : Nat := 0x08100028 + 0x1000 * p
@[simp] abbrev LDE_PATH_CNT0 (p : Nat) : Nat := 0x08100030 + 0x1000 * p
@[simp] abbrev LDE_PATH_CNT1 (p : Nat) : Nat := 0x08100034 + 0x1000 * p
@[simp] abbrev LDE_PATH_CNT2 (p : Nat) : Nat := 0x08100038 + 0x1000 * p
@[simp] abbrev LDE_PATH_CNT3 (p : Nat) : Nat := 0x0810003C + 0x1000 * p
@[simp] abbrev LDE_PATH_STG (p : Nat) (i : Nat) : Nat := 0x08100100 + 0x1000 * p + 0x4 * i
@[simp] abbrev LDE_PATH_BANK_ACT_C (p : Nat) (b : Nat) (i : Nat) : Nat := 0x08200000 + 0x4000 * p + 0x400 * b + 0x4 * i
@[simp] abbrev LDE_PATH_BANK_PREV_C (p : Nat) (b : Nat) (i : Nat) : Nat := 0x08200200 + 0x4000 * p + 0x400 * b + 0x4 * i

/-! Registers of the converters (R273). -/

@[simp] abbrev CVA_CTRL : Nat := 0x09000000
@[simp] abbrev CVA_STATUS : Nat := 0x09000004
@[simp] abbrev CVA_SUP_CFG : Nat := 0x09000008
@[simp] abbrev CVA_CAL_CFG : Nat := 0x09000010
@[simp] abbrev CVA_CAL_CMD : Nat := 0x09000014
@[simp] abbrev CVA_CAL_STAT : Nat := 0x09000018
@[simp] abbrev CVA_CAL_CNT : Nat := 0x0900001C
@[simp] abbrev CVA_FACET_CFG (k : Nat) : Nat := 0x09000100 + 0x40 * k
@[simp] abbrev CVA_FACET_OVR (k : Nat) : Nat := 0x09000104 + 0x40 * k
@[simp] abbrev CVA_FACET_STAT (k : Nat) : Nat := 0x09000108 + 0x40 * k
@[simp] abbrev CVA_ORX_CFG (j : Nat) : Nat := 0x09000200 + 0x10 * j
@[simp] abbrev CVA_ORX_STAT (j : Nat) : Nat := 0x09000204 + 0x10 * j
@[simp] abbrev CVA_WFM_CFG (k : Nat) : Nat := 0x09000400 + 0x40 * k
@[simp] abbrev CVA_WFM_RANGE (k : Nat) : Nat := 0x09000404 + 0x40 * k
@[simp] abbrev CVA_WFM_PATHS (k : Nat) : Nat := 0x09000408 + 0x40 * k
@[simp] abbrev CVA_WFM_GAIN (k : Nat) : Nat := 0x0900040C + 0x40 * k
@[simp] abbrev CVA_WFM_STAT (k : Nat) : Nat := 0x09000410 + 0x40 * k
@[simp] abbrev CVA_TX_CFG (p : Nat) : Nat := 0x09100000 + 0x1000 * p
@[simp] abbrev CVA_TX_RANGE (p : Nat) : Nat := 0x09100004 + 0x1000 * p
@[simp] abbrev CVA_TX_DLY (p : Nat) : Nat := 0x09100008 + 0x1000 * p
@[simp] abbrev CVA_TX_RCTL (p : Nat) : Nat := 0x0910000C + 0x1000 * p
@[simp] abbrev CVA_TX_QCODE (p : Nat) : Nat := 0x09100010 + 0x1000 * p
@[simp] abbrev CVA_TX_SUP (p : Nat) : Nat := 0x09100014 + 0x1000 * p
@[simp] abbrev CVA_TX_CNT0 (p : Nat) : Nat := 0x09100018 + 0x1000 * p
@[simp] abbrev CVA_TX_CNT1 (p : Nat) : Nat := 0x0910001C + 0x1000 * p
@[simp] abbrev CVA_RX_CFG (p : Nat) : Nat := 0x09100100 + 0x1000 * p
@[simp] abbrev CVA_RX_DLY (p : Nat) : Nat := 0x09100104 + 0x1000 * p
@[simp] abbrev CVA_RX_STAT (p : Nat) : Nat := 0x09100108 + 0x1000 * p
@[simp] abbrev CVA_RX_CNT (p : Nat) : Nat := 0x0910010C + 0x1000 * p
@[simp] abbrev CVA_WFM_D (k : Nat) (i : Nat) : Nat := 0x09800000 + 0x40000 * k + 0x4 * i

/-! Registers of the sample-clock synthesis (R298). -/

@[simp] abbrev RCS_CTRL : Nat := 0x0A000000
@[simp] abbrev RCS_STATUS : Nat := 0x0A000004
@[simp] abbrev RCS_CMD : Nat := 0x0A000008
@[simp] abbrev RCS_CMD_STAT : Nat := 0x0A00000C
@[simp] abbrev RCS_TRACK : Nat := 0x0A000010
@[simp] abbrev RCS_EXT_CFG : Nat := 0x0A000014
@[simp] abbrev RCS_SYNC_CFG : Nat := 0x0A000018
@[simp] abbrev RCS_SYNC_STAT : Nat := 0x0A00001C
@[simp] abbrev RCS_CNT0 : Nat := 0x0A000020
@[simp] abbrev RCS_CNT1 : Nat := 0x0A000024
@[simp] abbrev RCS_TC_FREQ (e : Nat) : Nat := 0x0A000100 + 0x20 * e
@[simp] abbrev RCS_TC_CFG (e : Nat) : Nat := 0x0A000104 + 0x20 * e
@[simp] abbrev RCS_TC_CALA (e : Nat) (n : Nat) : Nat := 0x0A000108 + 0x20 * e + 0x4 * n
@[simp] abbrev RCS_TC_CALB (e : Nat) (n : Nat) : Nat := 0x0A000114 + 0x20 * e + 0x4 * n

/-! Registers of the serial lanes and Strand links (R324). -/

@[simp] abbrev SRD_CTRL : Nat := 0x0B000000
@[simp] abbrev SRD_STATUS : Nat := 0x0B000004
@[simp] abbrev SRD_SERVICE : Nat := 0x0B000008
@[simp] abbrev SRD_EVT : Nat := 0x0B00000C
@[simp] abbrev SRD_S_CFG (x : Nat) : Nat := 0x0B000100 + 0x20 * x
@[simp] abbrev SRD_S_STAT (x : Nat) : Nat := 0x0B000104 + 0x20 * x
@[simp] abbrev SRD_S_CNT0 (x : Nat) : Nat := 0x0B000108 + 0x20 * x
@[simp] abbrev SRD_S_CNT1 (x : Nat) : Nat := 0x0B00010C + 0x20 * x
@[simp] abbrev SRD_LANE_CFG (l : Nat) : Nat := 0x0B001000 + 0x100 * l
@[simp] abbrev SRD_LANE_TRATE (l : Nat) : Nat := 0x0B001004 + 0x100 * l
@[simp] abbrev SRD_LANE_STAT (l : Nat) : Nat := 0x0B001008 + 0x100 * l
@[simp] abbrev SRD_LANE_LQI (l : Nat) : Nat := 0x0B00100C + 0x100 * l
@[simp] abbrev SRD_LANE_TXEQ (l : Nat) : Nat := 0x0B001010 + 0x100 * l
@[simp] abbrev SRD_LANE_RXEQ (l : Nat) : Nat := 0x0B001014 + 0x100 * l
@[simp] abbrev SRD_LANE_PRBS (l : Nat) : Nat := 0x0B001018 + 0x100 * l
@[simp] abbrev SRD_LANE_PRBS_ERR (l : Nat) : Nat := 0x0B00101C + 0x100 * l
@[simp] abbrev SRD_LANE_PRBS_BITS_LO (l : Nat) : Nat := 0x0B001020 + 0x100 * l
@[simp] abbrev SRD_LANE_PRBS_BITS_HI (l : Nat) : Nat := 0x0B001024 + 0x100 * l
@[simp] abbrev SRD_LANE_CNT (l : Nat) : Nat := 0x0B001028 + 0x100 * l

/-! Registers of the T1640 persona (R347 to R350). -/

@[simp] abbrev LGC_LINK_CTRL (n : Nat) : Nat := 0x10000400 + 0x400 * n
@[simp] abbrev LGC_LINK_STATE (n : Nat) : Nat := 0x10000404 + 0x400 * n
@[simp] abbrev LGC_LINK_TMO (n : Nat) : Nat := 0x10000408 + 0x400 * n
@[simp] abbrev LGC_LINK_TMO2 (n : Nat) : Nat := 0x1000040C + 0x400 * n
@[simp] abbrev LGC_LINK_TOFS (n : Nat) : Nat := 0x10000410 + 0x400 * n
@[simp] abbrev LGC_LINK_DLY (n : Nat) : Nat := 0x10000414 + 0x400 * n
@[simp] abbrev LGC_LINK_DLY2 (n : Nat) : Nat := 0x10000418 + 0x400 * n
@[simp] abbrev LGC_LINK_CNT (n : Nat) : Nat := 0x1000041C + 0x400 * n
@[simp] abbrev VP_ID : Nat := 0x1000FC00
@[simp] abbrev VP_REV : Nat := 0x1000FC04
@[simp] abbrev VP_QUIRK : Nat := 0x1000FC08
@[simp] abbrev VP_STATUS : Nat := 0x1000FC0C
@[simp] abbrev VP_WIN_A_LO : Nat := 0x1000FC40
@[simp] abbrev VP_WIN_A_HI : Nat := 0x1000FC44
@[simp] abbrev VP_WIN_D_LO : Nat := 0x1000FC48
@[simp] abbrev VP_WIN_D_HI : Nat := 0x1000FC4C
@[simp] abbrev VP_MAC (n : Nat) : Nat := 0x1000FC80 + 0x4 * n
@[simp] abbrev LGC_COL_PATHS (i : Nat) : Nat := 0x10010000 + 0x20 * i
@[simp] abbrev LGC_COL_W (i : Nat) (j : Nat) : Nat := 0x10010004 + 0x20 * i + 0x4 * j

/-! Registers of the Yakea cluster (R387). -/

@[simp] abbrev DSP_CTRL : Nat := 0x0C000000
@[simp] abbrev DSP_STATUS : Nat := 0x0C000004
@[simp] abbrev DSP_Y_PC (n : Nat) : Nat := 0x0C000100 + 0x40 * n
@[simp] abbrev DSP_Y_FAULT (n : Nat) : Nat := 0x0C000104 + 0x40 * n
@[simp] abbrev DSP_Y_FAR (n : Nat) : Nat := 0x0C000108 + 0x40 * n
@[simp] abbrev DSP_Y_MBI (n : Nat) : Nat := 0x0C00010C + 0x40 * n
@[simp] abbrev DSP_Y_MBO (n : Nat) : Nat := 0x0C000110 + 0x40 * n
@[simp] abbrev DSP_Y_MBSTAT (n : Nat) : Nat := 0x0C000114 + 0x40 * n
@[simp] abbrev DSP_Y_WDOG (n : Nat) : Nat := 0x0C000118 + 0x40 * n
@[simp] abbrev DSP_Y_KCFG (n : Nat) : Nat := 0x0C00011C + 0x40 * n
@[simp] abbrev DSP_Y_CNT (n : Nat) : Nat := 0x0C000120 + 0x40 * n

/-! Registers of the clause engines (R401). -/

@[simp] abbrev CLS_CE_CTRL (n : Nat) : Nat := 0x0D000000 + 0x100 * n
@[simp] abbrev CLS_CE_STAT (n : Nat) : Nat := 0x0D000004 + 0x100 * n
@[simp] abbrev CLS_CE_EVPEND (n : Nat) : Nat := 0x0D000008 + 0x100 * n
@[simp] abbrev CLS_CE_EVSET (n : Nat) : Nat := 0x0D00000C + 0x100 * n
@[simp] abbrev CLS_CE_FAULT (n : Nat) : Nat := 0x0D000010 + 0x100 * n
@[simp] abbrev CLS_CE_CNT0 (n : Nat) : Nat := 0x0D000014 + 0x100 * n
@[simp] abbrev CLS_CE_CNT1 (n : Nat) : Nat := 0x0D000018 + 0x100 * n
@[simp] abbrev CLS_CE_SLOT (n : Nat) (s : Nat) : Nat := 0x0D000040 + 0x100 * n + 0x4 * s

/-! Registers of the memory and Data Mover (R434). -/

@[simp] abbrev MEM_CTRL : Nat := 0x0E000000
@[simp] abbrev MEM_STATUS : Nat := 0x0E000004
@[simp] abbrev MEM_DRAM_CFG : Nat := 0x0E000008
@[simp] abbrev MEM_DRAM_WIN : Nat := 0x0E00000C
@[simp] abbrev MEM_CNT0 : Nat := 0x0E000010
@[simp] abbrev MEM_CNT1 : Nat := 0x0E000014
@[simp] abbrev MEM_CNT2 : Nat := 0x0E000018
@[simp] abbrev MEM_CNT3 : Nat := 0x0E00001C
@[simp] abbrev MEM_LAST_ERR : Nat := 0x0E000020
@[simp] abbrev MEM_LAST_ADDR : Nat := 0x0E000024
@[simp] abbrev MEM_CAP_STAT : Nat := 0x0E000400
@[simp] abbrev MEM_CAP_CFG : Nat := 0x0E000404
@[simp] abbrev MEM_CAP_CMD : Nat := 0x0E000408
@[simp] abbrev MEM_CAP_CNT : Nat := 0x0E000420
@[simp] abbrev DMV_ALLOC : Nat := 0x0E001000
@[simp] abbrev DMV_STATUS : Nat := 0x0E001004
@[simp] abbrev MEM_UE_CNT (r : Nat) : Nat := 0x0E000040 + 0x4 * r
@[simp] abbrev MEM_CAP_MASK (m : Nat) : Nat := 0x0E000410 + 0x4 * m
@[simp] abbrev MEM_CAP_OWNER (p : Nat) : Nat := 0x0E000800 + 0x4 * p
@[simp] abbrev DMV_CH_LIST (c : Nat) : Nat := 0x0E002000 + 0x40 * c
@[simp] abbrev DMV_CH_CMD (c : Nat) : Nat := 0x0E002004 + 0x40 * c
@[simp] abbrev DMV_CH_STAT (c : Nat) : Nat := 0x0E002008 + 0x40 * c
@[simp] abbrev DMV_CH_CUR (c : Nat) : Nat := 0x0E00200C + 0x40 * c
@[simp] abbrev DMV_CH_RESIDUE (c : Nat) : Nat := 0x0E002010 + 0x40 * c
@[simp] abbrev DMV_CH_CNT (c : Nat) : Nat := 0x0E002014 + 0x40 * c

/-! Registers of the monitors, front end and Locket (R458). -/

@[simp] abbrev MON_SEL (x : Nat) : Nat := 0x0F000000 + 0x200 * x
@[simp] abbrev MON_RES (x : Nat) : Nat := 0x0F000004 + 0x200 * x
@[simp] abbrev MON_URG (x : Nat) : Nat := 0x0F000008 + 0x200 * x
@[simp] abbrev MON_URES (x : Nat) : Nat := 0x0F00000C + 0x200 * x
@[simp] abbrev MON_STAT (x : Nat) : Nat := 0x0F000010 + 0x200 * x
@[simp] abbrev MON_CNT (x : Nat) : Nat := 0x0F000014 + 0x200 * x
@[simp] abbrev MON_SEQ (x : Nat) (e : Nat) : Nat := 0x0F000040 + 0x200 * x + 0x4 * e
@[simp] abbrev MON_SRES (x : Nat) (e : Nat) : Nat := 0x0F000080 + 0x200 * x + 0x4 * e
@[simp] abbrev MON_STATUS : Nat := 0x0F000800
@[simp] abbrev MON_THR_CFG (t : Nat) : Nat := 0x0F000900 + 0x10 * t
@[simp] abbrev MON_THR_LIM (t : Nat) : Nat := 0x0F000904 + 0x10 * t
@[simp] abbrev MON_THR_STAT (t : Nat) : Nat := 0x0F000908 + 0x10 * t
@[simp] abbrev FEN_FACET_BUS (k : Nat) : Nat := 0x0F001000 + 0x100 * k
@[simp] abbrev FEN_FACET_CTL (k : Nat) : Nat := 0x0F001004 + 0x100 * k
@[simp] abbrev FEN_FACET_RING (k : Nat) : Nat := 0x0F001008 + 0x100 * k
@[simp] abbrev FEN_FACET_RD (k : Nat) : Nat := 0x0F001050 + 0x100 * k
@[simp] abbrev FEN_FACET_STAT (k : Nat) : Nat := 0x0F001054 + 0x100 * k
@[simp] abbrev FEN_FACET_D (k : Nat) (j : Nat) : Nat := 0x0F001010 + 0x100 * k + 0x4 * j
@[simp] abbrev FEN_FACET_E_CTL (k : Nat) (i : Nat) : Nat := 0x0F008000 + 0x1000 * k + 0x8 * i
@[simp] abbrev FEN_FACET_E_DAT (k : Nat) (i : Nat) : Nat := 0x0F008004 + 0x1000 * k + 0x8 * i
@[simp] abbrev FEN_STB_CFG (s : Nat) : Nat := 0x0F002000 + 0x4 * s
@[simp] abbrev FEN_STB_STAT : Nat := 0x0F002040
@[simp] abbrev FEN_TDD (r : Nat) : Nat := 0x0F002100 + 0x4 * r
@[simp] abbrev FEN_ORX_LVL (r : Nat) : Nat := 0x0F002200 + 0x8 * r
@[simp] abbrev FEN_ORX_MASK (r : Nat) : Nat := 0x0F002204 + 0x8 * r
@[simp] abbrev FEN_ORX_STAT : Nat := 0x0F002300
@[simp] abbrev LKT_CTRL : Nat := 0x0F003000
@[simp] abbrev LKT_STAT : Nat := 0x0F003004
@[simp] abbrev LKT_RNG_LO (n : Nat) : Nat := 0x0F003010 + 0x8 * n
@[simp] abbrev LKT_RNG_HI (n : Nat) : Nat := 0x0F003014 + 0x8 * n
@[simp] abbrev LKT_LEVEL : Nat := 0x0F003050
@[simp] abbrev LKT_DUTY : Nat := 0x0F003054
@[simp] abbrev LKT_JKEY (w : Nat) : Nat := 0x0F003060 + 0x4 * w
@[simp] abbrev LKT_CHAL (w : Nat) : Nat := 0x0F003090 + 0x4 * w
@[simp] abbrev LKT_CNT : Nat := 0x0F0030A0
@[simp] abbrev PMON_CFG (m : Nat) : Nat := 0x0F010000 + 0x100 * m
@[simp] abbrev PMON_PER (m : Nat) : Nat := 0x0F010004 + 0x100 * m
@[simp] abbrev PMON_LO (m : Nat) : Nat := 0x0F010008 + 0x100 * m
@[simp] abbrev PMON_MIN (m : Nat) : Nat := 0x0F01000C + 0x100 * m
@[simp] abbrev PMON_MAX (m : Nat) : Nat := 0x0F010010 + 0x100 * m
@[simp] abbrev PMON_MEAN (m : Nat) : Nat := 0x0F010014 + 0x100 * m
@[simp] abbrev PMON_COUNT (m : Nat) : Nat := 0x0F010018 + 0x100 * m
@[simp] abbrev PMON_SEQ (m : Nat) : Nat := 0x0F01001C + 0x100 * m
@[simp] abbrev PMON_HIST (m : Nat) (i : Nat) : Nat := 0x0F010080 + 0x100 * m + 0x4 * i
@[simp] abbrev LKT_PATH_CNT (p : Nat) : Nat := 0x0F100000 + 0x1000 * p

/-! Registers of the power states (R481). -/

@[simp] abbrev PWS_MODE : Nat := 0x02000000
@[simp] abbrev PWS_STATUS : Nat := 0x02000004
@[simp] abbrev PWS_KEEP : Nat := 0x02000008
@[simp] abbrev PWS_LISTEN : Nat := 0x0200000C
@[simp] abbrev PWS_WAKE : Nat := 0x02000010
@[simp] abbrev PWS_PMIC : Nat := 0x02000014
@[simp] abbrev PWS_BUDGET : Nat := 0x02000018
@[simp] abbrev PWS_EST : Nat := 0x0200001C
@[simp] abbrev PWS_SLEEP : Nat := 0x02000020
@[simp] abbrev PWS_CNT0 : Nat := 0x02000024
@[simp] abbrev PWS_CNT1 : Nat := 0x02000028
@[simp] abbrev PWS_RAMP_STAT : Nat := 0x0200002C
@[simp] abbrev PWS_CLIENT (c : Nat) : Nat := 0x02000040 + 0x4 * c
@[simp] abbrev PWS_FACET_CNT (k : Nat) : Nat := 0x02000100 + 0x4 * k
@[simp] abbrev PWS_RAMP (r : Nat) : Nat := 0x02000200 + 0x4 * r

/-! Registers of the Fault Hub (R502). -/

@[simp] abbrev FLT_CTRL : Nat := 0x01000000
@[simp] abbrev FLT_STATUS : Nat := 0x01000004
@[simp] abbrev FLT_CLEAR : Nat := 0x01000008
@[simp] abbrev FLT_QUIET : Nat := 0x0100000C
@[simp] abbrev FLT_CNT0 : Nat := 0x01000010
@[simp] abbrev FLT_CNT1 : Nat := 0x01000014
@[simp] abbrev FLT_CNT2 : Nat := 0x01000018
@[simp] abbrev FLT_HOST : Nat := 0x0100001C
@[simp] abbrev FLT_HOST_KICK : Nat := 0x01000020
@[simp] abbrev FLT_STBMAP0 : Nat := 0x01000024
@[simp] abbrev FLT_STBMAP1 : Nat := 0x01000028
@[simp] abbrev FLT_HUB_TX_LO : Nat := 0x01000030
@[simp] abbrev FLT_HUB_TX_HI : Nat := 0x01000034
@[simp] abbrev FLT_HUB_RX_LO : Nat := 0x01000038
@[simp] abbrev FLT_HUB_RX_HI : Nat := 0x0100003C
@[simp] abbrev FLT_QPATH_LO : Nat := 0x01000040
@[simp] abbrev FLT_QPATH_HI : Nat := 0x01000044
@[simp] abbrev FLT_LOG_CODE : Nat := 0x01000050
@[simp] abbrev FLT_LOG_TS_LO : Nat := 0x01000054
@[simp] abbrev FLT_LOG_TS_HI : Nat := 0x01000058
@[simp] abbrev FLT_LOG_POP : Nat := 0x0100005C
@[simp] abbrev FLT_SRC_CODE (i : Nat) : Nat := 0x01000100 + 0x10 * i
@[simp] abbrev FLT_SRC_STAT (i : Nat) : Nat := 0x01000104 + 0x10 * i
@[simp] abbrev FLT_SRC_AGE (i : Nat) : Nat := 0x01000108 + 0x10 * i

/-! Registers of the boot and ID (R523). -/

@[simp] abbrev BOOT_ID : Nat := 0x00000000
@[simp] abbrev BOOT_STRAP : Nat := 0x00000004
@[simp] abbrev BOOT_DIEID_LO : Nat := 0x00000008
@[simp] abbrev BOOT_DIEID_HI : Nat := 0x0000000C
@[simp] abbrev BOOT_STATUS : Nat := 0x00000010
@[simp] abbrev BOOT_ERR : Nat := 0x00000014
@[simp] abbrev BOOT_SEQ : Nat := 0x00000018
@[simp] abbrev BOOT_TIME : Nat := 0x0000001C
@[simp] abbrev BOOT_TXREL : Nat := 0x00000020
@[simp] abbrev BOOT_CTRL : Nat := 0x00000024
@[simp] abbrev BOOT_OTP : Nat := 0x00000028
@[simp] abbrev BOOT_FL_CMD : Nat := 0x00000030
@[simp] abbrev BOOT_FL_ADDR : Nat := 0x00000034
@[simp] abbrev BOOT_FL_STAT : Nat := 0x00000038
@[simp] abbrev BOOT_CAL : Nat := 0x00000040
@[simp] abbrev BOOT_FL_BUF (i : Nat) : Nat := 0x00000100 + 0x4 * i

end Reg

end Sys2Proof.Machine
end

