-- ==== Sys2Proof/Machine/Fields.lean ====
section
/-! DEFINITION. Machine/Fields.lean: the fields of the registers, written from the field tables of spec/: each field's
register, lowest bit and width, named <register>_<field>. -/

namespace Sys2Proof.Machine

namespace Fld

/-! Fields of the time and air timeline (R23 to R59). -/

@[simp] abbrev TIM_CTRL_SNAP : Fld := ⟨Reg.TIM_CTRL, 31, 1⟩
@[simp] abbrev TIM_CTRL_LOAD : Fld := ⟨Reg.TIM_CTRL, 30, 1⟩
@[simp] abbrev TIM_CTRL_ADJ_GO : Fld := ⟨Reg.TIM_CTRL, 29, 1⟩
@[simp] abbrev TIM_CTRL_SERVO_EN : Fld := ⟨Reg.TIM_CTRL, 4, 1⟩
@[simp] abbrev TIM_CTRL_TSRC : Fld := ⟨Reg.TIM_CTRL, 0, 2⟩
@[simp] abbrev TIM_STATUS_AIR_DRIFT : Fld := ⟨Reg.TIM_STATUS, 11, 1⟩
@[simp] abbrev TIM_STATUS_HOLD_EXPIRED : Fld := ⟨Reg.TIM_STATUS, 10, 1⟩
@[simp] abbrev TIM_STATUS_REALIGNED : Fld := ⟨Reg.TIM_STATUS, 9, 1⟩
@[simp] abbrev TIM_STATUS_STEPPED : Fld := ⟨Reg.TIM_STATUS, 8, 1⟩
@[simp] abbrev TIM_STATUS_REALIGNING : Fld := ⟨Reg.TIM_STATUS, 4, 1⟩
@[simp] abbrev TIM_STATUS_TIME_OK : Fld := ⟨Reg.TIM_STATUS, 3, 1⟩
@[simp] abbrev TIM_STATUS_STATE : Fld := ⟨Reg.TIM_STATUS, 0, 3⟩
@[simp] abbrev TIM_INCR_LO_FRAC : Fld := ⟨Reg.TIM_INCR_LO, 0, 32⟩
@[simp] abbrev TIM_INCR_HI_INT : Fld := ⟨Reg.TIM_INCR_HI, 0, 8⟩
@[simp] abbrev TIM_PHC_LO_NS : Fld := ⟨Reg.TIM_PHC_LO, 0, 32⟩
@[simp] abbrev TIM_PHC_HI_SEC : Fld := ⟨Reg.TIM_PHC_HI, 0, 32⟩
@[simp] abbrev TIM_SNAP_FRAC_FRAC : Fld := ⟨Reg.TIM_SNAP_FRAC, 0, 32⟩
@[simp] abbrev TIM_SNAP_NS_NS : Fld := ⟨Reg.TIM_SNAP_NS, 0, 32⟩
@[simp] abbrev TIM_SNAP_SEC_LO_SEC : Fld := ⟨Reg.TIM_SNAP_SEC_LO, 0, 32⟩
@[simp] abbrev TIM_SNAP_SEC_HI_SEC : Fld := ⟨Reg.TIM_SNAP_SEC_HI, 0, 16⟩
@[simp] abbrev TIM_SET_NS_NS : Fld := ⟨Reg.TIM_SET_NS, 0, 30⟩
@[simp] abbrev TIM_SET_SEC_LO_SEC : Fld := ⟨Reg.TIM_SET_SEC_LO, 0, 32⟩
@[simp] abbrev TIM_SET_SEC_HI_SEC : Fld := ⟨Reg.TIM_SET_SEC_HI, 0, 16⟩
@[simp] abbrev TIM_ADJ_OFS : Fld := ⟨Reg.TIM_ADJ, 0, 32⟩
@[simp] abbrev TIM_SRV_CFG_STEP_THRESH : Fld := ⟨Reg.TIM_SRV_CFG, 12, 20⟩
@[simp] abbrev TIM_SRV_CFG_BW : Fld := ⟨Reg.TIM_SRV_CFG, 8, 4⟩
@[simp] abbrev TIM_SRV_CFG_SLEW_TX : Fld := ⟨Reg.TIM_SRV_CFG, 4, 4⟩
@[simp] abbrev TIM_SRV_LOCK_LOCK_THRESH : Fld := ⟨Reg.TIM_SRV_LOCK, 16, 16⟩
@[simp] abbrev TIM_SRV_LOCK_LOCK_COUNT : Fld := ⟨Reg.TIM_SRV_LOCK, 8, 8⟩
@[simp] abbrev TIM_SRV_OFS_OFS : Fld := ⟨Reg.TIM_SRV_OFS, 0, 32⟩
@[simp] abbrev TIM_HOLD_HOLD_MAX : Fld := ⟨Reg.TIM_HOLD, 16, 16⟩
@[simp] abbrev TIM_HOLD_HOLD_AVG : Fld := ⟨Reg.TIM_HOLD, 0, 16⟩
@[simp] abbrev TIM_CNT_STEPS : Fld := ⟨Reg.TIM_CNT, 16, 16⟩
@[simp] abbrev TIM_CNT_REALIGNS : Fld := ⟨Reg.TIM_CNT, 0, 16⟩
@[simp] abbrev TIM_PTP_CFG_DOMAIN : Fld := ⟨Reg.TIM_PTP_CFG, 24, 8⟩
@[simp] abbrev TIM_PTP_CFG_PRIORITY2 : Fld := ⟨Reg.TIM_PTP_CFG, 16, 8⟩
@[simp] abbrev TIM_PTP_CFG_CLOCK_TYPE : Fld := ⟨Reg.TIM_PTP_CFG, 4, 1⟩
@[simp] abbrev TIM_PTP_CFG_NONFWD : Fld := ⟨Reg.TIM_PTP_CFG, 3, 1⟩
@[simp] abbrev TIM_SYNCE_CFG_EN : Fld := ⟨Reg.TIM_SYNCE_CFG, 31, 1⟩
@[simp] abbrev TIM_SYNCE_CFG_RCLK_EN : Fld := ⟨Reg.TIM_SYNCE_CFG, 30, 1⟩
@[simp] abbrev TIM_SYNCE_CFG_SRC : Fld := ⟨Reg.TIM_SYNCE_CFG, 24, 4⟩
@[simp] abbrev TIM_SYNCE_CFG_ALT : Fld := ⟨Reg.TIM_SYNCE_CFG, 20, 4⟩
@[simp] abbrev TIM_SYNCE_CFG_QL_MIN : Fld := ⟨Reg.TIM_SYNCE_CFG, 4, 4⟩
@[simp] abbrev TIM_SYNCE_STAT_ACTIVE : Fld := ⟨Reg.TIM_SYNCE_STAT, 28, 4⟩
@[simp] abbrev TIM_SYNCE_STAT_QL : Fld := ⟨Reg.TIM_SYNCE_STAT, 24, 4⟩
@[simp] abbrev TIM_SYNCE_STAT_STATE : Fld := ⟨Reg.TIM_SYNCE_STAT, 0, 2⟩
@[simp] abbrev TIM_PPS_CFG_OUT_EN : Fld := ⟨Reg.TIM_PPS_CFG, 31, 1⟩
@[simp] abbrev TIM_PPS_CFG_WIDTH_MS : Fld := ⟨Reg.TIM_PPS_CFG, 16, 12⟩
@[simp] abbrev TIM_PPS_CFG_OUT_COMP : Fld := ⟨Reg.TIM_PPS_CFG, 0, 16⟩
@[simp] abbrev TIM_TOD_CFG_UTC_OFS : Fld := ⟨Reg.TIM_TOD_CFG, 16, 16⟩
@[simp] abbrev TIM_TOD_CFG_TX_EN : Fld := ⟨Reg.TIM_TOD_CFG, 15, 1⟩
@[simp] abbrev TIM_TOD_CFG_BAUD : Fld := ⟨Reg.TIM_TOD_CFG, 12, 3⟩
@[simp] abbrev TIM_TOD_CFG_TOD_ERR : Fld := ⟨Reg.TIM_TOD_CFG, 0, 8⟩
@[simp] abbrev TIM_AIR_ALPHA_ALPHA : Fld := ⟨Reg.TIM_AIR_ALPHA, 0, 32⟩
@[simp] abbrev TIM_AIR_BETA_BETA : Fld := ⟨Reg.TIM_AIR_BETA, 0, 10⟩
@[simp] abbrev TIM_AIR_PEND_PEND : Fld := ⟨Reg.TIM_AIR_PEND, 0, 16⟩
@[simp] abbrev TIM_AIR_LAG_F3 : Fld := ⟨Reg.TIM_AIR_LAG, 24, 8⟩
@[simp] abbrev TIM_AIR_LAG_F2 : Fld := ⟨Reg.TIM_AIR_LAG, 16, 8⟩
@[simp] abbrev TIM_AIR_LAG_F1 : Fld := ⟨Reg.TIM_AIR_LAG, 8, 8⟩
@[simp] abbrev TIM_AIR_LAG_F0 : Fld := ⟨Reg.TIM_AIR_LAG, 0, 8⟩
@[simp] abbrev TIM_PORT_CFG_PTP_EN (n : Nat) : Fld := ⟨Reg.TIM_PORT_CFG n, 31, 1⟩
@[simp] abbrev TIM_PORT_CFG_MASTER_ONLY (n : Nat) : Fld := ⟨Reg.TIM_PORT_CFG n, 30, 1⟩
@[simp] abbrev TIM_PORT_CFG_LOCAL_PRIO (n : Nat) : Fld := ⟨Reg.TIM_PORT_CFG n, 16, 8⟩
@[simp] abbrev TIM_PORT_LAT_TX_LAT (n : Nat) : Fld := ⟨Reg.TIM_PORT_LAT n, 16, 16⟩
@[simp] abbrev TIM_PORT_LAT_RX_LAT (n : Nat) : Fld := ⟨Reg.TIM_PORT_LAT n, 0, 16⟩
@[simp] abbrev TIM_PORT_ASYM_ASYM (n : Nat) : Fld := ⟨Reg.TIM_PORT_ASYM n, 0, 32⟩
@[simp] abbrev TIM_AIR_CFG_EN (c : Nat) : Fld := ⟨Reg.TIM_AIR_CFG c, 31, 1⟩
@[simp] abbrev TIM_AIR_CFG_ECP (c : Nat) : Fld := ⟨Reg.TIM_AIR_CFG c, 30, 1⟩
@[simp] abbrev TIM_AIR_CFG_MU (c : Nat) : Fld := ⟨Reg.TIM_AIR_CFG c, 28, 2⟩
@[simp] abbrev TIM_AIR_CFG_REFUSED (c : Nat) : Fld := ⟨Reg.TIM_AIR_CFG c, 27, 1⟩
@[simp] abbrev TIM_AIR_POS_SFN (c : Nat) : Fld := ⟨Reg.TIM_AIR_POS c, 22, 10⟩
@[simp] abbrev TIM_AIR_POS_SUBFRAME (c : Nat) : Fld := ⟨Reg.TIM_AIR_POS c, 18, 4⟩
@[simp] abbrev TIM_AIR_POS_SLOT (c : Nat) : Fld := ⟨Reg.TIM_AIR_POS c, 16, 2⟩
@[simp] abbrev TIM_AIR_POS_SYMBOL (c : Nat) : Fld := ⟨Reg.TIM_AIR_POS c, 12, 4⟩
@[simp] abbrev TIM_AIR_POS_VALID (c : Nat) : Fld := ⟨Reg.TIM_AIR_POS c, 0, 1⟩
@[simp] abbrev TIM_TRG_CFG_ARM (n : Nat) : Fld := ⟨Reg.TIM_TRG_CFG n, 31, 1⟩
@[simp] abbrev TIM_TRG_CFG_MODE (n : Nat) : Fld := ⟨Reg.TIM_TRG_CFG n, 30, 1⟩
@[simp] abbrev TIM_TRG_CFG_CAR (n : Nat) : Fld := ⟨Reg.TIM_TRG_CFG n, 24, 5⟩
@[simp] abbrev TIM_TRG_CFG_CLASS (n : Nat) : Fld := ⟨Reg.TIM_TRG_CFG n, 20, 4⟩
@[simp] abbrev TIM_TRG_CFG_ARG (n : Nat) : Fld := ⟨Reg.TIM_TRG_CFG n, 8, 8⟩
@[simp] abbrev TIM_TRG_PERIOD_PERIOD (n : Nat) : Fld := ⟨Reg.TIM_TRG_PERIOD n, 0, 32⟩
@[simp] abbrev TIM_TRG_TIME_LO_NS (n : Nat) : Fld := ⟨Reg.TIM_TRG_TIME_LO n, 0, 32⟩
@[simp] abbrev TIM_TRG_TIME_HI_SEC (n : Nat) : Fld := ⟨Reg.TIM_TRG_TIME_HI n, 0, 32⟩
@[simp] abbrev TIM_TRG_STAT_FIRED (n : Nat) : Fld := ⟨Reg.TIM_TRG_STAT n, 31, 1⟩
@[simp] abbrev TIM_TRG_STAT_SKIPPED (n : Nat) : Fld := ⟨Reg.TIM_TRG_STAT n, 30, 1⟩
@[simp] abbrev TIM_TRG_STAT_LATE (n : Nat) : Fld := ⟨Reg.TIM_TRG_STAT n, 29, 1⟩
@[simp] abbrev TIM_TRG_STAT_BAD (n : Nat) : Fld := ⟨Reg.TIM_TRG_STAT n, 28, 1⟩
@[simp] abbrev TIM_TRG_STAT_SKIP_CNT (n : Nat) : Fld := ⟨Reg.TIM_TRG_STAT n, 0, 16⟩
@[simp] abbrev TIM_CAP_CFG_EN (n : Nat) : Fld := ⟨Reg.TIM_CAP_CFG n, 31, 1⟩
@[simp] abbrev TIM_CAP_CFG_EDGE (n : Nat) : Fld := ⟨Reg.TIM_CAP_CFG n, 28, 2⟩
@[simp] abbrev TIM_CAP_CFG_SRC (n : Nat) : Fld := ⟨Reg.TIM_CAP_CFG n, 0, 5⟩
@[simp] abbrev TIM_CAP_STAT_OVF (n : Nat) : Fld := ⟨Reg.TIM_CAP_STAT n, 31, 1⟩
@[simp] abbrev TIM_CAP_STAT_LEVEL (n : Nat) : Fld := ⟨Reg.TIM_CAP_STAT n, 0, 3⟩
@[simp] abbrev TIM_CAP_TS_LO_NS (n : Nat) : Fld := ⟨Reg.TIM_CAP_TS_LO n, 0, 32⟩
@[simp] abbrev TIM_CAP_TS_HI_SEC (n : Nat) : Fld := ⟨Reg.TIM_CAP_TS_HI n, 0, 32⟩

/-! Fields of the architecture (R21). -/

@[simp] abbrev GRL_STATUS_READY : Fld := ⟨Reg.GRL_STATUS, 31, 1⟩
@[simp] abbrev GRL_STATUS_REQ_WAIT : Fld := ⟨Reg.GRL_STATUS, 8, 8⟩
@[simp] abbrev GRL_STATUS_WL_PEND : Fld := ⟨Reg.GRL_STATUS, 0, 8⟩
@[simp] abbrev GRL_CNT0_WL_DL : Fld := ⟨Reg.GRL_CNT0, 16, 16⟩
@[simp] abbrev GRL_CNT0_WL_UL : Fld := ⟨Reg.GRL_CNT0, 0, 16⟩
@[simp] abbrev GRL_CNT1_WL_DROP : Fld := ⟨Reg.GRL_CNT1, 16, 16⟩
@[simp] abbrev GRL_CNT1_REQ_WAITS : Fld := ⟨Reg.GRL_CNT1, 0, 16⟩
@[simp] abbrev GRL_CNT2_PAGE_GRANTS : Fld := ⟨Reg.GRL_CNT2, 16, 16⟩
@[simp] abbrev GRL_CNT2_DM_GRANTS : Fld := ⟨Reg.GRL_CNT2, 0, 16⟩
@[simp] abbrev GRL_CNT3_OBS_REQ : Fld := ⟨Reg.GRL_CNT3, 16, 16⟩

/-! Fields of the fronthaul (R60 to R103). -/

@[simp] abbrev FPE_CTRL_EAXC_MASK : Fld := ⟨Reg.FPE_CTRL, 16, 16⟩
@[simp] abbrev FPE_CTRL_REBALANCE : Fld := ⟨Reg.FPE_CTRL, 3, 1⟩
@[simp] abbrev FPE_CTRL_UDP : Fld := ⟨Reg.FPE_CTRL, 2, 1⟩
@[simp] abbrev FPE_CTRL_IPV6 : Fld := ⟨Reg.FPE_CTRL, 1, 1⟩
@[simp] abbrev FPE_STATUS_PORT_UP : Fld := ⟨Reg.FPE_STATUS, 0, 8⟩
@[simp] abbrev FPE_GLB_CNT0_NO_FLOW : Fld := ⟨Reg.FPE_GLB_CNT0, 16, 16⟩
@[simp] abbrev FPE_GLB_CNT0_BAD_MSG : Fld := ⟨Reg.FPE_GLB_CNT0, 0, 16⟩
@[simp] abbrev FPE_GLB_CNT1_UBUF_FULL : Fld := ⟨Reg.FPE_GLB_CNT1, 16, 16⟩
@[simp] abbrev FPE_GLB_CNT1_SEC_FULL : Fld := ⟨Reg.FPE_GLB_CNT1, 0, 16⟩
@[simp] abbrev FPE_GLB_CNT2_RMA_DROP : Fld := ⟨Reg.FPE_GLB_CNT2, 16, 16⟩
@[simp] abbrev FPE_GLB_CNT2_EVT_LOST : Fld := ⟨Reg.FPE_GLB_CNT2, 0, 16⟩
@[simp] abbrev FPE_UBUF_LVL_PEAK : Fld := ⟨Reg.FPE_UBUF_LVL, 16, 16⟩
@[simp] abbrev FPE_UBUF_LVL_LEVEL : Fld := ⟨Reg.FPE_UBUF_LVL, 0, 16⟩
@[simp] abbrev FPE_SEC_LVL_PEAK : Fld := ⟨Reg.FPE_SEC_LVL, 16, 16⟩
@[simp] abbrev FPE_SEC_LVL_LEVEL : Fld := ⟨Reg.FPE_SEC_LVL, 0, 16⟩
@[simp] abbrev FPE_UDP_CFG_UDP_PORT : Fld := ⟨Reg.FPE_UDP_CFG, 16, 16⟩
@[simp] abbrev FPE_UDP_CFG_UL_MAX : Fld := ⟨Reg.FPE_UDP_CFG, 0, 14⟩
@[simp] abbrev FPE_IPV4_ADDR : Fld := ⟨Reg.FPE_IPV4, 0, 32⟩
@[simp] abbrev FPE_RMA_CFG_EN : Fld := ⟨Reg.FPE_RMA_CFG, 31, 1⟩
@[simp] abbrev FPE_RMA_CFG_WR_EN : Fld := ⟨Reg.FPE_RMA_CFG, 30, 1⟩
@[simp] abbrev FPE_RMA_CFG_ELEM : Fld := ⟨Reg.FPE_RMA_CFG, 0, 16⟩
@[simp] abbrev FPE_RMA_STAT_FAIL : Fld := ⟨Reg.FPE_RMA_STAT, 16, 16⟩
@[simp] abbrev FPE_RMA_STAT_QUEUED : Fld := ⟨Reg.FPE_RMA_STAT, 0, 5⟩
@[simp] abbrev FPE_EVT_CFG_EN : Fld := ⟨Reg.FPE_EVT_CFG, 31, 1⟩
@[simp] abbrev FPE_EVT_CFG_RETRY : Fld := ⟨Reg.FPE_EVT_CFG, 16, 2⟩
@[simp] abbrev FPE_EVT_CFG_ACK_TO : Fld := ⟨Reg.FPE_EVT_CFG, 0, 16⟩
@[simp] abbrev FPE_TIMING_FLOW_AGE : Fld := ⟨Reg.FPE_TIMING, 16, 16⟩
@[simp] abbrev FPE_IPV6_ADDR (i : Nat) : Fld := ⟨Reg.FPE_IPV6 i, 0, 32⟩
@[simp] abbrev FPE_PORT_CFG_EN (n : Nat) : Fld := ⟨Reg.FPE_PORT_CFG n, 31, 1⟩
@[simp] abbrev FPE_PORT_CFG_LANE (n : Nat) : Fld := ⟨Reg.FPE_PORT_CFG n, 24, 4⟩
@[simp] abbrev FPE_PORT_CFG_RATE (n : Nat) : Fld := ⟨Reg.FPE_PORT_CFG n, 22, 2⟩
@[simp] abbrev FPE_PORT_CFG_FEC (n : Nat) : Fld := ⟨Reg.FPE_PORT_CFG n, 20, 2⟩
@[simp] abbrev FPE_PORT_CFG_TAGGED (n : Nat) : Fld := ⟨Reg.FPE_PORT_CFG n, 19, 1⟩
@[simp] abbrev FPE_PORT_STAT_UP (n : Nat) : Fld := ⟨Reg.FPE_PORT_STAT n, 31, 1⟩
@[simp] abbrev FPE_PORT_STAT_BAD_CFG (n : Nat) : Fld := ⟨Reg.FPE_PORT_STAT n, 30, 1⟩
@[simp] abbrev FPE_PORT_STAT_DOWN_EVT (n : Nat) : Fld := ⟨Reg.FPE_PORT_STAT n, 29, 1⟩
@[simp] abbrev FPE_PORT_MAC0_MAC (n : Nat) : Fld := ⟨Reg.FPE_PORT_MAC0 n, 0, 32⟩
@[simp] abbrev FPE_PORT_MAC1_MAC (n : Nat) : Fld := ⟨Reg.FPE_PORT_MAC1 n, 0, 16⟩
@[simp] abbrev FPE_PORT_CNT0_RX_FRAMES (n : Nat) : Fld := ⟨Reg.FPE_PORT_CNT0 n, 0, 32⟩
@[simp] abbrev FPE_PORT_CNT1_TX_FRAMES (n : Nat) : Fld := ⟨Reg.FPE_PORT_CNT1 n, 0, 32⟩
@[simp] abbrev FPE_PORT_CNT2_FCS_ERR (n : Nat) : Fld := ⟨Reg.FPE_PORT_CNT2 n, 16, 16⟩
@[simp] abbrev FPE_PORT_CNT2_SIZE_ERR (n : Nat) : Fld := ⟨Reg.FPE_PORT_CNT2 n, 0, 16⟩
@[simp] abbrev FPE_GRP_CFG_BAD (g : Nat) : Fld := ⟨Reg.FPE_GRP_CFG g, 16, 1⟩
@[simp] abbrev FPE_GRP_CFG_MEMBERS (g : Nat) : Fld := ⟨Reg.FPE_GRP_CFG g, 0, 8⟩
@[simp] abbrev FPE_MSEC_CFG_EN (n : Nat) : Fld := ⟨Reg.FPE_MSEC_CFG n, 31, 1⟩
@[simp] abbrev FPE_MSEC_CFG_STRICT (n : Nat) : Fld := ⟨Reg.FPE_MSEC_CFG n, 30, 1⟩
@[simp] abbrev FPE_MSEC_CFG_TX_KEY (n : Nat) : Fld := ⟨Reg.FPE_MSEC_CFG n, 29, 1⟩
@[simp] abbrev FPE_MSEC_CFG_REPLAY_WIN (n : Nat) : Fld := ⟨Reg.FPE_MSEC_CFG n, 0, 16⟩
@[simp] abbrev FPE_MSEC_STAT_ICV_FAIL (n : Nat) : Fld := ⟨Reg.FPE_MSEC_STAT n, 16, 16⟩
@[simp] abbrev FPE_MSEC_STAT_REPLAY (n : Nat) : Fld := ⟨Reg.FPE_MSEC_STAT n, 0, 16⟩
@[simp] abbrev FPE_MSEC_TX_SCI0_SCI (n : Nat) : Fld := ⟨Reg.FPE_MSEC_TX_SCI0 n, 0, 32⟩
@[simp] abbrev FPE_MSEC_TX_SCI1_SCI (n : Nat) : Fld := ⟨Reg.FPE_MSEC_TX_SCI1 n, 0, 32⟩
@[simp] abbrev FPE_MSEC_RX_SCI0_SCI (n : Nat) : Fld := ⟨Reg.FPE_MSEC_RX_SCI0 n, 0, 32⟩
@[simp] abbrev FPE_MSEC_RX_SCI1_SCI (n : Nat) : Fld := ⟨Reg.FPE_MSEC_RX_SCI1 n, 0, 32⟩
@[simp] abbrev FPE_MSEC_TX_SAK_SAK (n : Nat) (k : Nat) (w : Nat) : Fld := ⟨Reg.FPE_MSEC_TX_SAK n k w, 0, 32⟩
@[simp] abbrev FPE_MSEC_TX_SALT_SALT (n : Nat) (k : Nat) (w : Nat) : Fld := ⟨Reg.FPE_MSEC_TX_SALT n k w, 0, 32⟩
@[simp] abbrev FPE_MSEC_TX_SSCI_SSCI (n : Nat) (k : Nat) : Fld := ⟨Reg.FPE_MSEC_TX_SSCI n k, 0, 32⟩
@[simp] abbrev FPE_MSEC_TX_AN_AN (n : Nat) (k : Nat) : Fld := ⟨Reg.FPE_MSEC_TX_AN n k, 0, 2⟩
@[simp] abbrev FPE_MSEC_TX_PN_LO_PN (n : Nat) (k : Nat) : Fld := ⟨Reg.FPE_MSEC_TX_PN_LO n k, 0, 32⟩
@[simp] abbrev FPE_MSEC_TX_PN_HI_PN (n : Nat) (k : Nat) : Fld := ⟨Reg.FPE_MSEC_TX_PN_HI n k, 0, 32⟩
@[simp] abbrev FPE_MSEC_RX_SAK_SAK (n : Nat) (k : Nat) (w : Nat) : Fld := ⟨Reg.FPE_MSEC_RX_SAK n k w, 0, 32⟩
@[simp] abbrev FPE_MSEC_RX_SALT_SALT (n : Nat) (k : Nat) (w : Nat) : Fld := ⟨Reg.FPE_MSEC_RX_SALT n k w, 0, 32⟩
@[simp] abbrev FPE_MSEC_RX_SSCI_SSCI (n : Nat) (k : Nat) : Fld := ⟨Reg.FPE_MSEC_RX_SSCI n k, 0, 32⟩
@[simp] abbrev FPE_MSEC_RX_AN_AN (n : Nat) (k : Nat) : Fld := ⟨Reg.FPE_MSEC_RX_AN n k, 0, 2⟩
@[simp] abbrev FPE_MSEC_RX_PN_LO_PN (n : Nat) (k : Nat) : Fld := ⟨Reg.FPE_MSEC_RX_PN_LO n k, 0, 32⟩
@[simp] abbrev FPE_MSEC_RX_PN_HI_PN (n : Nat) (k : Nat) : Fld := ⟨Reg.FPE_MSEC_RX_PN_HI n k, 0, 32⟩
@[simp] abbrev FPE_FLOW_CFG_EN (f : Nat) : Fld := ⟨Reg.FPE_FLOW_CFG f, 31, 1⟩
@[simp] abbrev FPE_FLOW_CFG_DIR (f : Nat) : Fld := ⟨Reg.FPE_FLOW_CFG f, 30, 1⟩
@[simp] abbrev FPE_FLOW_CFG_CAR (f : Nat) : Fld := ⟨Reg.FPE_FLOW_CFG f, 25, 5⟩
@[simp] abbrev FPE_FLOW_CFG_GROUP (f : Nat) : Fld := ⟨Reg.FPE_FLOW_CFG f, 23, 2⟩
@[simp] abbrev FPE_FLOW_CFG_PRIO (f : Nat) : Fld := ⟨Reg.FPE_FLOW_CFG f, 20, 3⟩
@[simp] abbrev FPE_FLOW_CFG_EAXC (f : Nat) : Fld := ⟨Reg.FPE_FLOW_CFG f, 0, 16⟩
@[simp] abbrev FPE_FLOW_CFG2_COMP_STATIC (f : Nat) : Fld := ⟨Reg.FPE_FLOW_CFG2 f, 31, 1⟩
@[simp] abbrev FPE_FLOW_CFG2_METH (f : Nat) : Fld := ⟨Reg.FPE_FLOW_CFG2 f, 28, 3⟩
@[simp] abbrev FPE_FLOW_CFG2_IQW (f : Nat) : Fld := ⟨Reg.FPE_FLOW_CFG2 f, 24, 4⟩
@[simp] abbrev FPE_FLOW_CFG2_LATE_POL (f : Nat) : Fld := ⟨Reg.FPE_FLOW_CFG2 f, 22, 2⟩
@[simp] abbrev FPE_FLOW_CFG2_PCP (f : Nat) : Fld := ⟨Reg.FPE_FLOW_CFG2 f, 19, 3⟩
@[simp] abbrev FPE_FLOW_CFG2_VID (f : Nat) : Fld := ⟨Reg.FPE_FLOW_CFG2 f, 0, 12⟩
@[simp] abbrev FPE_FLOW_RATE_RATE (f : Nat) : Fld := ⟨Reg.FPE_FLOW_RATE f, 0, 16⟩
@[simp] abbrev FPE_FLOW_WIN_UP_T2A_MAX_UP (f : Nat) : Fld := ⟨Reg.FPE_FLOW_WIN_UP f, 16, 16⟩
@[simp] abbrev FPE_FLOW_WIN_UP_T2A_MIN_UP (f : Nat) : Fld := ⟨Reg.FPE_FLOW_WIN_UP f, 0, 16⟩
@[simp] abbrev FPE_FLOW_ADV_TCP_ADV_DL (f : Nat) : Fld := ⟨Reg.FPE_FLOW_ADV f, 0, 16⟩
@[simp] abbrev FPE_FLOW_WIN_UL_T2A_MAX_CP_UL (f : Nat) : Fld := ⟨Reg.FPE_FLOW_WIN_UL f, 16, 16⟩
@[simp] abbrev FPE_FLOW_WIN_UL_T2A_MIN_CP_UL (f : Nat) : Fld := ⟨Reg.FPE_FLOW_WIN_UL f, 0, 16⟩
@[simp] abbrev FPE_FLOW_STAT_BAD_CFG (f : Nat) : Fld := ⟨Reg.FPE_FLOW_STAT f, 31, 1⟩
@[simp] abbrev FPE_FLOW_STAT_STATE (f : Nat) : Fld := ⟨Reg.FPE_FLOW_STAT f, 28, 3⟩
@[simp] abbrev FPE_FLOW_STAT_SHED (f : Nat) : Fld := ⟨Reg.FPE_FLOW_STAT f, 27, 1⟩
@[simp] abbrev FPE_FLOW_STAT_PORT (f : Nat) : Fld := ⟨Reg.FPE_FLOW_STAT f, 24, 3⟩
@[simp] abbrev FPE_FLOW_STAT_EXP_SEQ (f : Nat) : Fld := ⟨Reg.FPE_FLOW_STAT f, 16, 8⟩
@[simp] abbrev FPE_FLOW_STAT_EMPTY (f : Nat) : Fld := ⟨Reg.FPE_FLOW_STAT f, 8, 8⟩
@[simp] abbrev FPE_FLOW_CNT0_RX_MSG (f : Nat) : Fld := ⟨Reg.FPE_FLOW_CNT0 f, 16, 16⟩
@[simp] abbrev FPE_FLOW_CNT0_TX_MSG (f : Nat) : Fld := ⟨Reg.FPE_FLOW_CNT0 f, 0, 16⟩
@[simp] abbrev FPE_FLOW_CNT1_EARLY (f : Nat) : Fld := ⟨Reg.FPE_FLOW_CNT1 f, 16, 16⟩
@[simp] abbrev FPE_FLOW_CNT1_LATE (f : Nat) : Fld := ⟨Reg.FPE_FLOW_CNT1 f, 0, 16⟩
@[simp] abbrev FPE_FLOW_CNT2_MISSING_U (f : Nat) : Fld := ⟨Reg.FPE_FLOW_CNT2 f, 16, 16⟩
@[simp] abbrev FPE_FLOW_CNT2_NO_SECTION (f : Nat) : Fld := ⟨Reg.FPE_FLOW_CNT2 f, 0, 16⟩
@[simp] abbrev FPE_FLOW_CNT3_SEQ_GAP (f : Nat) : Fld := ⟨Reg.FPE_FLOW_CNT3 f, 16, 16⟩
@[simp] abbrev FPE_FLOW_CNT3_STALE (f : Nat) : Fld := ⟨Reg.FPE_FLOW_CNT3 f, 0, 16⟩
@[simp] abbrev FPE_FLOW_CNT4_RF_NOT_READY (f : Nat) : Fld := ⟨Reg.FPE_FLOW_CNT4 f, 16, 16⟩
@[simp] abbrev FPE_FLOW_CNT4_REALIGN_DROP (f : Nat) : Fld := ⟨Reg.FPE_FLOW_CNT4 f, 0, 16⟩
@[simp] abbrev FPE_FLOW_CNT5_SAT_U (f : Nat) : Fld := ⟨Reg.FPE_FLOW_CNT5 f, 16, 16⟩
@[simp] abbrev FPE_FLOW_CNT5_OVR_SYM (f : Nat) : Fld := ⟨Reg.FPE_FLOW_CNT5 f, 0, 16⟩
@[simp] abbrev FPE_FLOW_CNT6_LATE_W (f : Nat) : Fld := ⟨Reg.FPE_FLOW_CNT6 f, 16, 16⟩
@[simp] abbrev FPE_FLOW_CNT6_SEC_DROP (f : Nat) : Fld := ⟨Reg.FPE_FLOW_CNT6 f, 0, 16⟩
@[simp] abbrev FPE_FLOW_CNT7_BAD_SEC (f : Nat) : Fld := ⟨Reg.FPE_FLOW_CNT7 f, 16, 16⟩
@[simp] abbrev FPE_FLOW_CNT7_EXCESS (f : Nat) : Fld := ⟨Reg.FPE_FLOW_CNT7 f, 0, 16⟩

/-! Fields of the beamforming engine (R138). -/

@[simp] abbrev BFE_CTRL_ROUND : Fld := ⟨Reg.BFE_CTRL, 0, 2⟩
@[simp] abbrev BFE_STATUS_READY : Fld := ⟨Reg.BFE_STATUS, 31, 1⟩
@[simp] abbrev BFE_STATUS_BAD_FORCE : Fld := ⟨Reg.BFE_STATUS, 30, 1⟩
@[simp] abbrev BFE_STATUS_ELIDED_TX : Fld := ⟨Reg.BFE_STATUS, 16, 8⟩
@[simp] abbrev BFE_STATUS_ELIDED_RX : Fld := ⟨Reg.BFE_STATUS, 8, 8⟩
@[simp] abbrev BFE_CNT0_PSUM_LATE : Fld := ⟨Reg.BFE_CNT0, 16, 16⟩
@[simp] abbrev BFE_CNT0_FALLBACK_EVT : Fld := ⟨Reg.BFE_CNT0, 0, 16⟩
@[simp] abbrev BFE_CNT1_OVERLAP : Fld := ⟨Reg.BFE_CNT1, 16, 16⟩
@[simp] abbrev BFE_CNT1_NULL_SET : Fld := ⟨Reg.BFE_CNT1, 0, 16⟩
@[simp] abbrev BFE_CNT2_ELISIONS : Fld := ⟨Reg.BFE_CNT2, 16, 16⟩
@[simp] abbrev BFE_ELIDE_TX_LO_MASK : Fld := ⟨Reg.BFE_ELIDE_TX_LO, 0, 32⟩
@[simp] abbrev BFE_ELIDE_TX_HI_MASK : Fld := ⟨Reg.BFE_ELIDE_TX_HI, 0, 32⟩
@[simp] abbrev BFE_ELIDE_RX_LO_MASK : Fld := ⟨Reg.BFE_ELIDE_RX_LO, 0, 32⟩
@[simp] abbrev BFE_ELIDE_RX_HI_MASK : Fld := ⟨Reg.BFE_ELIDE_RX_HI, 0, 32⟩
@[simp] abbrev BFE_FORCE_TX_LO_MASK : Fld := ⟨Reg.BFE_FORCE_TX_LO, 0, 32⟩
@[simp] abbrev BFE_FORCE_TX_HI_MASK : Fld := ⟨Reg.BFE_FORCE_TX_HI, 0, 32⟩
@[simp] abbrev BFE_FORCE_RX_LO_MASK : Fld := ⟨Reg.BFE_FORCE_RX_LO, 0, 32⟩
@[simp] abbrev BFE_FORCE_RX_HI_MASK : Fld := ⟨Reg.BFE_FORCE_RX_HI, 0, 32⟩
@[simp] abbrev BFE_STRD_CFG_EN : Fld := ⟨Reg.BFE_STRD_CFG, 31, 1⟩
@[simp] abbrev BFE_STRD_CFG_PAIR : Fld := ⟨Reg.BFE_STRD_CFG, 30, 1⟩
@[simp] abbrev BFE_STRD_CFG_ROLE : Fld := ⟨Reg.BFE_STRD_CFG, 28, 2⟩
@[simp] abbrev BFE_STRD_CFG_S0_DIR : Fld := ⟨Reg.BFE_STRD_CFG, 26, 2⟩
@[simp] abbrev BFE_STRD_CFG_S1_DIR : Fld := ⟨Reg.BFE_STRD_CFG, 24, 2⟩
@[simp] abbrev BFE_STRD_CFG_DEPTH : Fld := ⟨Reg.BFE_STRD_CFG, 22, 2⟩
@[simp] abbrev BFE_STRD_STAT_BAD_CFG : Fld := ⟨Reg.BFE_STRD_STAT, 31, 1⟩
@[simp] abbrev BFE_STRD_STAT_FALLBACK : Fld := ⟨Reg.BFE_STRD_STAT, 30, 1⟩
@[simp] abbrev BFE_STRD_STAT_S0_LANES : Fld := ⟨Reg.BFE_STRD_STAT, 27, 3⟩
@[simp] abbrev BFE_STRD_STAT_S1_LANES : Fld := ⟨Reg.BFE_STRD_STAT, 24, 3⟩
@[simp] abbrev BFE_STRD_CAP_S0 : Fld := ⟨Reg.BFE_STRD_CAP, 16, 16⟩
@[simp] abbrev BFE_STRD_CAP_S1 : Fld := ⟨Reg.BFE_STRD_CAP, 0, 16⟩
@[simp] abbrev BFE_SLICE_LOAD_DL (k : Nat) : Fld := ⟨Reg.BFE_SLICE_LOAD k, 16, 16⟩
@[simp] abbrev BFE_SLICE_LOAD_UL (k : Nat) : Fld := ⟨Reg.BFE_SLICE_LOAD k, 0, 16⟩
@[simp] abbrev BFE_AC_CFG_EN (a : Nat) : Fld := ⟨Reg.BFE_AC_CFG a, 31, 1⟩
@[simp] abbrev BFE_AC_CFG_CAT (a : Nat) : Fld := ⟨Reg.BFE_AC_CFG a, 30, 1⟩
@[simp] abbrev BFE_AC_CFG_CASC (a : Nat) : Fld := ⟨Reg.BFE_AC_CFG a, 29, 1⟩
@[simp] abbrev BFE_AC_CFG_SLINK (a : Nat) : Fld := ⟨Reg.BFE_AC_CFG a, 28, 1⟩
@[simp] abbrev BFE_AC_CFG_FACETS (a : Nat) : Fld := ⟨Reg.BFE_AC_CFG a, 24, 4⟩
@[simp] abbrev BFE_AC_CFG_MAX_L_DL (a : Nat) : Fld := ⟨Reg.BFE_AC_CFG a, 16, 6⟩
@[simp] abbrev BFE_AC_CFG_MAX_L_UL (a : Nat) : Fld := ⟨Reg.BFE_AC_CFG a, 8, 6⟩
@[simp] abbrev BFE_AC_GAIN_DL_SH (a : Nat) : Fld := ⟨Reg.BFE_AC_GAIN a, 28, 4⟩
@[simp] abbrev BFE_AC_GAIN_UL_SH (a : Nat) : Fld := ⟨Reg.BFE_AC_GAIN a, 24, 4⟩
@[simp] abbrev BFE_AC_STAT_BAD_CFG (a : Nat) : Fld := ⟨Reg.BFE_AC_STAT a, 31, 1⟩
@[simp] abbrev BFE_AC_STAT_ACTIVE (a : Nat) : Fld := ⟨Reg.BFE_AC_STAT a, 30, 1⟩
@[simp] abbrev BFE_FLOW_BIND_EN (f : Nat) : Fld := ⟨Reg.BFE_FLOW_BIND f, 31, 1⟩
@[simp] abbrev BFE_FLOW_BIND_UL_CONJ (f : Nat) : Fld := ⟨Reg.BFE_FLOW_BIND f, 30, 1⟩
@[simp] abbrev BFE_FLOW_BIND_LAYER (f : Nat) : Fld := ⟨Reg.BFE_FLOW_BIND f, 24, 6⟩
@[simp] abbrev BFE_FLOW_BIND_PATH (f : Nat) : Fld := ⟨Reg.BFE_FLOW_BIND f, 16, 6⟩
@[simp] abbrev BFE_FLOW_STAT_BAD_BIND (f : Nat) : Fld := ⟨Reg.BFE_FLOW_STAT f, 31, 1⟩
@[simp] abbrev BFE_FLOW_STAT_FALLBACK (f : Nat) : Fld := ⟨Reg.BFE_FLOW_STAT f, 30, 1⟩
@[simp] abbrev BFE_FLOW_STAT_SAT_UL (f : Nat) : Fld := ⟨Reg.BFE_FLOW_STAT f, 0, 16⟩
@[simp] abbrev BFE_PATH_CAL_TX_I (p : Nat) : Fld := ⟨Reg.BFE_PATH_CAL_TX p, 16, 16⟩
@[simp] abbrev BFE_PATH_CAL_TX_Q (p : Nat) : Fld := ⟨Reg.BFE_PATH_CAL_TX p, 0, 16⟩
@[simp] abbrev BFE_PATH_CAL_RX_I (p : Nat) : Fld := ⟨Reg.BFE_PATH_CAL_RX p, 16, 16⟩
@[simp] abbrev BFE_PATH_CAL_RX_Q (p : Nat) : Fld := ⟨Reg.BFE_PATH_CAL_RX p, 0, 16⟩
@[simp] abbrev BFE_PATH_CNT_SAT_DL (p : Nat) : Fld := ⟨Reg.BFE_PATH_CNT p, 16, 16⟩

/-! Fields of the weight store and solver (R168). -/

@[simp] abbrev BFE_WS_CTRL_EN : Fld := ⟨Reg.BFE_WS_CTRL, 31, 1⟩
@[simp] abbrev BFE_WS_CTRL_DYN_REUSE : Fld := ⟨Reg.BFE_WS_CTRL, 30, 1⟩
@[simp] abbrev BFE_WS_CTRL_N_TRX : Fld := ⟨Reg.BFE_WS_CTRL, 28, 2⟩
@[simp] abbrev BFE_WS_CTRL_CASC_POS : Fld := ⟨Reg.BFE_WS_CTRL, 26, 2⟩
@[simp] abbrev BFE_WS_STAT0_PINNED : Fld := ⟨Reg.BFE_WS_STAT0, 16, 16⟩
@[simp] abbrev BFE_WS_STAT0_LOCKED : Fld := ⟨Reg.BFE_WS_STAT0, 0, 16⟩
@[simp] abbrev BFE_WS_STAT1_FREE : Fld := ⟨Reg.BFE_WS_STAT1, 16, 16⟩
@[simp] abbrev BFE_WS_STAT1_CHAN : Fld := ⟨Reg.BFE_WS_STAT1, 0, 16⟩
@[simp] abbrev BFE_WS_CMD_OP : Fld := ⟨Reg.BFE_WS_CMD, 28, 4⟩
@[simp] abbrev BFE_WS_CMD_LIB : Fld := ⟨Reg.BFE_WS_CMD, 24, 2⟩
@[simp] abbrev BFE_WS_CMD_BEAMID : Fld := ⟨Reg.BFE_WS_CMD, 0, 15⟩
@[simp] abbrev BFE_WS_CMD_STAT_BUSY : Fld := ⟨Reg.BFE_WS_CMD_STAT, 31, 1⟩
@[simp] abbrev BFE_WS_CMD_STAT_ERR : Fld := ⟨Reg.BFE_WS_CMD_STAT, 30, 1⟩
@[simp] abbrev BFE_WS_CNT0_FETCHES : Fld := ⟨Reg.BFE_WS_CNT0, 0, 32⟩
@[simp] abbrev BFE_WS_CNT1_LATE : Fld := ⟨Reg.BFE_WS_CNT1, 16, 16⟩
@[simp] abbrev BFE_WS_CNT1_FETCH_ERR : Fld := ⟨Reg.BFE_WS_CNT1, 0, 16⟩
@[simp] abbrev BFE_WS_CNT2_SOLUTIONS : Fld := ⟨Reg.BFE_WS_CNT2, 0, 32⟩
@[simp] abbrev BFE_WS_CNT3_SOLVE_FAIL : Fld := ⟨Reg.BFE_WS_CNT3, 16, 16⟩
@[simp] abbrev BFE_WS_CNT3_NO_CHI : Fld := ⟨Reg.BFE_WS_CNT3, 0, 16⟩
@[simp] abbrev BFE_WS_CNT4_ALLOC_FAIL : Fld := ⟨Reg.BFE_WS_CNT4, 16, 16⟩
@[simp] abbrev BFE_WS_CNT4_UE_EXCESS : Fld := ⟨Reg.BFE_WS_CNT4, 0, 16⟩
@[simp] abbrev BFE_WS_CNT5_DYN_SAT : Fld := ⟨Reg.BFE_WS_CNT5, 16, 16⟩
@[simp] abbrev BFE_WS_CNT5_BAD_BEAM : Fld := ⟨Reg.BFE_WS_CNT5, 0, 16⟩
@[simp] abbrev BFE_WS_CNT6_SOL_MISSED : Fld := ⟨Reg.BFE_WS_CNT6, 16, 16⟩
@[simp] abbrev BFE_WS_TIMING_SOL_HOLD : Fld := ⟨Reg.BFE_WS_TIMING, 24, 8⟩
@[simp] abbrev BFE_WS_TIMING_CHI_AGE : Fld := ⟨Reg.BFE_WS_TIMING, 0, 16⟩
@[simp] abbrev BFE_WS_LIB_BASE_BASE (n : Nat) : Fld := ⟨Reg.BFE_WS_LIB_BASE n, 23, 9⟩
@[simp] abbrev BFE_WS_LIB_BASE_EN (n : Nat) : Fld := ⟨Reg.BFE_WS_LIB_BASE n, 0, 1⟩
@[simp] abbrev BFE_WS_LIB_META_BASE (n : Nat) : Fld := ⟨Reg.BFE_WS_LIB_META n, 15, 17⟩
@[simp] abbrev BFE_WS_AC_CFG_SOL_EN (a : Nat) : Fld := ⟨Reg.BFE_WS_AC_CFG a, 31, 1⟩
@[simp] abbrev BFE_WS_AC_CFG_SOL_G (a : Nat) : Fld := ⟨Reg.BFE_WS_AC_CFG a, 28, 3⟩
@[simp] abbrev BFE_WS_AC_CFG_DYN_CLASS (a : Nat) : Fld := ⟨Reg.BFE_WS_AC_CFG a, 24, 3⟩
@[simp] abbrev BFE_WS_AC_CFG_SOL_CLASS (a : Nat) : Fld := ⟨Reg.BFE_WS_AC_CFG a, 20, 3⟩
@[simp] abbrev BFE_WS_AC_STAT_JOBS (a : Nat) : Fld := ⟨Reg.BFE_WS_AC_STAT a, 16, 16⟩
@[simp] abbrev BFE_WS_FLOW_CFG_LIB (f : Nat) : Fld := ⟨Reg.BFE_WS_FLOW_CFG f, 30, 2⟩
@[simp] abbrev BFE_WS_FLOW_CFG_DEF_BEAM (f : Nat) : Fld := ⟨Reg.BFE_WS_FLOW_CFG f, 0, 15⟩
@[simp] abbrev BFE_WS_TAG_0_VALID (s : Nat) : Fld := ⟨Reg.BFE_WS_TAG_0 s, 31, 1⟩
@[simp] abbrev BFE_WS_TAG_0_LOCKED (s : Nat) : Fld := ⟨Reg.BFE_WS_TAG_0 s, 30, 1⟩
@[simp] abbrev BFE_WS_TAG_0_KIND (s : Nat) : Fld := ⟨Reg.BFE_WS_TAG_0 s, 28, 2⟩
@[simp] abbrev BFE_WS_TAG_0_CLASS (s : Nat) : Fld := ⟨Reg.BFE_WS_TAG_0 s, 25, 3⟩
@[simp] abbrev BFE_WS_TAG_0_ID (s : Nat) : Fld := ⟨Reg.BFE_WS_TAG_0 s, 0, 15⟩
@[simp] abbrev BFE_WS_TAG_1_ARRAY (s : Nat) : Fld := ⟨Reg.BFE_WS_TAG_1 s, 29, 3⟩
@[simp] abbrev BFE_WS_TAG_1_LIB (s : Nat) : Fld := ⟨Reg.BFE_WS_TAG_1 s, 27, 2⟩
@[simp] abbrev BFE_WS_TAG_1_DIR (s : Nat) : Fld := ⟨Reg.BFE_WS_TAG_1 s, 26, 1⟩
@[simp] abbrev BFE_WS_TAG_1_SLOTPAR (s : Nat) : Fld := ⟨Reg.BFE_WS_TAG_1 s, 25, 1⟩
@[simp] abbrev BFE_WS_TAG_1_GROUP (s : Nat) : Fld := ⟨Reg.BFE_WS_TAG_1 s, 16, 9⟩
@[simp] abbrev BFE_WS_TAG_1_REFS (s : Nat) : Fld := ⟨Reg.BFE_WS_TAG_1 s, 0, 12⟩
@[simp] abbrev BFE_WS_SET_W_I (s : Nat) (p : Nat) : Fld := ⟨Reg.BFE_WS_SET_W s p, 16, 16⟩
@[simp] abbrev BFE_WS_SET_W_Q (s : Nat) (p : Nat) : Fld := ⟨Reg.BFE_WS_SET_W s p, 0, 16⟩

/-! Fields of the spectral processing (R196). -/

@[simp] abbrev LPE_STATUS_READY : Fld := ⟨Reg.LPE_STATUS, 31, 1⟩
@[simp] abbrev LPE_FACET_WTX_LO_FTW (k : Nat) : Fld := ⟨Reg.LPE_FACET_WTX_LO k, 0, 32⟩
@[simp] abbrev LPE_FACET_WTX_HI_FTW (k : Nat) : Fld := ⟨Reg.LPE_FACET_WTX_HI k, 0, 16⟩
@[simp] abbrev LPE_FACET_WRX_LO_FTW (k : Nat) : Fld := ⟨Reg.LPE_FACET_WRX_LO k, 0, 32⟩
@[simp] abbrev LPE_FACET_WRX_HI_FTW (k : Nat) : Fld := ⟨Reg.LPE_FACET_WRX_HI k, 0, 16⟩
@[simp] abbrev LPE_FACET_PLAN_DL_EN (k : Nat) : Fld := ⟨Reg.LPE_FACET_PLAN k, 24, 8⟩
@[simp] abbrev LPE_FACET_PLAN_UL_EN (k : Nat) : Fld := ⟨Reg.LPE_FACET_PLAN k, 16, 8⟩
@[simp] abbrev LPE_FACET_PLAN_REF_CAR (k : Nat) : Fld := ⟨Reg.LPE_FACET_PLAN k, 0, 3⟩
@[simp] abbrev LPE_FACET_NCOCTL_ARM (k : Nat) : Fld := ⟨Reg.LPE_FACET_NCOCTL k, 31, 1⟩
@[simp] abbrev LPE_FACET_NCOCTL_REFUSED (k : Nat) : Fld := ⟨Reg.LPE_FACET_NCOCTL k, 30, 1⟩
@[simp] abbrev LPE_FACET_NCOCTL_CAUSE (k : Nat) : Fld := ⟨Reg.LPE_FACET_NCOCTL k, 27, 3⟩
@[simp] abbrev LPE_FACET_NCOCTL_GEN (k : Nat) : Fld := ⟨Reg.LPE_FACET_NCOCTL k, 0, 16⟩
@[simp] abbrev LPE_FACET_LOAD_DL (k : Nat) : Fld := ⟨Reg.LPE_FACET_LOAD k, 16, 16⟩
@[simp] abbrev LPE_FACET_LOAD_UL (k : Nat) : Fld := ⟨Reg.LPE_FACET_LOAD k, 0, 16⟩
@[simp] abbrev LPE_CAR_CFG_TYPE (c : Nat) : Fld := ⟨Reg.LPE_CAR_CFG c, 31, 1⟩
@[simp] abbrev LPE_CAR_CFG_BW (c : Nat) : Fld := ⟨Reg.LPE_CAR_CFG c, 24, 7⟩
@[simp] abbrev LPE_CAR_CFG_NFFT (c : Nat) : Fld := ⟨Reg.LPE_CAR_CFG c, 20, 4⟩
@[simp] abbrev LPE_CAR_CFG_SHIFT7P5 (c : Nat) : Fld := ⟨Reg.LPE_CAR_CFG c, 19, 1⟩
@[simp] abbrev LPE_CAR_CFG_PC_EN (c : Nat) : Fld := ⟨Reg.LPE_CAR_CFG c, 18, 1⟩
@[simp] abbrev LPE_CAR_CFG_N_RB (c : Nat) : Fld := ⟨Reg.LPE_CAR_CFG c, 8, 9⟩
@[simp] abbrev LPE_CAR_DL_FTW_LO_FTW (c : Nat) : Fld := ⟨Reg.LPE_CAR_DL_FTW_LO c, 0, 32⟩
@[simp] abbrev LPE_CAR_DL_FTW_HI_FTW (c : Nat) : Fld := ⟨Reg.LPE_CAR_DL_FTW_HI c, 0, 16⟩
@[simp] abbrev LPE_CAR_UL_FTW_LO_FTW (c : Nat) : Fld := ⟨Reg.LPE_CAR_UL_FTW_LO c, 0, 32⟩
@[simp] abbrev LPE_CAR_UL_FTW_HI_FTW (c : Nat) : Fld := ⟨Reg.LPE_CAR_UL_FTW_HI c, 0, 16⟩
@[simp] abbrev LPE_CAR_SYM0_DL_GAIN (c : Nat) : Fld := ⟨Reg.LPE_CAR_SYM0 c, 16, 16⟩
@[simp] abbrev LPE_CAR_SYM0_UL_GAIN (c : Nat) : Fld := ⟨Reg.LPE_CAR_SYM0 c, 0, 16⟩
@[simp] abbrev LPE_CAR_SYM1_FFT_SH_DL (c : Nat) : Fld := ⟨Reg.LPE_CAR_SYM1 c, 4, 4⟩
@[simp] abbrev LPE_CAR_SYM1_FFT_SH_UL (c : Nat) : Fld := ⟨Reg.LPE_CAR_SYM1 c, 0, 4⟩
@[simp] abbrev LPE_CAR_SYMCTL_ARM (c : Nat) : Fld := ⟨Reg.LPE_CAR_SYMCTL c, 31, 1⟩
@[simp] abbrev LPE_CAR_SYMCTL_GEN (c : Nat) : Fld := ⟨Reg.LPE_CAR_SYMCTL c, 0, 16⟩
@[simp] abbrev LPE_CAR_PRACH_EN (c : Nat) : Fld := ⟨Reg.LPE_CAR_PRACH c, 31, 1⟩
@[simp] abbrev LPE_CAR_PRACH_SH_LONG (c : Nat) : Fld := ⟨Reg.LPE_CAR_PRACH c, 4, 4⟩
@[simp] abbrev LPE_CAR_PRACH_SH_SHORT (c : Nat) : Fld := ⟨Reg.LPE_CAR_PRACH c, 0, 4⟩
@[simp] abbrev LPE_CAR_CNT0_SAT_IFFT (c : Nat) : Fld := ⟨Reg.LPE_CAR_CNT0 c, 16, 16⟩
@[simp] abbrev LPE_CAR_CNT0_SAT_FFT (c : Nat) : Fld := ⟨Reg.LPE_CAR_CNT0 c, 0, 16⟩
@[simp] abbrev LPE_CAR_CNT1_SAT_PRACH (c : Nat) : Fld := ⟨Reg.LPE_CAR_CNT1 c, 16, 16⟩
@[simp] abbrev LPE_CAR_CNT1_PRACH_DROP (c : Nat) : Fld := ⟨Reg.LPE_CAR_CNT1 c, 0, 16⟩
@[simp] abbrev LPE_PATH_CNT_SAT_DUC (p : Nat) : Fld := ⟨Reg.LPE_PATH_CNT p, 16, 16⟩
@[simp] abbrev LPE_PATH_CNT_SAT_DDC (p : Nat) : Fld := ⟨Reg.LPE_PATH_CNT p, 0, 16⟩

/-! Fields of the linearisation (R232). -/

@[simp] abbrev LDE_CTRL_ADAPT_RUN : Fld := ⟨Reg.LDE_CTRL, 31, 1⟩
@[simp] abbrev LDE_CTRL_FREEZE_ALL : Fld := ⟨Reg.LDE_CTRL, 30, 1⟩
@[simp] abbrev LDE_STATUS_READY : Fld := ⟨Reg.LDE_STATUS, 31, 1⟩
@[simp] abbrev LDE_STATUS_CYCLE_MS : Fld := ⟨Reg.LDE_STATUS, 0, 16⟩
@[simp] abbrev LDE_ADAPT_CFG_SOLVE_ROWS : Fld := ⟨Reg.LDE_ADAPT_CFG, 30, 2⟩
@[simp] abbrev LDE_ADAPT_CFG_MU : Fld := ⟨Reg.LDE_ADAPT_CFG, 16, 8⟩
@[simp] abbrev LDE_ADAPT_CFG_LAMBDA : Fld := ⟨Reg.LDE_ADAPT_CFG, 8, 8⟩
@[simp] abbrev LDE_ADAPT_CFG_CLASS_WAIT : Fld := ⟨Reg.LDE_ADAPT_CFG, 0, 8⟩
@[simp] abbrev LDE_ADAPT_CFG2_FREEZE_LVL : Fld := ⟨Reg.LDE_ADAPT_CFG2, 24, 8⟩
@[simp] abbrev LDE_ADAPT_CFG2_SW_SETTLE : Fld := ⟨Reg.LDE_ADAPT_CFG2, 16, 8⟩
@[simp] abbrev LDE_ADAPT_CFG2_CAP_OFS : Fld := ⟨Reg.LDE_ADAPT_CFG2, 0, 16⟩
@[simp] abbrev LDE_CNT0_CAPTURES : Fld := ⟨Reg.LDE_CNT0, 16, 16⟩
@[simp] abbrev LDE_CNT0_SOLVES : Fld := ⟨Reg.LDE_CNT0, 0, 16⟩
@[simp] abbrev LDE_CNT1_REVERTS : Fld := ⟨Reg.LDE_CNT1, 16, 16⟩
@[simp] abbrev LDE_CNT1_FROZEN_CAP : Fld := ⟨Reg.LDE_CNT1, 0, 16⟩
@[simp] abbrev LDE_CNT2_PAGE_WAIT : Fld := ⟨Reg.LDE_CNT2, 16, 16⟩
@[simp] abbrev LDE_CNT2_CLASS_SKIP : Fld := ⟨Reg.LDE_CNT2, 0, 16⟩
@[simp] abbrev LDE_FACET_TCFG_BAD_TERM (k : Nat) : Fld := ⟨Reg.LDE_FACET_TCFG k, 31, 1⟩
@[simp] abbrev LDE_FACET_TCFG_NTERMS (k : Nat) : Fld := ⟨Reg.LDE_FACET_TCFG k, 0, 7⟩
@[simp] abbrev LDE_FACET_EVM_LO_EVM (k : Nat) : Fld := ⟨Reg.LDE_FACET_EVM_LO k, 0, 32⟩
@[simp] abbrev LDE_FACET_EVM_HI_EVM (k : Nat) : Fld := ⟨Reg.LDE_FACET_EVM_HI k, 0, 32⟩
@[simp] abbrev LDE_ORX_CFG_AUTO (j : Nat) : Fld := ⟨Reg.LDE_ORX_CFG j, 31, 1⟩
@[simp] abbrev LDE_ORX_CFG_INPUTS (j : Nat) : Fld := ⟨Reg.LDE_ORX_CFG j, 0, 8⟩
@[simp] abbrev LDE_ORX_STAT_BUSY (j : Nat) : Fld := ⟨Reg.LDE_ORX_STAT j, 31, 1⟩
@[simp] abbrev LDE_ORX_STAT_SEL (j : Nat) : Fld := ⟨Reg.LDE_ORX_STAT j, 0, 3⟩
@[simp] abbrev LDE_ORX_TCAP_DONE (j : Nat) : Fld := ⟨Reg.LDE_ORX_TCAP j, 31, 1⟩
@[simp] abbrev LDE_ORX_TCAP_PATH (j : Nat) : Fld := ⟨Reg.LDE_ORX_TCAP j, 24, 6⟩
@[simp] abbrev LDE_ORX_TCAP_PAGE_Z (j : Nat) : Fld := ⟨Reg.LDE_ORX_TCAP j, 16, 7⟩
@[simp] abbrev LDE_ORX_TCAP_PAGE_X (j : Nat) : Fld := ⟨Reg.LDE_ORX_TCAP j, 8, 7⟩
@[simp] abbrev LDE_ORX_TCAP_MISS (j : Nat) : Fld := ⟨Reg.LDE_ORX_TCAP j, 0, 8⟩
@[simp] abbrev LDE_FACET_TERM_TYPE (k : Nat) (t : Nat) : Fld := ⟨Reg.LDE_FACET_TERM k t, 30, 1⟩
@[simp] abbrev LDE_FACET_TERM_NB (k : Nat) (t : Nat) : Fld := ⟨Reg.LDE_FACET_TERM k t, 28, 2⟩
@[simp] abbrev LDE_FACET_TERM_K (k : Nat) (t : Nat) : Fld := ⟨Reg.LDE_FACET_TERM k t, 24, 4⟩
@[simp] abbrev LDE_FACET_TERM_M (k : Nat) (t : Nat) : Fld := ⟨Reg.LDE_FACET_TERM k t, 20, 4⟩
@[simp] abbrev LDE_FACET_TERM_L (k : Nat) (t : Nat) : Fld := ⟨Reg.LDE_FACET_TERM k t, 16, 4⟩
@[simp] abbrev LDE_FACET_TERM_SH (k : Nat) (t : Nat) : Fld := ⟨Reg.LDE_FACET_TERM k t, 12, 4⟩
@[simp] abbrev LDE_PATH_CFG_ADAPT_EN (p : Nat) : Fld := ⟨Reg.LDE_PATH_CFG p, 31, 1⟩
@[simp] abbrev LDE_PATH_CFG_PC_EN (p : Nat) : Fld := ⟨Reg.LDE_PATH_CFG p, 30, 1⟩
@[simp] abbrev LDE_PATH_CFG_PC_SRC (p : Nat) : Fld := ⟨Reg.LDE_PATH_CFG p, 28, 2⟩
@[simp] abbrev LDE_PATH_CFG_CLASS_MASK (p : Nat) : Fld := ⟨Reg.LDE_PATH_CFG p, 16, 8⟩
@[simp] abbrev LDE_PATH_CFR_EVM_ADAPT (p : Nat) : Fld := ⟨Reg.LDE_PATH_CFR p, 31, 1⟩
@[simp] abbrev LDE_PATH_CFR_PAPR_T (p : Nat) : Fld := ⟨Reg.LDE_PATH_CFR p, 16, 10⟩
@[simp] abbrev LDE_PATH_CFR_LNOM (p : Nat) : Fld := ⟨Reg.LDE_PATH_CFR p, 0, 16⟩
@[simp] abbrev LDE_PATH_NB_SLOTS (p : Nat) : Fld := ⟨Reg.LDE_PATH_NB p, 0, 20⟩
@[simp] abbrev LDE_PATH_BANKSEL_DPD_EN (p : Nat) : Fld := ⟨Reg.LDE_PATH_BANKSEL p, 31, 1⟩
@[simp] abbrev LDE_PATH_BANKSEL_CFR_EN (p : Nat) : Fld := ⟨Reg.LDE_PATH_BANKSEL p, 30, 1⟩
@[simp] abbrev LDE_PATH_BANKSEL_OP (p : Nat) : Fld := ⟨Reg.LDE_PATH_BANKSEL p, 28, 2⟩
@[simp] abbrev LDE_PATH_BANKSEL_BANK (p : Nat) : Fld := ⟨Reg.LDE_PATH_BANKSEL p, 24, 3⟩
@[simp] abbrev LDE_PATH_BANKSEL_FORCE (p : Nat) : Fld := ⟨Reg.LDE_PATH_BANKSEL p, 23, 1⟩
@[simp] abbrev LDE_PATH_BANKSEL_FCLASS (p : Nat) : Fld := ⟨Reg.LDE_PATH_BANKSEL p, 20, 3⟩
@[simp] abbrev LDE_PATH_PGAIN_PGAIN (p : Nat) : Fld := ⟨Reg.LDE_PATH_PGAIN p, 0, 16⟩
@[simp] abbrev LDE_PATH_BANKCTL_ARM (p : Nat) : Fld := ⟨Reg.LDE_PATH_BANKCTL p, 31, 1⟩
@[simp] abbrev LDE_PATH_BANKCTL_STG_BUSY (p : Nat) : Fld := ⟨Reg.LDE_PATH_BANKCTL p, 30, 1⟩
@[simp] abbrev LDE_PATH_BANKCTL_WR_IGN (p : Nat) : Fld := ⟨Reg.LDE_PATH_BANKCTL p, 29, 1⟩
@[simp] abbrev LDE_PATH_BANKCTL_GEN (p : Nat) : Fld := ⟨Reg.LDE_PATH_BANKCTL p, 0, 16⟩
@[simp] abbrev LDE_PATH_STAT_CLASS (p : Nat) : Fld := ⟨Reg.LDE_PATH_STAT p, 29, 3⟩
@[simp] abbrev LDE_PATH_STAT_PAPR_EFF (p : Nat) : Fld := ⟨Reg.LDE_PATH_STAT p, 16, 10⟩
@[simp] abbrev LDE_PATH_STAT_BANK_VALID (p : Nat) : Fld := ⟨Reg.LDE_PATH_STAT p, 8, 8⟩
@[simp] abbrev LDE_PATH_STAT_FROZEN (p : Nat) : Fld := ⟨Reg.LDE_PATH_STAT p, 0, 8⟩
@[simp] abbrev LDE_PATH_ACLR_REF (p : Nat) : Fld := ⟨Reg.LDE_PATH_ACLR p, 16, 16⟩
@[simp] abbrev LDE_PATH_ACLR_LAST (p : Nat) : Fld := ⟨Reg.LDE_PATH_ACLR p, 0, 16⟩
@[simp] abbrev LDE_PATH_PC_G_TGT (p : Nat) : Fld := ⟨Reg.LDE_PATH_PC p, 16, 16⟩
@[simp] abbrev LDE_PATH_PC_PC_RANGE (p : Nat) : Fld := ⟨Reg.LDE_PATH_PC p, 12, 4⟩
@[simp] abbrev LDE_PATH_PC_PC_PERIOD (p : Nat) : Fld := ⟨Reg.LDE_PATH_PC p, 0, 8⟩
@[simp] abbrev LDE_PATH_PCSTAT_G_MEAS (p : Nat) : Fld := ⟨Reg.LDE_PATH_PCSTAT p, 16, 16⟩
@[simp] abbrev LDE_PATH_PCSTAT_PG_OFS (p : Nat) : Fld := ⟨Reg.LDE_PATH_PCSTAT p, 0, 16⟩
@[simp] abbrev LDE_PATH_LOOP_LOOP_DLY (p : Nat) : Fld := ⟨Reg.LDE_PATH_LOOP p, 16, 8⟩
@[simp] abbrev LDE_PATH_LOOP_DET_CH (p : Nat) : Fld := ⟨Reg.LDE_PATH_LOOP p, 0, 6⟩
@[simp] abbrev LDE_PATH_CNT0_SAT_DPD (p : Nat) : Fld := ⟨Reg.LDE_PATH_CNT0 p, 16, 16⟩
@[simp] abbrev LDE_PATH_CNT0_CFR_RESID (p : Nat) : Fld := ⟨Reg.LDE_PATH_CNT0 p, 0, 16⟩
@[simp] abbrev LDE_PATH_CNT1_EVM_OVER (p : Nat) : Fld := ⟨Reg.LDE_PATH_CNT1 p, 16, 16⟩
@[simp] abbrev LDE_PATH_CNT1_INVALID_BANK (p : Nat) : Fld := ⟨Reg.LDE_PATH_CNT1 p, 0, 16⟩
@[simp] abbrev LDE_PATH_CNT2_CAPTURES (p : Nat) : Fld := ⟨Reg.LDE_PATH_CNT2 p, 16, 16⟩
@[simp] abbrev LDE_PATH_CNT2_REVERTS (p : Nat) : Fld := ⟨Reg.LDE_PATH_CNT2 p, 0, 16⟩
@[simp] abbrev LDE_PATH_CNT3_FROZEN_CAP (p : Nat) : Fld := ⟨Reg.LDE_PATH_CNT3 p, 16, 16⟩
@[simp] abbrev LDE_PATH_CNT3_PC_FREEZE (p : Nat) : Fld := ⟨Reg.LDE_PATH_CNT3 p, 0, 16⟩
@[simp] abbrev LDE_PATH_STG_I (p : Nat) (i : Nat) : Fld := ⟨Reg.LDE_PATH_STG p i, 16, 16⟩
@[simp] abbrev LDE_PATH_STG_Q (p : Nat) (i : Nat) : Fld := ⟨Reg.LDE_PATH_STG p i, 0, 16⟩
@[simp] abbrev LDE_PATH_BANK_ACT_C_I (p : Nat) (b : Nat) (i : Nat) : Fld := ⟨Reg.LDE_PATH_BANK_ACT_C p b i, 16, 16⟩
@[simp] abbrev LDE_PATH_BANK_ACT_C_Q (p : Nat) (b : Nat) (i : Nat) : Fld := ⟨Reg.LDE_PATH_BANK_ACT_C p b i, 0, 16⟩
@[simp] abbrev LDE_PATH_BANK_PREV_C_I (p : Nat) (b : Nat) (i : Nat) : Fld := ⟨Reg.LDE_PATH_BANK_PREV_C p b i, 16, 16⟩
@[simp] abbrev LDE_PATH_BANK_PREV_C_Q (p : Nat) (b : Nat) (i : Nat) : Fld := ⟨Reg.LDE_PATH_BANK_PREV_C p b i, 0, 16⟩

/-! Fields of the converters (R273). -/

@[simp] abbrev CVA_CTRL_BGCAL_EN : Fld := ⟨Reg.CVA_CTRL, 31, 1⟩
@[simp] abbrev CVA_CTRL_SUP_PER : Fld := ⟨Reg.CVA_CTRL, 0, 16⟩
@[simp] abbrev CVA_STATUS_QPIN : Fld := ⟨Reg.CVA_STATUS, 31, 1⟩
@[simp] abbrev CVA_STATUS_QPIN_EVT : Fld := ⟨Reg.CVA_STATUS, 30, 1⟩
@[simp] abbrev CVA_SUP_CFG_GTOL : Fld := ⟨Reg.CVA_SUP_CFG, 24, 8⟩
@[simp] abbrev CVA_SUP_CFG_ACLR_MIN : Fld := ⟨Reg.CVA_SUP_CFG, 16, 8⟩
@[simp] abbrev CVA_SUP_CFG_NOISE : Fld := ⟨Reg.CVA_SUP_CFG, 8, 8⟩
@[simp] abbrev CVA_CAL_CFG_EN : Fld := ⟨Reg.CVA_CAL_CFG, 31, 1⟩
@[simp] abbrev CVA_CAL_CFG_DIR : Fld := ⟨Reg.CVA_CAL_CFG, 29, 2⟩
@[simp] abbrev CVA_CAL_CFG_CAR : Fld := ⟨Reg.CVA_CAL_CFG, 24, 5⟩
@[simp] abbrev CVA_CAL_CFG_SYM : Fld := ⟨Reg.CVA_CAL_CFG, 20, 4⟩
@[simp] abbrev CVA_CAL_CFG_PER : Fld := ⟨Reg.CVA_CAL_CFG, 16, 4⟩
@[simp] abbrev CVA_CAL_CFG_SRC : Fld := ⟨Reg.CVA_CAL_CFG, 10, 6⟩
@[simp] abbrev CVA_CAL_CFG_REF : Fld := ⟨Reg.CVA_CAL_CFG, 4, 6⟩
@[simp] abbrev CVA_CAL_CFG_LVL : Fld := ⟨Reg.CVA_CAL_CFG, 0, 4⟩
@[simp] abbrev CVA_CAL_CMD_OP : Fld := ⟨Reg.CVA_CAL_CMD, 30, 2⟩
@[simp] abbrev CVA_CAL_CMD_PATH : Fld := ⟨Reg.CVA_CAL_CMD, 0, 6⟩
@[simp] abbrev CVA_CAL_STAT_BUSY : Fld := ⟨Reg.CVA_CAL_STAT, 31, 1⟩
@[simp] abbrev CVA_CAL_STAT_FAIL : Fld := ⟨Reg.CVA_CAL_STAT, 30, 1⟩
@[simp] abbrev CVA_CAL_STAT_REFUSED : Fld := ⟨Reg.CVA_CAL_STAT, 29, 1⟩
@[simp] abbrev CVA_CAL_STAT_RUNS : Fld := ⟨Reg.CVA_CAL_STAT, 0, 16⟩
@[simp] abbrev CVA_CAL_CNT_OVERWR : Fld := ⟨Reg.CVA_CAL_CNT, 16, 16⟩
@[simp] abbrev CVA_CAL_CNT_PATH_FAIL : Fld := ⟨Reg.CVA_CAL_CNT, 8, 8⟩
@[simp] abbrev CVA_CAL_CNT_SKIPPED : Fld := ⟨Reg.CVA_CAL_CNT, 0, 8⟩
@[simp] abbrev CVA_FACET_CFG_EN (k : Nat) : Fld := ⟨Reg.CVA_FACET_CFG k, 31, 1⟩
@[simp] abbrev CVA_FACET_CFG_TXMODE (k : Nat) : Fld := ⟨Reg.CVA_FACET_CFG k, 30, 1⟩
@[simp] abbrev CVA_FACET_CFG_INV_SINC (k : Nat) : Fld := ⟨Reg.CVA_FACET_CFG k, 29, 1⟩
@[simp] abbrev CVA_FACET_OVR_EN (k : Nat) : Fld := ⟨Reg.CVA_FACET_OVR k, 31, 1⟩
@[simp] abbrev CVA_FACET_OVR_PIN (k : Nat) : Fld := ⟨Reg.CVA_FACET_OVR k, 24, 4⟩
@[simp] abbrev CVA_FACET_OVR_ORX (k : Nat) : Fld := ⟨Reg.CVA_FACET_OVR k, 16, 2⟩
@[simp] abbrev CVA_FACET_OVR_RX (k : Nat) : Fld := ⟨Reg.CVA_FACET_OVR k, 0, 16⟩
@[simp] abbrev CVA_FACET_STAT_READY (k : Nat) : Fld := ⟨Reg.CVA_FACET_STAT k, 31, 1⟩
@[simp] abbrev CVA_FACET_STAT_FGCAL_BUSY (k : Nat) : Fld := ⟨Reg.CVA_FACET_STAT k, 30, 1⟩
@[simp] abbrev CVA_FACET_STAT_FGCAL_FAIL (k : Nat) : Fld := ⟨Reg.CVA_FACET_STAT k, 29, 1⟩
@[simp] abbrev CVA_ORX_CFG_EN (j : Nat) : Fld := ⟨Reg.CVA_ORX_CFG j, 31, 1⟩
@[simp] abbrev CVA_ORX_CFG_CALSRC (j : Nat) : Fld := ⟨Reg.CVA_ORX_CFG j, 30, 1⟩
@[simp] abbrev CVA_ORX_CFG_OVR_THR (j : Nat) : Fld := ⟨Reg.CVA_ORX_CFG j, 0, 12⟩
@[simp] abbrev CVA_ORX_STAT_OVR (j : Nat) : Fld := ⟨Reg.CVA_ORX_STAT j, 31, 1⟩
@[simp] abbrev CVA_ORX_STAT_OVR_HI (j : Nat) : Fld := ⟨Reg.CVA_ORX_STAT j, 30, 1⟩
@[simp] abbrev CVA_ORX_STAT_OVR_CNT (j : Nat) : Fld := ⟨Reg.CVA_ORX_STAT j, 0, 16⟩
@[simp] abbrev CVA_WFM_CFG_GO (k : Nat) : Fld := ⟨Reg.CVA_WFM_CFG k, 31, 1⟩
@[simp] abbrev CVA_WFM_CFG_STOP (k : Nat) : Fld := ⟨Reg.CVA_WFM_CFG k, 30, 1⟩
@[simp] abbrev CVA_WFM_CFG_START (k : Nat) : Fld := ⟨Reg.CVA_WFM_CFG k, 28, 2⟩
@[simp] abbrev CVA_WFM_CFG_LOOP (k : Nat) : Fld := ⟨Reg.CVA_WFM_CFG k, 27, 1⟩
@[simp] abbrev CVA_WFM_CFG_POINT (k : Nat) : Fld := ⟨Reg.CVA_WFM_CFG k, 26, 1⟩
@[simp] abbrev CVA_WFM_CFG_ADD (k : Nat) : Fld := ⟨Reg.CVA_WFM_CFG k, 25, 1⟩
@[simp] abbrev CVA_WFM_CFG_FILT (k : Nat) : Fld := ⟨Reg.CVA_WFM_CFG k, 24, 1⟩
@[simp] abbrev CVA_WFM_CFG_SYM (k : Nat) : Fld := ⟨Reg.CVA_WFM_CFG k, 20, 4⟩
@[simp] abbrev CVA_WFM_CFG_SHIFT (k : Nat) : Fld := ⟨Reg.CVA_WFM_CFG k, 0, 16⟩
@[simp] abbrev CVA_WFM_RANGE_LEN (k : Nat) : Fld := ⟨Reg.CVA_WFM_RANGE k, 16, 16⟩
@[simp] abbrev CVA_WFM_RANGE_START (k : Nat) : Fld := ⟨Reg.CVA_WFM_RANGE k, 0, 16⟩
@[simp] abbrev CVA_WFM_PATHS_MASK (k : Nat) : Fld := ⟨Reg.CVA_WFM_PATHS k, 0, 16⟩
@[simp] abbrev CVA_WFM_GAIN_GAIN (k : Nat) : Fld := ⟨Reg.CVA_WFM_GAIN k, 0, 16⟩
@[simp] abbrev CVA_WFM_STAT_PLAYING (k : Nat) : Fld := ⟨Reg.CVA_WFM_STAT k, 31, 1⟩
@[simp] abbrev CVA_WFM_STAT_ERR (k : Nat) : Fld := ⟨Reg.CVA_WFM_STAT k, 30, 1⟩
@[simp] abbrev CVA_WFM_STAT_SAT (k : Nat) : Fld := ⟨Reg.CVA_WFM_STAT k, 29, 1⟩
@[simp] abbrev CVA_WFM_STAT_PLAYS (k : Nat) : Fld := ⟨Reg.CVA_WFM_STAT k, 0, 16⟩
@[simp] abbrev CVA_TX_CFG_EN (p : Nat) : Fld := ⟨Reg.CVA_TX_CFG p, 31, 1⟩
@[simp] abbrev CVA_TX_CFG_SUP_EN (p : Nat) : Fld := ⟨Reg.CVA_TX_CFG p, 30, 1⟩
@[simp] abbrev CVA_TX_RANGE_IFS (p : Nat) : Fld := ⟨Reg.CVA_TX_RANGE p, 0, 7⟩
@[simp] abbrev CVA_TX_DLY_INT (p : Nat) : Fld := ⟨Reg.CVA_TX_DLY p, 8, 6⟩
@[simp] abbrev CVA_TX_DLY_FRAC (p : Nat) : Fld := ⟨Reg.CVA_TX_DLY p, 0, 8⟩
@[simp] abbrev CVA_TX_RCTL_ARM (p : Nat) : Fld := ⟨Reg.CVA_TX_RCTL p, 31, 1⟩
@[simp] abbrev CVA_TX_RCTL_IN_TRANS (p : Nat) : Fld := ⟨Reg.CVA_TX_RCTL p, 30, 1⟩
@[simp] abbrev CVA_TX_RCTL_GEN (p : Nat) : Fld := ⟨Reg.CVA_TX_RCTL p, 0, 16⟩
@[simp] abbrev CVA_TX_QCODE_QCODE (p : Nat) : Fld := ⟨Reg.CVA_TX_QCODE p, 0, 14⟩
@[simp] abbrev CVA_TX_SUP_LAST (p : Nat) : Fld := ⟨Reg.CVA_TX_SUP p, 29, 3⟩
@[simp] abbrev CVA_TX_SUP_CAPS (p : Nat) : Fld := ⟨Reg.CVA_TX_SUP p, 0, 16⟩
@[simp] abbrev CVA_TX_CNT0_SAT_DAC (p : Nat) : Fld := ⟨Reg.CVA_TX_CNT0 p, 16, 16⟩
@[simp] abbrev CVA_TX_CNT0_QUIET_EVT (p : Nat) : Fld := ⟨Reg.CVA_TX_CNT0 p, 0, 16⟩
@[simp] abbrev CVA_TX_CNT1_TXR_DISC (p : Nat) : Fld := ⟨Reg.CVA_TX_CNT1 p, 0, 32⟩
@[simp] abbrev CVA_RX_CFG_EN (p : Nat) : Fld := ⟨Reg.CVA_RX_CFG p, 31, 1⟩
@[simp] abbrev CVA_RX_CFG_OVR_THR (p : Nat) : Fld := ⟨Reg.CVA_RX_CFG p, 0, 12⟩
@[simp] abbrev CVA_RX_DLY_INT (p : Nat) : Fld := ⟨Reg.CVA_RX_DLY p, 8, 6⟩
@[simp] abbrev CVA_RX_DLY_FRAC (p : Nat) : Fld := ⟨Reg.CVA_RX_DLY p, 0, 8⟩
@[simp] abbrev CVA_RX_STAT_OVR (p : Nat) : Fld := ⟨Reg.CVA_RX_STAT p, 31, 1⟩
@[simp] abbrev CVA_RX_STAT_OVR_HI (p : Nat) : Fld := ⟨Reg.CVA_RX_STAT p, 30, 1⟩
@[simp] abbrev CVA_RX_CNT_OVR_CNT (p : Nat) : Fld := ⟨Reg.CVA_RX_CNT p, 16, 16⟩
@[simp] abbrev CVA_RX_CNT_OVR_HI_CNT (p : Nat) : Fld := ⟨Reg.CVA_RX_CNT p, 0, 16⟩
@[simp] abbrev CVA_WFM_D_I (k : Nat) (i : Nat) : Fld := ⟨Reg.CVA_WFM_D k i, 16, 16⟩
@[simp] abbrev CVA_WFM_D_Q (k : Nat) (i : Nat) : Fld := ⟨Reg.CVA_WFM_D k i, 0, 16⟩

/-! Fields of the sample-clock synthesis (R298). -/

@[simp] abbrev RCS_CTRL_STBY_EN : Fld := ⟨Reg.RCS_CTRL, 31, 1⟩
@[simp] abbrev RCS_CTRL_AUTO_SW : Fld := ⟨Reg.RCS_CTRL, 30, 1⟩
@[simp] abbrev RCS_CTRL_AUTO_RECAL : Fld := ⟨Reg.RCS_CTRL, 29, 1⟩
@[simp] abbrev RCS_CTRL_SW_CAR : Fld := ⟨Reg.RCS_CTRL, 16, 5⟩
@[simp] abbrev RCS_CTRL_SRC : Fld := ⟨Reg.RCS_CTRL, 4, 1⟩
@[simp] abbrev RCS_CTRL_REF_FREQ : Fld := ⟨Reg.RCS_CTRL, 0, 2⟩
@[simp] abbrev RCS_STATUS_REF_LOST_EVT : Fld := ⟨Reg.RCS_STATUS, 31, 1⟩
@[simp] abbrev RCS_STATUS_UNLOCK_EVT : Fld := ⟨Reg.RCS_STATUS, 30, 1⟩
@[simp] abbrev RCS_STATUS_SWITCH_EVT : Fld := ⟨Reg.RCS_STATUS, 29, 1⟩
@[simp] abbrev RCS_STATUS_DIVERGE_EVT : Fld := ⟨Reg.RCS_STATUS, 28, 1⟩
@[simp] abbrev RCS_STATUS_FAILED_B : Fld := ⟨Reg.RCS_STATUS, 25, 1⟩
@[simp] abbrev RCS_STATUS_FAILED_A : Fld := ⟨Reg.RCS_STATUS, 24, 1⟩
@[simp] abbrev RCS_STATUS_ENTRY : Fld := ⟨Reg.RCS_STATUS, 16, 6⟩
@[simp] abbrev RCS_STATUS_ANCHORED : Fld := ⟨Reg.RCS_STATUS, 9, 1⟩
@[simp] abbrev RCS_STATUS_STBY_OK : Fld := ⟨Reg.RCS_STATUS, 8, 1⟩
@[simp] abbrev RCS_STATUS_ACTIVE : Fld := ⟨Reg.RCS_STATUS, 4, 1⟩
@[simp] abbrev RCS_STATUS_STATE : Fld := ⟨Reg.RCS_STATUS, 0, 3⟩
@[simp] abbrev RCS_CMD_OP : Fld := ⟨Reg.RCS_CMD, 28, 4⟩
@[simp] abbrev RCS_CMD_ENTRY : Fld := ⟨Reg.RCS_CMD, 0, 6⟩
@[simp] abbrev RCS_CMD_STAT_BUSY : Fld := ⟨Reg.RCS_CMD_STAT, 31, 1⟩
@[simp] abbrev RCS_CMD_STAT_REFUSED : Fld := ⟨Reg.RCS_CMD_STAT, 30, 1⟩
@[simp] abbrev RCS_CMD_STAT_CAUSE : Fld := ⟨Reg.RCS_CMD_STAT, 27, 3⟩
@[simp] abbrev RCS_TRACK_DPHI : Fld := ⟨Reg.RCS_TRACK, 0, 16⟩
@[simp] abbrev RCS_EXT_CFG_FS_KHZ : Fld := ⟨Reg.RCS_EXT_CFG, 0, 24⟩
@[simp] abbrev RCS_SYNC_CFG_MODE : Fld := ⟨Reg.RCS_SYNC_CFG, 30, 2⟩
@[simp] abbrev RCS_SYNC_CFG_ADJ : Fld := ⟨Reg.RCS_SYNC_CFG, 24, 4⟩
@[simp] abbrev RCS_SYNC_STAT_FOLLOWING : Fld := ⟨Reg.RCS_SYNC_STAT, 31, 1⟩
@[simp] abbrev RCS_SYNC_STAT_SYNC_BAD : Fld := ⟨Reg.RCS_SYNC_STAT, 30, 1⟩
@[simp] abbrev RCS_SYNC_STAT_SYNC_ERR : Fld := ⟨Reg.RCS_SYNC_STAT, 8, 8⟩
@[simp] abbrev RCS_SYNC_STAT_SYNC_MISS : Fld := ⟨Reg.RCS_SYNC_STAT, 0, 8⟩
@[simp] abbrev RCS_CNT0_SWITCHES : Fld := ⟨Reg.RCS_CNT0, 16, 16⟩
@[simp] abbrev RCS_CNT0_HARD_SW : Fld := ⟨Reg.RCS_CNT0, 0, 16⟩
@[simp] abbrev RCS_CNT1_UNLOCKS : Fld := ⟨Reg.RCS_CNT1, 16, 16⟩
@[simp] abbrev RCS_CNT1_REF_LOSS : Fld := ⟨Reg.RCS_CNT1, 0, 16⟩
@[simp] abbrev RCS_TC_FREQ_NFRAC (e : Nat) : Fld := ⟨Reg.RCS_TC_FREQ e, 0, 32⟩
@[simp] abbrev RCS_TC_CFG_VALID_A (e : Nat) : Fld := ⟨Reg.RCS_TC_CFG e, 31, 1⟩
@[simp] abbrev RCS_TC_CFG_VALID_B (e : Nat) : Fld := ⟨Reg.RCS_TC_CFG e, 30, 1⟩
@[simp] abbrev RCS_TC_CFG_REF (e : Nat) : Fld := ⟨Reg.RCS_TC_CFG e, 16, 2⟩
@[simp] abbrev RCS_TC_CFG_NINT (e : Nat) : Fld := ⟨Reg.RCS_TC_CFG e, 0, 8⟩
@[simp] abbrev RCS_TC_CALA_DATA (e : Nat) (n : Nat) : Fld := ⟨Reg.RCS_TC_CALA e n, 0, 32⟩
@[simp] abbrev RCS_TC_CALB_DATA (e : Nat) (n : Nat) : Fld := ⟨Reg.RCS_TC_CALB e n, 0, 32⟩

/-! Fields of the serial lanes and Strand links (R324). -/

@[simp] abbrev SRD_CTRL_LQI_WARN : Fld := ⟨Reg.SRD_CTRL, 24, 8⟩
@[simp] abbrev SRD_CTRL_LQI_RETIRE : Fld := ⟨Reg.SRD_CTRL, 16, 8⟩
@[simp] abbrev SRD_CTRL_SDREF1_SEL : Fld := ⟨Reg.SRD_CTRL, 2, 2⟩
@[simp] abbrev SRD_CTRL_SDREF0_SEL : Fld := ⟨Reg.SRD_CTRL, 0, 2⟩
@[simp] abbrev SRD_STATUS_LOCKED : Fld := ⟨Reg.SRD_STATUS, 16, 16⟩
@[simp] abbrev SRD_STATUS_DEGRADED : Fld := ⟨Reg.SRD_STATUS, 0, 16⟩
@[simp] abbrev SRD_SERVICE_RETIRED : Fld := ⟨Reg.SRD_SERVICE, 16, 16⟩
@[simp] abbrev SRD_SERVICE_TEST : Fld := ⟨Reg.SRD_SERVICE, 0, 16⟩
@[simp] abbrev SRD_EVT_RETIRE_EVT : Fld := ⟨Reg.SRD_EVT, 16, 16⟩
@[simp] abbrev SRD_EVT_DEGRADE_EVT : Fld := ⟨Reg.SRD_EVT, 0, 16⟩
@[simp] abbrev SRD_S_CFG_RATE (x : Nat) : Fld := ⟨Reg.SRD_S_CFG x, 30, 2⟩
@[simp] abbrev SRD_S_STAT_STATE (x : Nat) : Fld := ⟨Reg.SRD_S_STAT x, 30, 2⟩
@[simp] abbrev SRD_S_STAT_SKEW_ERR (x : Nat) : Fld := ⟨Reg.SRD_S_STAT x, 29, 1⟩
@[simp] abbrev SRD_S_STAT_MAP (x : Nat) : Fld := ⟨Reg.SRD_S_STAT x, 16, 8⟩
@[simp] abbrev SRD_S_STAT_IN_LINK (x : Nat) : Fld := ⟨Reg.SRD_S_STAT x, 12, 4⟩
@[simp] abbrev SRD_S_STAT_INV (x : Nat) : Fld := ⟨Reg.SRD_S_STAT x, 8, 4⟩
@[simp] abbrev SRD_S_STAT_SKEW (x : Nat) : Fld := ⟨Reg.SRD_S_STAT x, 0, 8⟩
@[simp] abbrev SRD_S_CNT0_CRC_ERR (x : Nat) : Fld := ⟨Reg.SRD_S_CNT0 x, 16, 16⟩
@[simp] abbrev SRD_S_CNT0_DOWNGRADES (x : Nat) : Fld := ⟨Reg.SRD_S_CNT0 x, 0, 16⟩
@[simp] abbrev SRD_S_CNT1_CTL_DROP (x : Nat) : Fld := ⟨Reg.SRD_S_CNT1 x, 16, 16⟩
@[simp] abbrev SRD_S_CNT1_UPGRADES (x : Nat) : Fld := ⟨Reg.SRD_S_CNT1 x, 0, 16⟩
@[simp] abbrev SRD_LANE_CFG_ROLE (l : Nat) : Fld := ⟨Reg.SRD_LANE_CFG l, 30, 2⟩
@[simp] abbrev SRD_LANE_CFG_TX_INV (l : Nat) : Fld := ⟨Reg.SRD_LANE_CFG l, 29, 1⟩
@[simp] abbrev SRD_LANE_CFG_RX_INV (l : Nat) : Fld := ⟨Reg.SRD_LANE_CFG l, 28, 1⟩
@[simp] abbrev SRD_LANE_CFG_AUTO_POL (l : Nat) : Fld := ⟨Reg.SRD_LANE_CFG l, 27, 1⟩
@[simp] abbrev SRD_LANE_CFG_MOD (l : Nat) : Fld := ⟨Reg.SRD_LANE_CFG l, 26, 1⟩
@[simp] abbrev SRD_LANE_TRATE_TRATE (l : Nat) : Fld := ⟨Reg.SRD_LANE_TRATE l, 0, 26⟩
@[simp] abbrev SRD_LANE_STAT_STATE (l : Nat) : Fld := ⟨Reg.SRD_LANE_STAT l, 29, 3⟩
@[simp] abbrev SRD_LANE_STAT_POL_INV (l : Nat) : Fld := ⟨Reg.SRD_LANE_STAT l, 28, 1⟩
@[simp] abbrev SRD_LANE_STAT_BAD_CFG (l : Nat) : Fld := ⟨Reg.SRD_LANE_STAT l, 27, 1⟩
@[simp] abbrev SRD_LANE_STAT_LOS (l : Nat) : Fld := ⟨Reg.SRD_LANE_STAT l, 26, 1⟩
@[simp] abbrev SRD_LANE_STAT_RLOCK (l : Nat) : Fld := ⟨Reg.SRD_LANE_STAT l, 25, 1⟩
@[simp] abbrev SRD_LANE_LQI_LQI_MIN (l : Nat) : Fld := ⟨Reg.SRD_LANE_LQI l, 24, 8⟩
@[simp] abbrev SRD_LANE_LQI_EYE (l : Nat) : Fld := ⟨Reg.SRD_LANE_LQI l, 16, 8⟩
@[simp] abbrev SRD_LANE_LQI_ERR (l : Nat) : Fld := ⟨Reg.SRD_LANE_LQI l, 8, 8⟩
@[simp] abbrev SRD_LANE_LQI_LQI (l : Nat) : Fld := ⟨Reg.SRD_LANE_LQI l, 0, 8⟩
@[simp] abbrev SRD_LANE_TXEQ_PRE (l : Nat) : Fld := ⟨Reg.SRD_LANE_TXEQ l, 20, 4⟩
@[simp] abbrev SRD_LANE_TXEQ_MAIN (l : Nat) : Fld := ⟨Reg.SRD_LANE_TXEQ l, 14, 6⟩
@[simp] abbrev SRD_LANE_TXEQ_POST (l : Nat) : Fld := ⟨Reg.SRD_LANE_TXEQ l, 9, 5⟩
@[simp] abbrev SRD_LANE_RXEQ_ADAPT_EN (l : Nat) : Fld := ⟨Reg.SRD_LANE_RXEQ l, 31, 1⟩
@[simp] abbrev SRD_LANE_RXEQ_CTLE (l : Nat) : Fld := ⟨Reg.SRD_LANE_RXEQ l, 16, 4⟩
@[simp] abbrev SRD_LANE_RXEQ_DFE_H1 (l : Nat) : Fld := ⟨Reg.SRD_LANE_RXEQ l, 0, 8⟩
@[simp] abbrev SRD_LANE_PRBS_GEN_EN (l : Nat) : Fld := ⟨Reg.SRD_LANE_PRBS l, 31, 1⟩
@[simp] abbrev SRD_LANE_PRBS_CHK_EN (l : Nat) : Fld := ⟨Reg.SRD_LANE_PRBS l, 30, 1⟩
@[simp] abbrev SRD_LANE_PRBS_CHK_LOCK (l : Nat) : Fld := ⟨Reg.SRD_LANE_PRBS l, 29, 1⟩
@[simp] abbrev SRD_LANE_PRBS_LOOP (l : Nat) : Fld := ⟨Reg.SRD_LANE_PRBS l, 26, 3⟩
@[simp] abbrev SRD_LANE_PRBS_PATTERN (l : Nat) : Fld := ⟨Reg.SRD_LANE_PRBS l, 20, 4⟩
@[simp] abbrev SRD_LANE_PRBS_ERR_ERR (l : Nat) : Fld := ⟨Reg.SRD_LANE_PRBS_ERR l, 0, 32⟩
@[simp] abbrev SRD_LANE_PRBS_BITS_LO_BITS (l : Nat) : Fld := ⟨Reg.SRD_LANE_PRBS_BITS_LO l, 0, 32⟩
@[simp] abbrev SRD_LANE_PRBS_BITS_HI_BITS (l : Nat) : Fld := ⟨Reg.SRD_LANE_PRBS_BITS_HI l, 0, 32⟩
@[simp] abbrev SRD_LANE_CNT_LOCK_LOSS (l : Nat) : Fld := ⟨Reg.SRD_LANE_CNT l, 16, 16⟩
@[simp] abbrev SRD_LANE_CNT_RETIRES (l : Nat) : Fld := ⟨Reg.SRD_LANE_CNT l, 0, 16⟩

/-! Fields of the T1640 persona (R347 to R350). -/

@[simp] abbrev LGC_LINK_CTRL_LINK_EN (n : Nat) : Fld := ⟨Reg.LGC_LINK_CTRL n, 15, 1⟩
@[simp] abbrev LGC_LINK_CTRL_OPT_MASK (n : Nat) : Fld := ⟨Reg.LGC_LINK_CTRL n, 0, 7⟩
@[simp] abbrev LGC_LINK_STATE_STATE (n : Nat) : Fld := ⟨Reg.LGC_LINK_STATE n, 13, 3⟩
@[simp] abbrev LGC_LINK_STATE_OPTION (n : Nat) : Fld := ⟨Reg.LGC_LINK_STATE n, 10, 3⟩
@[simp] abbrev LGC_LINK_STATE_LAST_TMO (n : Nat) : Fld := ⟨Reg.LGC_LINK_STATE n, 7, 3⟩
@[simp] abbrev LGC_LINK_STATE_VEND_DEF (n : Nat) : Fld := ⟨Reg.LGC_LINK_STATE n, 6, 1⟩
@[simp] abbrev LGC_LINK_TMO_T_RATE (n : Nat) : Fld := ⟨Reg.LGC_LINK_TMO n, 8, 8⟩
@[simp] abbrev LGC_LINK_TMO_T_PROT (n : Nat) : Fld := ⟨Reg.LGC_LINK_TMO n, 0, 8⟩
@[simp] abbrev LGC_LINK_TMO2_T_CM (n : Nat) : Fld := ⟨Reg.LGC_LINK_TMO2 n, 8, 8⟩
@[simp] abbrev LGC_LINK_TMO2_T_VEND (n : Nat) : Fld := ⟨Reg.LGC_LINK_TMO2 n, 0, 8⟩
@[simp] abbrev LGC_LINK_TOFS_TOFS (n : Nat) : Fld := ⟨Reg.LGC_LINK_TOFS n, 0, 16⟩
@[simp] abbrev LGC_LINK_DLY_T2A (n : Nat) : Fld := ⟨Reg.LGC_LINK_DLY n, 0, 16⟩
@[simp] abbrev LGC_LINK_DLY2_TA3 (n : Nat) : Fld := ⟨Reg.LGC_LINK_DLY2 n, 0, 16⟩
@[simp] abbrev LGC_LINK_CNT_TMO_CNT (n : Nat) : Fld := ⟨Reg.LGC_LINK_CNT n, 8, 8⟩
@[simp] abbrev LGC_LINK_CNT_CV_CNT (n : Nat) : Fld := ⟨Reg.LGC_LINK_CNT n, 0, 8⟩
@[simp] abbrev VP_ID_ID : Fld := ⟨Reg.VP_ID, 0, 16⟩
@[simp] abbrev VP_REV_REV : Fld := ⟨Reg.VP_REV, 0, 16⟩
@[simp] abbrev VP_QUIRK_TXEN_DLY2 : Fld := ⟨Reg.VP_QUIRK, 1, 1⟩
@[simp] abbrev VP_QUIRK_DBL_RST : Fld := ⟨Reg.VP_QUIRK, 0, 1⟩
@[simp] abbrev VP_STATUS_CFG_REFUSED : Fld := ⟨Reg.VP_STATUS, 15, 1⟩
@[simp] abbrev VP_STATUS_AXC_BAD : Fld := ⟨Reg.VP_STATUS, 14, 1⟩
@[simp] abbrev VP_STATUS_CAUSE : Fld := ⟨Reg.VP_STATUS, 11, 3⟩
@[simp] abbrev VP_STATUS_BAD_ADDR : Fld := ⟨Reg.VP_STATUS, 0, 8⟩
@[simp] abbrev VP_WIN_A_LO_ADDR : Fld := ⟨Reg.VP_WIN_A_LO, 0, 16⟩
@[simp] abbrev VP_WIN_A_HI_ADDR : Fld := ⟨Reg.VP_WIN_A_HI, 0, 16⟩
@[simp] abbrev VP_WIN_D_LO_DATA : Fld := ⟨Reg.VP_WIN_D_LO, 0, 16⟩
@[simp] abbrev VP_WIN_D_HI_DATA : Fld := ⟨Reg.VP_WIN_D_HI, 0, 16⟩
@[simp] abbrev VP_MAC_MAC (n : Nat) : Fld := ⟨Reg.VP_MAC n, 0, 16⟩
@[simp] abbrev LGC_COL_PATHS_PATHS (i : Nat) : Fld := ⟨Reg.LGC_COL_PATHS i, 0, 24⟩
@[simp] abbrev LGC_COL_W_I (i : Nat) (j : Nat) : Fld := ⟨Reg.LGC_COL_W i j, 16, 16⟩
@[simp] abbrev LGC_COL_W_Q (i : Nat) (j : Nat) : Fld := ⟨Reg.LGC_COL_W i j, 0, 16⟩

/-! Fields of the Yakea cluster (R387). -/

@[simp] abbrev DSP_CTRL_RST : Fld := ⟨Reg.DSP_CTRL, 8, 4⟩
@[simp] abbrev DSP_CTRL_RUN : Fld := ⟨Reg.DSP_CTRL, 0, 4⟩
@[simp] abbrev DSP_STATUS_FW_OK : Fld := ⟨Reg.DSP_STATUS, 12, 1⟩
@[simp] abbrev DSP_STATUS_WAITING : Fld := ⟨Reg.DSP_STATUS, 8, 4⟩
@[simp] abbrev DSP_STATUS_FAULTED : Fld := ⟨Reg.DSP_STATUS, 4, 4⟩
@[simp] abbrev DSP_STATUS_HALTED : Fld := ⟨Reg.DSP_STATUS, 0, 4⟩
@[simp] abbrev DSP_Y_PC_PC (n : Nat) : Fld := ⟨Reg.DSP_Y_PC n, 0, 32⟩
@[simp] abbrev DSP_Y_FAULT_CAUSE (n : Nat) : Fld := ⟨Reg.DSP_Y_FAULT n, 28, 4⟩
@[simp] abbrev DSP_Y_FAULT_CODE (n : Nat) : Fld := ⟨Reg.DSP_Y_FAULT n, 16, 8⟩
@[simp] abbrev DSP_Y_FAULT_EXC_CNT (n : Nat) : Fld := ⟨Reg.DSP_Y_FAULT n, 0, 16⟩
@[simp] abbrev DSP_Y_FAR_FAR (n : Nat) : Fld := ⟨Reg.DSP_Y_FAR n, 0, 32⟩
@[simp] abbrev DSP_Y_MBI_DATA (n : Nat) : Fld := ⟨Reg.DSP_Y_MBI n, 0, 32⟩
@[simp] abbrev DSP_Y_MBO_DATA (n : Nat) : Fld := ⟨Reg.DSP_Y_MBO n, 0, 32⟩
@[simp] abbrev DSP_Y_MBSTAT_MBI_OVF (n : Nat) : Fld := ⟨Reg.DSP_Y_MBSTAT n, 31, 1⟩
@[simp] abbrev DSP_Y_MBSTAT_MBO_UNF (n : Nat) : Fld := ⟨Reg.DSP_Y_MBSTAT n, 30, 1⟩
@[simp] abbrev DSP_Y_MBSTAT_MBI_LVL (n : Nat) : Fld := ⟨Reg.DSP_Y_MBSTAT n, 4, 4⟩
@[simp] abbrev DSP_Y_MBSTAT_MBO_LVL (n : Nat) : Fld := ⟨Reg.DSP_Y_MBSTAT n, 0, 4⟩
@[simp] abbrev DSP_Y_WDOG_TIMEOUT (n : Nat) : Fld := ⟨Reg.DSP_Y_WDOG n, 0, 16⟩
@[simp] abbrev DSP_Y_KCFG_BUDGET (n : Nat) : Fld := ⟨Reg.DSP_Y_KCFG n, 0, 16⟩
@[simp] abbrev DSP_Y_CNT_KCALLS (n : Nat) : Fld := ⟨Reg.DSP_Y_CNT n, 16, 16⟩
@[simp] abbrev DSP_Y_CNT_KABORT (n : Nat) : Fld := ⟨Reg.DSP_Y_CNT n, 0, 16⟩

/-! Fields of the clause engines (R401). -/

@[simp] abbrev CLS_CE_CTRL_RUN (n : Nat) : Fld := ⟨Reg.CLS_CE_CTRL n, 31, 1⟩
@[simp] abbrev CLS_CE_CTRL_RST (n : Nat) : Fld := ⟨Reg.CLS_CE_CTRL n, 30, 1⟩
@[simp] abbrev CLS_CE_CTRL_USER_MAX (n : Nat) : Fld := ⟨Reg.CLS_CE_CTRL n, 0, 16⟩
@[simp] abbrev CLS_CE_STAT_STATE (n : Nat) : Fld := ⟨Reg.CLS_CE_STAT n, 30, 2⟩
@[simp] abbrev CLS_CE_STAT_SLOT (n : Nat) : Fld := ⟨Reg.CLS_CE_STAT n, 24, 4⟩
@[simp] abbrev CLS_CE_STAT_PC (n : Nat) : Fld := ⟨Reg.CLS_CE_STAT n, 12, 12⟩
@[simp] abbrev CLS_CE_STAT_MSG (n : Nat) : Fld := ⟨Reg.CLS_CE_STAT n, 0, 12⟩
@[simp] abbrev CLS_CE_EVPEND_PEND (n : Nat) : Fld := ⟨Reg.CLS_CE_EVPEND n, 0, 32⟩
@[simp] abbrev CLS_CE_EVSET_SET (n : Nat) : Fld := ⟨Reg.CLS_CE_EVSET n, 0, 8⟩
@[simp] abbrev CLS_CE_FAULT_CAUSE (n : Nat) : Fld := ⟨Reg.CLS_CE_FAULT n, 28, 4⟩
@[simp] abbrev CLS_CE_FAULT_SLOT (n : Nat) : Fld := ⟨Reg.CLS_CE_FAULT n, 24, 4⟩
@[simp] abbrev CLS_CE_FAULT_PC (n : Nat) : Fld := ⟨Reg.CLS_CE_FAULT n, 0, 12⟩
@[simp] abbrev CLS_CE_CNT0_CLAUSES (n : Nat) : Fld := ⟨Reg.CLS_CE_CNT0 n, 16, 16⟩
@[simp] abbrev CLS_CE_CNT0_TIMEOUTS (n : Nat) : Fld := ⟨Reg.CLS_CE_CNT0 n, 0, 16⟩
@[simp] abbrev CLS_CE_CNT1_EV_MERGE (n : Nat) : Fld := ⟨Reg.CLS_CE_CNT1 n, 16, 16⟩
@[simp] abbrev CLS_CE_CNT1_ABORTS (n : Nat) : Fld := ⟨Reg.CLS_CE_CNT1 n, 0, 16⟩
@[simp] abbrev CLS_CE_SLOT_EN (n : Nat) (s : Nat) : Fld := ⟨Reg.CLS_CE_SLOT n s, 31, 1⟩
@[simp] abbrev CLS_CE_SLOT_USER (n : Nat) (s : Nat) : Fld := ⟨Reg.CLS_CE_SLOT n s, 30, 1⟩
@[simp] abbrev CLS_CE_SLOT_EVENT (n : Nat) (s : Nat) : Fld := ⟨Reg.CLS_CE_SLOT n s, 24, 5⟩
@[simp] abbrev CLS_CE_SLOT_ENTRY (n : Nat) (s : Nat) : Fld := ⟨Reg.CLS_CE_SLOT n s, 0, 12⟩

/-! Fields of the memory and Data Mover (R434). -/

@[simp] abbrev MEM_CTRL_SCRUB_EN : Fld := ⟨Reg.MEM_CTRL, 31, 1⟩
@[simp] abbrev MEM_CTRL_SCRUB_EPOCH : Fld := ⟨Reg.MEM_CTRL, 0, 16⟩
@[simp] abbrev MEM_STATUS_DRAM_READY : Fld := ⟨Reg.MEM_STATUS, 31, 1⟩
@[simp] abbrev MEM_STATUS_SRAM_READY : Fld := ⟨Reg.MEM_STATUS, 30, 1⟩
@[simp] abbrev MEM_STATUS_RT_REPAIRS : Fld := ⟨Reg.MEM_STATUS, 8, 8⟩
@[simp] abbrev MEM_STATUS_BAD_ARRAYS : Fld := ⟨Reg.MEM_STATUS, 0, 8⟩
@[simp] abbrev MEM_DRAM_CFG_CAP : Fld := ⟨Reg.MEM_DRAM_CFG, 30, 2⟩
@[simp] abbrev MEM_DRAM_CFG_RATE : Fld := ⟨Reg.MEM_DRAM_CFG, 28, 2⟩
@[simp] abbrev MEM_DRAM_WIN_BASE : Fld := ⟨Reg.MEM_DRAM_WIN, 28, 4⟩
@[simp] abbrev MEM_CNT0_SRAM_CORR : Fld := ⟨Reg.MEM_CNT0, 16, 16⟩
@[simp] abbrev MEM_CNT0_SRAM_UE : Fld := ⟨Reg.MEM_CNT0, 0, 16⟩
@[simp] abbrev MEM_CNT1_DRAM_CORR : Fld := ⟨Reg.MEM_CNT1, 16, 16⟩
@[simp] abbrev MEM_CNT1_DRAM_UE : Fld := ⟨Reg.MEM_CNT1, 0, 16⟩
@[simp] abbrev MEM_CNT2_MIGRATIONS : Fld := ⟨Reg.MEM_CNT2, 16, 16⟩
@[simp] abbrev MEM_CNT2_NO_SPARE : Fld := ⟨Reg.MEM_CNT2, 8, 8⟩
@[simp] abbrev MEM_CNT2_WATCH_OVF : Fld := ⟨Reg.MEM_CNT2, 0, 8⟩
@[simp] abbrev MEM_CNT3_DRAM_HARD : Fld := ⟨Reg.MEM_CNT3, 16, 16⟩
@[simp] abbrev MEM_LAST_ERR_UE : Fld := ⟨Reg.MEM_LAST_ERR, 31, 1⟩
@[simp] abbrev MEM_LAST_ERR_DRAM : Fld := ⟨Reg.MEM_LAST_ERR, 30, 1⟩
@[simp] abbrev MEM_LAST_ERR_REGION : Fld := ⟨Reg.MEM_LAST_ERR, 24, 4⟩
@[simp] abbrev MEM_LAST_ADDR_ADDR : Fld := ⟨Reg.MEM_LAST_ADDR, 0, 32⟩
@[simp] abbrev MEM_CAP_STAT_FREE : Fld := ⟨Reg.MEM_CAP_STAT, 24, 8⟩
@[simp] abbrev MEM_CAP_STAT_HELD : Fld := ⟨Reg.MEM_CAP_STAT, 16, 8⟩
@[simp] abbrev MEM_CAP_STAT_PEND : Fld := ⟨Reg.MEM_CAP_STAT, 15, 1⟩
@[simp] abbrev MEM_CAP_CFG_HOST_MAX : Fld := ⟨Reg.MEM_CAP_CFG, 24, 8⟩
@[simp] abbrev MEM_CAP_CFG_PAGE_HOLD : Fld := ⟨Reg.MEM_CAP_CFG, 0, 16⟩
@[simp] abbrev MEM_CAP_CMD_OP : Fld := ⟨Reg.MEM_CAP_CMD, 30, 2⟩
@[simp] abbrev MEM_CAP_CMD_ARG : Fld := ⟨Reg.MEM_CAP_CMD, 0, 8⟩
@[simp] abbrev MEM_CAP_CNT_RECLAIMS : Fld := ⟨Reg.MEM_CAP_CNT, 16, 16⟩
@[simp] abbrev MEM_CAP_CNT_REFUSED : Fld := ⟨Reg.MEM_CAP_CNT, 0, 16⟩
@[simp] abbrev DMV_ALLOC_REQ : Fld := ⟨Reg.DMV_ALLOC, 31, 1⟩
@[simp] abbrev DMV_ALLOC_GRANTED : Fld := ⟨Reg.DMV_ALLOC, 30, 1⟩
@[simp] abbrev DMV_ALLOC_PEND : Fld := ⟨Reg.DMV_ALLOC, 29, 1⟩
@[simp] abbrev DMV_ALLOC_CH : Fld := ⟨Reg.DMV_ALLOC, 0, 5⟩
@[simp] abbrev DMV_STATUS_BUSY : Fld := ⟨Reg.DMV_STATUS, 0, 32⟩
@[simp] abbrev MEM_UE_CNT_UE (r : Nat) : Fld := ⟨Reg.MEM_UE_CNT r, 0, 16⟩
@[simp] abbrev MEM_CAP_MASK_MASK (m : Nat) : Fld := ⟨Reg.MEM_CAP_MASK m, 0, 32⟩
@[simp] abbrev MEM_CAP_OWNER_OWNER (p : Nat) : Fld := ⟨Reg.MEM_CAP_OWNER p, 28, 4⟩
@[simp] abbrev DMV_CH_LIST_ADDR (c : Nat) : Fld := ⟨Reg.DMV_CH_LIST c, 4, 28⟩
@[simp] abbrev DMV_CH_LIST_SP (c : Nat) : Fld := ⟨Reg.DMV_CH_LIST c, 0, 1⟩
@[simp] abbrev DMV_CH_CMD_OP (c : Nat) : Fld := ⟨Reg.DMV_CH_CMD c, 29, 3⟩
@[simp] abbrev DMV_CH_STAT_STATE (c : Nat) : Fld := ⟨Reg.DMV_CH_STAT c, 29, 3⟩
@[simp] abbrev DMV_CH_STAT_OWNER (c : Nat) : Fld := ⟨Reg.DMV_CH_STAT c, 25, 4⟩
@[simp] abbrev DMV_CH_STAT_CAUSE (c : Nat) : Fld := ⟨Reg.DMV_CH_STAT c, 22, 3⟩
@[simp] abbrev DMV_CH_STAT_ABORTED (c : Nat) : Fld := ⟨Reg.DMV_CH_STAT c, 21, 1⟩
@[simp] abbrev DMV_CH_CUR_ADDR (c : Nat) : Fld := ⟨Reg.DMV_CH_CUR c, 0, 32⟩
@[simp] abbrev DMV_CH_RESIDUE_RESIDUE (c : Nat) : Fld := ⟨Reg.DMV_CH_RESIDUE c, 0, 24⟩
@[simp] abbrev DMV_CH_CNT_BYTES (c : Nat) : Fld := ⟨Reg.DMV_CH_CNT c, 0, 32⟩

/-! Fields of the monitors, front end and Locket (R458). -/

@[simp] abbrev MON_SEL_GO (x : Nat) : Fld := ⟨Reg.MON_SEL x, 31, 1⟩
@[simp] abbrev MON_SEL_SAMP (x : Nat) : Fld := ⟨Reg.MON_SEL x, 22, 9⟩
@[simp] abbrev MON_SEL_GAIN (x : Nat) : Fld := ⟨Reg.MON_SEL x, 20, 2⟩
@[simp] abbrev MON_SEL_CH (x : Nat) : Fld := ⟨Reg.MON_SEL x, 0, 6⟩
@[simp] abbrev MON_RES_VALID (x : Nat) : Fld := ⟨Reg.MON_RES x, 31, 1⟩
@[simp] abbrev MON_RES_CH (x : Nat) : Fld := ⟨Reg.MON_RES x, 24, 6⟩
@[simp] abbrev MON_RES_CODE (x : Nat) : Fld := ⟨Reg.MON_RES x, 0, 12⟩
@[simp] abbrev MON_URG_DATA (x : Nat) : Fld := ⟨Reg.MON_URG x, 0, 31⟩
@[simp] abbrev MON_URES_DATA (x : Nat) : Fld := ⟨Reg.MON_URES x, 0, 32⟩
@[simp] abbrev MON_STAT_BUSY (x : Nat) : Fld := ⟨Reg.MON_STAT x, 31, 1⟩
@[simp] abbrev MON_STAT_SEQ_RUN (x : Nat) : Fld := ⟨Reg.MON_STAT x, 30, 1⟩
@[simp] abbrev MON_STAT_URG_LVL (x : Nat) : Fld := ⟨Reg.MON_STAT x, 27, 3⟩
@[simp] abbrev MON_STAT_SEQ_POS (x : Nat) : Fld := ⟨Reg.MON_STAT x, 23, 4⟩
@[simp] abbrev MON_STAT_BAD_CH (x : Nat) : Fld := ⟨Reg.MON_STAT x, 22, 1⟩
@[simp] abbrev MON_CNT_START_DROP (x : Nat) : Fld := ⟨Reg.MON_CNT x, 16, 16⟩
@[simp] abbrev MON_CNT_URG_DROP (x : Nat) : Fld := ⟨Reg.MON_CNT x, 0, 16⟩
@[simp] abbrev MON_SEQ_EN (x : Nat) (e : Nat) : Fld := ⟨Reg.MON_SEQ x e, 31, 1⟩
@[simp] abbrev MON_SEQ_SAMP (x : Nat) (e : Nat) : Fld := ⟨Reg.MON_SEQ x e, 22, 9⟩
@[simp] abbrev MON_SEQ_GAIN (x : Nat) (e : Nat) : Fld := ⟨Reg.MON_SEQ x e, 20, 2⟩
@[simp] abbrev MON_SEQ_AVG (x : Nat) (e : Nat) : Fld := ⟨Reg.MON_SEQ x e, 17, 3⟩
@[simp] abbrev MON_SEQ_CH (x : Nat) (e : Nat) : Fld := ⟨Reg.MON_SEQ x e, 0, 6⟩
@[simp] abbrev MON_SRES_VALID (x : Nat) (e : Nat) : Fld := ⟨Reg.MON_SRES x e, 31, 1⟩
@[simp] abbrev MON_SRES_CODE (x : Nat) (e : Nat) : Fld := ⟨Reg.MON_SRES x e, 0, 12⟩
@[simp] abbrev MON_STATUS_DISAGREE : Fld := ⟨Reg.MON_STATUS, 31, 1⟩
@[simp] abbrev MON_STATUS_PLAUS_A : Fld := ⟨Reg.MON_STATUS, 12, 12⟩
@[simp] abbrev MON_STATUS_PLAUS_B : Fld := ⟨Reg.MON_STATUS, 0, 12⟩
@[simp] abbrev MON_THR_CFG_EN (t : Nat) : Fld := ⟨Reg.MON_THR_CFG t, 31, 1⟩
@[simp] abbrev MON_THR_CFG_EVT (t : Nat) : Fld := ⟨Reg.MON_THR_CFG t, 30, 1⟩
@[simp] abbrev MON_THR_CFG_WAKE (t : Nat) : Fld := ⟨Reg.MON_THR_CFG t, 29, 1⟩
@[simp] abbrev MON_THR_CFG_FAULT (t : Nat) : Fld := ⟨Reg.MON_THR_CFG t, 28, 1⟩
@[simp] abbrev MON_THR_CFG_HYST (t : Nat) : Fld := ⟨Reg.MON_THR_CFG t, 20, 8⟩
@[simp] abbrev MON_THR_CFG_CH (t : Nat) : Fld := ⟨Reg.MON_THR_CFG t, 0, 6⟩
@[simp] abbrev MON_THR_LIM_HI (t : Nat) : Fld := ⟨Reg.MON_THR_LIM t, 16, 12⟩
@[simp] abbrev MON_THR_LIM_LO (t : Nat) : Fld := ⟨Reg.MON_THR_LIM t, 0, 12⟩
@[simp] abbrev MON_THR_STAT_HI_X (t : Nat) : Fld := ⟨Reg.MON_THR_STAT t, 31, 1⟩
@[simp] abbrev MON_THR_STAT_LO_X (t : Nat) : Fld := ⟨Reg.MON_THR_STAT t, 30, 1⟩
@[simp] abbrev MON_THR_STAT_ACTIVE (t : Nat) : Fld := ⟨Reg.MON_THR_STAT t, 29, 1⟩
@[simp] abbrev MON_THR_STAT_LAST (t : Nat) : Fld := ⟨Reg.MON_THR_STAT t, 0, 12⟩
@[simp] abbrev FEN_FACET_BUS_EN (k : Nat) : Fld := ⟨Reg.FEN_FACET_BUS k, 31, 1⟩
@[simp] abbrev FEN_FACET_BUS_DIV (k : Nat) : Fld := ⟨Reg.FEN_FACET_BUS k, 0, 7⟩
@[simp] abbrev FEN_FACET_CTL_ARM (k : Nat) : Fld := ⟨Reg.FEN_FACET_CTL k, 31, 1⟩
@[simp] abbrev FEN_FACET_CTL_POS (k : Nat) : Fld := ⟨Reg.FEN_FACET_CTL k, 27, 4⟩
@[simp] abbrev FEN_FACET_CTL_GEN (k : Nat) : Fld := ⟨Reg.FEN_FACET_CTL k, 0, 16⟩
@[simp] abbrev FEN_FACET_RING_RLEN (k : Nat) : Fld := ⟨Reg.FEN_FACET_RING k, 28, 4⟩
@[simp] abbrev FEN_FACET_RING_FE_OFS (k : Nat) : Fld := ⟨Reg.FEN_FACET_RING k, 0, 16⟩
@[simp] abbrev FEN_FACET_RD_DATA (k : Nat) : Fld := ⟨Reg.FEN_FACET_RD k, 0, 32⟩
@[simp] abbrev FEN_FACET_STAT_BUSY (k : Nat) : Fld := ⟨Reg.FEN_FACET_STAT k, 31, 1⟩
@[simp] abbrev FEN_FACET_STAT_RD_LVL (k : Nat) : Fld := ⟨Reg.FEN_FACET_STAT k, 24, 5⟩
@[simp] abbrev FEN_FACET_STAT_OVERRUN (k : Nat) : Fld := ⟨Reg.FEN_FACET_STAT k, 8, 8⟩
@[simp] abbrev FEN_FACET_STAT_RD_OVF (k : Nat) : Fld := ⟨Reg.FEN_FACET_STAT k, 0, 8⟩
@[simp] abbrev FEN_FACET_D_START (k : Nat) (j : Nat) : Fld := ⟨Reg.FEN_FACET_D k j, 23, 9⟩
@[simp] abbrev FEN_FACET_D_COUNT (k : Nat) (j : Nat) : Fld := ⟨Reg.FEN_FACET_D k j, 16, 7⟩
@[simp] abbrev FEN_FACET_E_CTL_READ (k : Nat) (i : Nat) : Fld := ⟨Reg.FEN_FACET_E_CTL k i, 31, 1⟩
@[simp] abbrev FEN_FACET_E_CTL_GAP (k : Nat) (i : Nat) : Fld := ⟨Reg.FEN_FACET_E_CTL k i, 27, 4⟩
@[simp] abbrev FEN_FACET_E_CTL_LEN (k : Nat) (i : Nat) : Fld := ⟨Reg.FEN_FACET_E_CTL k i, 16, 5⟩
@[simp] abbrev FEN_FACET_E_DAT_DATA (k : Nat) (i : Nat) : Fld := ⟨Reg.FEN_FACET_E_DAT k i, 0, 32⟩
@[simp] abbrev FEN_STB_CFG_KIND (s : Nat) : Fld := ⟨Reg.FEN_STB_CFG s, 30, 2⟩
@[simp] abbrev FEN_STB_CFG_POL (s : Nat) : Fld := ⟨Reg.FEN_STB_CFG s, 29, 1⟩
@[simp] abbrev FEN_STB_CFG_IDLE (s : Nat) : Fld := ⟨Reg.FEN_STB_CFG s, 28, 1⟩
@[simp] abbrev FEN_STB_CFG_DUTY_CLIP (s : Nat) : Fld := ⟨Reg.FEN_STB_CFG s, 0, 16⟩
@[simp] abbrev FEN_STB_STAT_LEVEL : Fld := ⟨Reg.FEN_STB_STAT, 16, 16⟩
@[simp] abbrev FEN_STB_STAT_CUT : Fld := ⟨Reg.FEN_STB_STAT, 0, 16⟩
@[simp] abbrev FEN_TDD_LEVEL (r : Nat) : Fld := ⟨Reg.FEN_TDD r, 16, 16⟩
@[simp] abbrev FEN_TDD_MASK (r : Nat) : Fld := ⟨Reg.FEN_TDD r, 0, 16⟩
@[simp] abbrev FEN_ORX_LVL_LEVEL (r : Nat) : Fld := ⟨Reg.FEN_ORX_LVL r, 0, 24⟩
@[simp] abbrev FEN_ORX_MASK_MASK (r : Nat) : Fld := ⟨Reg.FEN_ORX_MASK r, 0, 24⟩
@[simp] abbrev FEN_ORX_STAT_LEVEL : Fld := ⟨Reg.FEN_ORX_STAT, 0, 24⟩
@[simp] abbrev LKT_CTRL_SEAL : Fld := ⟨Reg.LKT_CTRL, 16, 16⟩
@[simp] abbrev LKT_STAT_SEALED : Fld := ⟨Reg.LKT_STAT, 31, 1⟩
@[simp] abbrev LKT_STAT_CRC_OK : Fld := ⟨Reg.LKT_STAT, 30, 1⟩
@[simp] abbrev LKT_STAT_JTAG_OPEN : Fld := ⟨Reg.LKT_STAT, 29, 1⟩
@[simp] abbrev LKT_STAT_SEAL_BUSY : Fld := ⟨Reg.LKT_STAT, 28, 1⟩
@[simp] abbrev LKT_STAT_SEAL_ERR : Fld := ⟨Reg.LKT_STAT, 27, 1⟩
@[simp] abbrev LKT_STAT_CHAL_FAIL : Fld := ⟨Reg.LKT_STAT, 0, 4⟩
@[simp] abbrev LKT_RNG_LO_EN (n : Nat) : Fld := ⟨Reg.LKT_RNG_LO n, 31, 1⟩
@[simp] abbrev LKT_RNG_LO_F_KHZ (n : Nat) : Fld := ⟨Reg.LKT_RNG_LO n, 0, 23⟩
@[simp] abbrev LKT_RNG_HI_F_KHZ (n : Nat) : Fld := ⟨Reg.LKT_RNG_HI n, 0, 23⟩
@[simp] abbrev LKT_LEVEL_LMAX : Fld := ⟨Reg.LKT_LEVEL, 0, 16⟩
@[simp] abbrev LKT_DUTY_DUTY_MAX : Fld := ⟨Reg.LKT_DUTY, 0, 10⟩
@[simp] abbrev LKT_JKEY_HASH (w : Nat) : Fld := ⟨Reg.LKT_JKEY w, 0, 32⟩
@[simp] abbrev LKT_CHAL_NONCE (w : Nat) : Fld := ⟨Reg.LKT_CHAL w, 0, 32⟩
@[simp] abbrev LKT_CNT_RANGE_REF : Fld := ⟨Reg.LKT_CNT, 16, 16⟩
@[simp] abbrev PMON_CFG_EN (m : Nat) : Fld := ⟨Reg.PMON_CFG m, 31, 1⟩
@[simp] abbrev PMON_CFG_SRC (m : Nat) : Fld := ⟨Reg.PMON_CFG m, 26, 5⟩
@[simp] abbrev PMON_CFG_W (m : Nat) : Fld := ⟨Reg.PMON_CFG m, 21, 5⟩
@[simp] abbrev PMON_CFG_ARG (m : Nat) : Fld := ⟨Reg.PMON_CFG m, 0, 8⟩
@[simp] abbrev PMON_PER_PERIOD (m : Nat) : Fld := ⟨Reg.PMON_PER m, 0, 24⟩
@[simp] abbrev PMON_LO_LO (m : Nat) : Fld := ⟨Reg.PMON_LO m, 0, 32⟩
@[simp] abbrev PMON_MIN_MIN (m : Nat) : Fld := ⟨Reg.PMON_MIN m, 0, 32⟩
@[simp] abbrev PMON_MAX_MAX (m : Nat) : Fld := ⟨Reg.PMON_MAX m, 0, 32⟩
@[simp] abbrev PMON_MEAN_MEAN (m : Nat) : Fld := ⟨Reg.PMON_MEAN m, 0, 32⟩
@[simp] abbrev PMON_COUNT_COUNT (m : Nat) : Fld := ⟨Reg.PMON_COUNT m, 0, 32⟩
@[simp] abbrev PMON_SEQ_SEQ (m : Nat) : Fld := ⟨Reg.PMON_SEQ m, 16, 16⟩
@[simp] abbrev PMON_HIST_CNT (m : Nat) (i : Nat) : Fld := ⟨Reg.PMON_HIST m i, 0, 32⟩
@[simp] abbrev LKT_PATH_CNT_LVL_CLIP (p : Nat) : Fld := ⟨Reg.LKT_PATH_CNT p, 0, 32⟩

/-! Fields of the power states (R481). -/

@[simp] abbrev PWS_MODE_REQ : Fld := ⟨Reg.PWS_MODE, 31, 1⟩
@[simp] abbrev PWS_MODE_WAKE_TO : Fld := ⟨Reg.PWS_MODE, 4, 2⟩
@[simp] abbrev PWS_MODE_TARGET : Fld := ⟨Reg.PWS_MODE, 0, 2⟩
@[simp] abbrev PWS_STATUS_BUSY : Fld := ⟨Reg.PWS_STATUS, 31, 1⟩
@[simp] abbrev PWS_STATUS_REFUSED : Fld := ⟨Reg.PWS_STATUS, 30, 1⟩
@[simp] abbrev PWS_STATUS_CAUSE : Fld := ⟨Reg.PWS_STATUS, 27, 3⟩
@[simp] abbrev PWS_STATUS_ABORTED : Fld := ⟨Reg.PWS_STATUS, 26, 1⟩
@[simp] abbrev PWS_STATUS_WAKE_FAILED : Fld := ⟨Reg.PWS_STATUS, 25, 1⟩
@[simp] abbrev PWS_STATUS_ATTEMPTS : Fld := ⟨Reg.PWS_STATUS, 12, 4⟩
@[simp] abbrev PWS_STATUS_WAKE_SRC : Fld := ⟨Reg.PWS_STATUS, 8, 3⟩
@[simp] abbrev PWS_STATUS_STATE : Fld := ⟨Reg.PWS_STATUS, 0, 3⟩
@[simp] abbrev PWS_KEEP_KEEP_FAIL : Fld := ⟨Reg.PWS_KEEP, 16, 8⟩
@[simp] abbrev PWS_KEEP_KEEP_OK : Fld := ⟨Reg.PWS_KEEP, 8, 8⟩
@[simp] abbrev PWS_KEEP_KEEP_SEL : Fld := ⟨Reg.PWS_KEEP, 0, 8⟩
@[simp] abbrev PWS_LISTEN_EN : Fld := ⟨Reg.PWS_LISTEN, 31, 1⟩
@[simp] abbrev PWS_LISTEN_MODE : Fld := ⟨Reg.PWS_LISTEN, 30, 1⟩
@[simp] abbrev PWS_LISTEN_PORT : Fld := ⟨Reg.PWS_LISTEN, 27, 3⟩
@[simp] abbrev PWS_WAKE_LANE : Fld := ⟨Reg.PWS_WAKE, 3, 1⟩
@[simp] abbrev PWS_WAKE_WAKEN : Fld := ⟨Reg.PWS_WAKE, 2, 1⟩
@[simp] abbrev PWS_WAKE_TRIG : Fld := ⟨Reg.PWS_WAKE, 1, 1⟩
@[simp] abbrev PWS_WAKE_MON : Fld := ⟨Reg.PWS_WAKE, 0, 1⟩
@[simp] abbrev PWS_PMIC_AUX_OFF : Fld := ⟨Reg.PWS_PMIC, 30, 2⟩
@[simp] abbrev PWS_PMIC_PG_MASK : Fld := ⟨Reg.PWS_PMIC, 16, 6⟩
@[simp] abbrev PWS_PMIC_EN : Fld := ⟨Reg.PWS_PMIC, 8, 6⟩
@[simp] abbrev PWS_PMIC_PG : Fld := ⟨Reg.PWS_PMIC, 0, 6⟩
@[simp] abbrev PWS_BUDGET_BUDGET_MW : Fld := ⟨Reg.PWS_BUDGET, 16, 16⟩
@[simp] abbrev PWS_BUDGET_WINDOW : Fld := ⟨Reg.PWS_BUDGET, 0, 8⟩
@[simp] abbrev PWS_EST_TOTAL_MW : Fld := ⟨Reg.PWS_EST, 16, 16⟩
@[simp] abbrev PWS_EST_PEAK_MW : Fld := ⟨Reg.PWS_EST, 0, 16⟩
@[simp] abbrev PWS_SLEEP_SLOT : Fld := ⟨Reg.PWS_SLEEP, 28, 4⟩
@[simp] abbrev PWS_SLEEP_AUTO_RX : Fld := ⟨Reg.PWS_SLEEP, 4, 4⟩
@[simp] abbrev PWS_SLEEP_AUTO_TX : Fld := ⟨Reg.PWS_SLEEP, 0, 4⟩
@[simp] abbrev PWS_CNT0_WAKES : Fld := ⟨Reg.PWS_CNT0, 16, 16⟩
@[simp] abbrev PWS_CNT0_WAKE_FAILS : Fld := ⟨Reg.PWS_CNT0, 0, 16⟩
@[simp] abbrev PWS_CNT1_ABORTS : Fld := ⟨Reg.PWS_CNT1, 16, 16⟩
@[simp] abbrev PWS_CNT1_THROTTLES : Fld := ⟨Reg.PWS_CNT1, 0, 16⟩
@[simp] abbrev PWS_RAMP_STAT_BALLAST : Fld := ⟨Reg.PWS_RAMP_STAT, 0, 8⟩
@[simp] abbrev PWS_CLIENT_EST_MW (c : Nat) : Fld := ⟨Reg.PWS_CLIENT c, 16, 16⟩
@[simp] abbrev PWS_CLIENT_PRIO (c : Nat) : Fld := ⟨Reg.PWS_CLIENT c, 8, 3⟩
@[simp] abbrev PWS_CLIENT_LEVEL (c : Nat) : Fld := ⟨Reg.PWS_CLIENT c, 0, 2⟩
@[simp] abbrev PWS_FACET_CNT_SLEEP_DROP (k : Nat) : Fld := ⟨Reg.PWS_FACET_CNT k, 16, 16⟩
@[simp] abbrev PWS_FACET_CNT_SYM_SLEEPS (k : Nat) : Fld := ⟨Reg.PWS_FACET_CNT k, 0, 16⟩
@[simp] abbrev PWS_RAMP_DIR (r : Nat) : Fld := ⟨Reg.PWS_RAMP r, 31, 1⟩
@[simp] abbrev PWS_RAMP_DELTA (r : Nat) : Fld := ⟨Reg.PWS_RAMP r, 16, 8⟩
@[simp] abbrev PWS_RAMP_RAMP_US (r : Nat) : Fld := ⟨Reg.PWS_RAMP r, 0, 8⟩

/-! Fields of the Fault Hub (R502). -/

@[simp] abbrev FLT_CTRL_FAULTN_CORR : Fld := ⟨Reg.FLT_CTRL, 31, 1⟩
@[simp] abbrev FLT_CTRL_EVT_CORR : Fld := ⟨Reg.FLT_CTRL, 30, 1⟩
@[simp] abbrev FLT_CTRL_QUIET_PERIOD : Fld := ⟨Reg.FLT_CTRL, 0, 16⟩
@[simp] abbrev FLT_STATUS_FAULT_N : Fld := ⟨Reg.FLT_STATUS, 31, 1⟩
@[simp] abbrev FLT_STATUS_FATAL : Fld := ⟨Reg.FLT_STATUS, 30, 1⟩
@[simp] abbrev FLT_STATUS_ACTIVE : Fld := ⟨Reg.FLT_STATUS, 16, 8⟩
@[simp] abbrev FLT_STATUS_LATCHED : Fld := ⟨Reg.FLT_STATUS, 8, 8⟩
@[simp] abbrev FLT_STATUS_LOG_LVL : Fld := ⟨Reg.FLT_STATUS, 0, 6⟩
@[simp] abbrev FLT_CLEAR_ALL : Fld := ⟨Reg.FLT_CLEAR, 31, 1⟩
@[simp] abbrev FLT_CLEAR_ONE : Fld := ⟨Reg.FLT_CLEAR, 30, 1⟩
@[simp] abbrev FLT_CLEAR_SRC : Fld := ⟨Reg.FLT_CLEAR, 0, 6⟩
@[simp] abbrev FLT_QUIET_PART : Fld := ⟨Reg.FLT_QUIET, 31, 1⟩
@[simp] abbrev FLT_QUIET_FACET : Fld := ⟨Reg.FLT_QUIET, 16, 4⟩
@[simp] abbrev FLT_QUIET_SHUT : Fld := ⟨Reg.FLT_QUIET, 0, 4⟩
@[simp] abbrev FLT_CNT0_RECOVERIES : Fld := ⟨Reg.FLT_CNT0, 16, 16⟩
@[simp] abbrev FLT_CNT0_LATCHES : Fld := ⟨Reg.FLT_CNT0, 0, 16⟩
@[simp] abbrev FLT_CNT1_CORRECTED : Fld := ⟨Reg.FLT_CNT1, 16, 16⟩
@[simp] abbrev FLT_CNT1_CONTAINED : Fld := ⟨Reg.FLT_CNT1, 0, 16⟩
@[simp] abbrev FLT_CNT2_FATAL : Fld := ⟨Reg.FLT_CNT2, 16, 16⟩
@[simp] abbrev FLT_CNT2_LOG_OVF : Fld := ⟨Reg.FLT_CNT2, 8, 8⟩
@[simp] abbrev FLT_CNT2_SRC_OVF : Fld := ⟨Reg.FLT_CNT2, 0, 8⟩
@[simp] abbrev FLT_HOST_EN : Fld := ⟨Reg.FLT_HOST, 31, 1⟩
@[simp] abbrev FLT_HOST_QUIET : Fld := ⟨Reg.FLT_HOST, 30, 1⟩
@[simp] abbrev FLT_HOST_TO : Fld := ⟨Reg.FLT_HOST, 0, 16⟩
@[simp] abbrev FLT_HOST_KICK_KICK : Fld := ⟨Reg.FLT_HOST_KICK, 0, 32⟩
@[simp] abbrev FLT_STBMAP0_MAP : Fld := ⟨Reg.FLT_STBMAP0, 0, 32⟩
@[simp] abbrev FLT_STBMAP1_MAP : Fld := ⟨Reg.FLT_STBMAP1, 0, 32⟩
@[simp] abbrev FLT_HUB_TX_LO_MASK : Fld := ⟨Reg.FLT_HUB_TX_LO, 0, 32⟩
@[simp] abbrev FLT_HUB_TX_HI_MASK : Fld := ⟨Reg.FLT_HUB_TX_HI, 0, 32⟩
@[simp] abbrev FLT_HUB_RX_LO_MASK : Fld := ⟨Reg.FLT_HUB_RX_LO, 0, 32⟩
@[simp] abbrev FLT_HUB_RX_HI_MASK : Fld := ⟨Reg.FLT_HUB_RX_HI, 0, 32⟩
@[simp] abbrev FLT_QPATH_LO_MASK : Fld := ⟨Reg.FLT_QPATH_LO, 0, 32⟩
@[simp] abbrev FLT_QPATH_HI_MASK : Fld := ⟨Reg.FLT_QPATH_HI, 0, 32⟩
@[simp] abbrev FLT_LOG_CODE_CODE : Fld := ⟨Reg.FLT_LOG_CODE, 0, 32⟩
@[simp] abbrev FLT_LOG_TS_LO_NS : Fld := ⟨Reg.FLT_LOG_TS_LO, 0, 32⟩
@[simp] abbrev FLT_LOG_TS_HI_SEC : Fld := ⟨Reg.FLT_LOG_TS_HI, 0, 32⟩
@[simp] abbrev FLT_LOG_POP_POP : Fld := ⟨Reg.FLT_LOG_POP, 0, 32⟩
@[simp] abbrev FLT_SRC_CODE_CODE (i : Nat) : Fld := ⟨Reg.FLT_SRC_CODE i, 0, 32⟩
@[simp] abbrev FLT_SRC_STAT_STATE (i : Nat) : Fld := ⟨Reg.FLT_SRC_STAT i, 30, 2⟩
@[simp] abbrev FLT_SRC_STAT_RECENT (i : Nat) : Fld := ⟨Reg.FLT_SRC_STAT i, 16, 4⟩
@[simp] abbrev FLT_SRC_STAT_OCCUR (i : Nat) : Fld := ⟨Reg.FLT_SRC_STAT i, 0, 16⟩
@[simp] abbrev FLT_SRC_AGE_MS (i : Nat) : Fld := ⟨Reg.FLT_SRC_AGE i, 0, 32⟩

/-! Fields of the boot and ID (R523). -/

@[simp] abbrev BOOT_ID_PART : Fld := ⟨Reg.BOOT_ID, 16, 16⟩
@[simp] abbrev BOOT_ID_REV : Fld := ⟨Reg.BOOT_ID, 8, 8⟩
@[simp] abbrev BOOT_ID_GRADE : Fld := ⟨Reg.BOOT_ID, 4, 4⟩
@[simp] abbrev BOOT_STRAP_PERSONA : Fld := ⟨Reg.BOOT_STRAP, 31, 1⟩
@[simp] abbrev BOOT_STRAP_BOOT_SEL : Fld := ⟨Reg.BOOT_STRAP, 29, 2⟩
@[simp] abbrev BOOT_DIEID_LO_ID : Fld := ⟨Reg.BOOT_DIEID_LO, 0, 32⟩
@[simp] abbrev BOOT_DIEID_HI_ID : Fld := ⟨Reg.BOOT_DIEID_HI, 0, 32⟩
@[simp] abbrev BOOT_STATUS_RADIO_READY : Fld := ⟨Reg.BOOT_STATUS, 31, 1⟩
@[simp] abbrev BOOT_STATUS_BOOT_FAIL : Fld := ⟨Reg.BOOT_STATUS, 30, 1⟩
@[simp] abbrev BOOT_STATUS_RECOVERY : Fld := ⟨Reg.BOOT_STATUS, 29, 1⟩
@[simp] abbrev BOOT_STATUS_PERSONA : Fld := ⟨Reg.BOOT_STATUS, 28, 1⟩
@[simp] abbrev BOOT_STATUS_SLOT : Fld := ⟨Reg.BOOT_STATUS, 27, 1⟩
@[simp] abbrev BOOT_STATUS_UNPROV : Fld := ⟨Reg.BOOT_STATUS, 26, 1⟩
@[simp] abbrev BOOT_STATUS_USER_REJ : Fld := ⟨Reg.BOOT_STATUS, 25, 1⟩
@[simp] abbrev BOOT_STATUS_CAL_BAD : Fld := ⟨Reg.BOOT_STATUS, 24, 1⟩
@[simp] abbrev BOOT_STATUS_CAL_ABSENT : Fld := ⟨Reg.BOOT_STATUS, 23, 1⟩
@[simp] abbrev BOOT_STATUS_CAUSE : Fld := ⟨Reg.BOOT_STATUS, 20, 3⟩
@[simp] abbrev BOOT_STATUS_STAGE : Fld := ⟨Reg.BOOT_STATUS, 16, 4⟩
@[simp] abbrev BOOT_ERR_ERR_A : Fld := ⟨Reg.BOOT_ERR, 8, 8⟩
@[simp] abbrev BOOT_ERR_ERR_B : Fld := ⟨Reg.BOOT_ERR, 0, 8⟩
@[simp] abbrev BOOT_SEQ_SEQ : Fld := ⟨Reg.BOOT_SEQ, 0, 32⟩
@[simp] abbrev BOOT_TIME_READY_MS : Fld := ⟨Reg.BOOT_TIME, 16, 16⟩
@[simp] abbrev BOOT_TXREL_RELEASED : Fld := ⟨Reg.BOOT_TXREL, 31, 1⟩
@[simp] abbrev BOOT_TXREL_CAL_OK : Fld := ⟨Reg.BOOT_TXREL, 30, 1⟩
@[simp] abbrev BOOT_TXREL_FREE_RUN : Fld := ⟨Reg.BOOT_TXREL, 29, 1⟩
@[simp] abbrev BOOT_TXREL_HOLDS : Fld := ⟨Reg.BOOT_TXREL, 16, 8⟩
@[simp] abbrev BOOT_TXREL_GRACE_MS : Fld := ⟨Reg.BOOT_TXREL, 0, 16⟩
@[simp] abbrev BOOT_CTRL_REBOOT : Fld := ⟨Reg.BOOT_CTRL, 16, 16⟩
@[simp] abbrev BOOT_OTP_IMG_KEY : Fld := ⟨Reg.BOOT_OTP, 31, 1⟩
@[simp] abbrev BOOT_OTP_USER_KEY : Fld := ⟨Reg.BOOT_OTP, 30, 1⟩
@[simp] abbrev BOOT_OTP_AES_KEY : Fld := ⟨Reg.BOOT_OTP, 29, 1⟩
@[simp] abbrev BOOT_FL_CMD_OP : Fld := ⟨Reg.BOOT_FL_CMD, 28, 4⟩
@[simp] abbrev BOOT_FL_CMD_UNLOCK : Fld := ⟨Reg.BOOT_FL_CMD, 16, 8⟩
@[simp] abbrev BOOT_FL_CMD_ARG : Fld := ⟨Reg.BOOT_FL_CMD, 0, 2⟩
@[simp] abbrev BOOT_FL_ADDR_ADDR : Fld := ⟨Reg.BOOT_FL_ADDR, 0, 32⟩
@[simp] abbrev BOOT_FL_STAT_BUSY : Fld := ⟨Reg.BOOT_FL_STAT, 31, 1⟩
@[simp] abbrev BOOT_FL_STAT_REFUSED : Fld := ⟨Reg.BOOT_FL_STAT, 30, 1⟩
@[simp] abbrev BOOT_FL_STAT_CAUSE : Fld := ⟨Reg.BOOT_FL_STAT, 27, 3⟩
@[simp] abbrev BOOT_FL_STAT_VRES : Fld := ⟨Reg.BOOT_FL_STAT, 25, 2⟩
@[simp] abbrev BOOT_FL_STAT_VERR : Fld := ⟨Reg.BOOT_FL_STAT, 17, 8⟩
@[simp] abbrev BOOT_CAL_WRITES : Fld := ⟨Reg.BOOT_CAL, 16, 16⟩
@[simp] abbrev BOOT_CAL_WRITER : Fld := ⟨Reg.BOOT_CAL, 15, 1⟩
@[simp] abbrev BOOT_FL_BUF_DATA (i : Nat) : Fld := ⟨Reg.BOOT_FL_BUF i, 0, 32⟩

end Fld

end Sys2Proof.Machine
end

