-- ==== Sys2Proof/Machine/RegTable.lean ====
section
/-! DEFINITION. Machine/RegTable.lean: for every register its repetition, and for every field its type (R5, R560) and reset
value (R561), written from the field tables of spec/. A reset value the tables give as "—" stands as 0 (assumption log 1). -/

namespace Sys2Proof.Machine

/-- The access types of R5. -/
inductive Access where
  | ro | rw | wo | w1c | rc | sh | st
deriving DecidableEq, Repr

/-- One row of a field table: lowest bit, width, type and reset value. -/
structure FieldRow where
  lo : Nat
  width : Nat
  acc : Access
  reset : Nat
deriving DecidableEq, Repr

/-- One register of the map: its first address, the stride and count of each of its indexes (widest stride first) and its
fields. -/
structure RegRow where
  base : Nat
  dims : List (Nat × Nat)
  fields : List FieldRow
deriving DecidableEq, Repr

/-- Does an offset from a row's first address fall on one of the row's repetitions? -/
def dimsCover : List (Nat × Nat) → Nat → Bool
  | [], d => d == 0
  | (stride, count) :: ds, d => d / stride < count && dimsCover ds (d % stride)

def RegRow.covers (r : RegRow) (a : Nat) : Bool :=
  r.base ≤ a && dimsCover r.dims (a - r.base)

/-- Registers of the time and air timeline (R23 to R59), part 1. -/
def regTable02a : List RegRow := [
  ⟨0x03000000, [], [⟨31, 1, .wo, 0x0⟩, ⟨30, 1, .wo, 0x0⟩, ⟨29, 1, .wo, 0x0⟩, ⟨4, 1, .rw, 0x1⟩, ⟨0, 2, .rw, 0x0⟩]⟩,
  ⟨0x03000004, [], [⟨11, 1, .w1c, 0x0⟩, ⟨10, 1, .w1c, 0x0⟩, ⟨9, 1, .w1c, 0x0⟩, ⟨8, 1, .w1c, 0x0⟩, ⟨4, 1, .ro, 0x0⟩, ⟨3, 1, .ro, 0x0⟩, ⟨0, 3, .ro, 0x0⟩]⟩,
  ⟨0x03000008, [], [⟨0, 32, .rw, 0x40000000⟩]⟩,
  ⟨0x0300000C, [], [⟨0, 8, .rw, 0x1⟩]⟩,
  ⟨0x03000010, [], [⟨0, 32, .ro, 0x0⟩]⟩,
  ⟨0x03000014, [], [⟨0, 32, .ro, 0x0⟩]⟩,
  ⟨0x03000020, [], [⟨0, 32, .ro, 0x0⟩]⟩,
  ⟨0x03000024, [], [⟨0, 32, .ro, 0x0⟩]⟩,
  ⟨0x03000028, [], [⟨0, 32, .ro, 0x0⟩]⟩,
  ⟨0x0300002C, [], [⟨0, 16, .ro, 0x0⟩]⟩,
  ⟨0x03000030, [], [⟨0, 30, .rw, 0x0⟩]⟩,
  ⟨0x03000034, [], [⟨0, 32, .rw, 0x0⟩]⟩,
  ⟨0x03000038, [], [⟨0, 16, .rw, 0x0⟩]⟩,
  ⟨0x0300003C, [], [⟨0, 32, .rw, 0x0⟩]⟩,
  ⟨0x03000040, [], [⟨12, 20, .rw, 0x3E8⟩, ⟨8, 4, .rw, 0x4⟩, ⟨4, 4, .rw, 0x5⟩]⟩,
  ⟨0x03000044, [], [⟨16, 16, .rw, 0x64⟩, ⟨8, 8, .rw, 0x10⟩]⟩,
  ⟨0x03000048, [], [⟨0, 32, .ro, 0x0⟩]⟩,
  ⟨0x0300004C, [], [⟨16, 16, .rw, 0x12C⟩, ⟨0, 16, .rw, 0x3C⟩]⟩,
  ⟨0x03000050, [], [⟨16, 16, .rc, 0x0⟩, ⟨0, 16, .rc, 0x0⟩]⟩,
  ⟨0x03000060, [], [⟨24, 8, .rw, 0x18⟩, ⟨16, 8, .rw, 0x80⟩, ⟨4, 1, .rw, 0x0⟩, ⟨3, 1, .rw, 0x0⟩]⟩,
  ⟨0x03000070, [], [⟨31, 1, .rw, 0x0⟩, ⟨30, 1, .rw, 0x0⟩, ⟨24, 4, .rw, 0x0⟩, ⟨20, 4, .rw, 0x0⟩, ⟨4, 4, .rw, 0xB⟩]⟩,
  ⟨0x03000074, [], [⟨28, 4, .ro, 0x0⟩, ⟨24, 4, .ro, 0xF⟩, ⟨0, 2, .ro, 0x0⟩]⟩,
  ⟨0x03000080, [], [⟨31, 1, .rw, 0x0⟩, ⟨16, 12, .rw, 0x64⟩, ⟨0, 16, .rw, 0x0⟩]⟩,
  ⟨0x03000084, [], [⟨16, 16, .rw, 0x25⟩, ⟨15, 1, .rw, 0x0⟩, ⟨12, 3, .rw, 0x4⟩, ⟨0, 8, .rc, 0x0⟩]⟩,
  ⟨0x03000090, [], [⟨0, 32, .rw, 0x0⟩]⟩,
  ⟨0x03000094, [], [⟨0, 10, .rw, 0x0⟩]⟩,
  ⟨0x03000098, [], [⟨0, 16, .ro, 0x0⟩]⟩,
  ⟨0x0300009C, [], [⟨24, 8, .ro, 0x0⟩, ⟨16, 8, .ro, 0x0⟩, ⟨8, 8, .ro, 0x0⟩, ⟨0, 8, .ro, 0x0⟩]⟩,
  ⟨0x03000100, [(0x10, 8)], [⟨31, 1, .rw, 0x0⟩, ⟨30, 1, .rw, 0x0⟩, ⟨16, 8, .rw, 0x80⟩]⟩,
  ⟨0x03000104, [(0x10, 8)], [⟨16, 16, .rw, 0x0⟩, ⟨0, 16, .rw, 0x0⟩]⟩]

/-- Registers of the time and air timeline (R23 to R59), part 2. -/
def regTable02b : List RegRow := [
  ⟨0x03000108, [(0x10, 8)], [⟨0, 32, .rw, 0x0⟩]⟩,
  ⟨0x03000400, [(0x10, 32)], [⟨31, 1, .rw, 0x0⟩, ⟨30, 1, .rw, 0x0⟩, ⟨28, 2, .rw, 0x1⟩, ⟨27, 1, .w1c, 0x0⟩]⟩,
  ⟨0x03000404, [(0x10, 32)], [⟨22, 10, .ro, 0x0⟩, ⟨18, 4, .ro, 0x0⟩, ⟨16, 2, .ro, 0x0⟩, ⟨12, 4, .ro, 0x0⟩, ⟨0, 1, .ro, 0x0⟩]⟩,
  ⟨0x03001000, [(0x20, 64)], [⟨31, 1, .rw, 0x0⟩, ⟨30, 1, .rw, 0x0⟩, ⟨24, 5, .rw, 0x0⟩, ⟨20, 4, .rw, 0x0⟩, ⟨8, 8, .rw, 0x0⟩]⟩,
  ⟨0x03001004, [(0x20, 64)], [⟨0, 32, .rw, 0x0⟩]⟩,
  ⟨0x03001008, [(0x20, 64)], [⟨0, 32, .rw, 0x0⟩]⟩,
  ⟨0x0300100C, [(0x20, 64)], [⟨0, 32, .rw, 0x0⟩]⟩,
  ⟨0x03001010, [(0x20, 64)], [⟨31, 1, .w1c, 0x0⟩, ⟨30, 1, .w1c, 0x0⟩, ⟨29, 1, .w1c, 0x0⟩, ⟨28, 1, .w1c, 0x0⟩, ⟨0, 16, .ro, 0x0⟩]⟩,
  ⟨0x03001800, [(0x10, 16)], [⟨31, 1, .rw, 0x0⟩, ⟨28, 2, .rw, 0x1⟩, ⟨0, 5, .rw, 0x0⟩]⟩,
  ⟨0x03001804, [(0x10, 16)], [⟨31, 1, .w1c, 0x0⟩, ⟨0, 3, .ro, 0x0⟩]⟩,
  ⟨0x03001808, [(0x10, 16)], [⟨0, 32, .ro, 0x0⟩]⟩,
  ⟨0x0300180C, [(0x10, 16)], [⟨0, 32, .ro, 0x0⟩]⟩]

/-- Registers of the architecture (R21). -/
def regTable01a : List RegRow := [
  ⟨0x05000000, [], [⟨31, 1, .ro, 0x0⟩, ⟨8, 8, .ro, 0x0⟩, ⟨0, 8, .ro, 0x0⟩]⟩,
  ⟨0x05000004, [], [⟨16, 16, .rc, 0x0⟩, ⟨0, 16, .rc, 0x0⟩]⟩,
  ⟨0x05000008, [], [⟨16, 16, .rc, 0x0⟩, ⟨0, 16, .rc, 0x0⟩]⟩,
  ⟨0x0500000C, [], [⟨16, 16, .rc, 0x0⟩, ⟨0, 16, .rc, 0x0⟩]⟩,
  ⟨0x05000010, [], [⟨16, 16, .rc, 0x0⟩]⟩]

/-- Registers of the fronthaul (R60 to R103), part 1. -/
def regTable03a : List RegRow := [
  ⟨0x04000000, [], [⟨16, 16, .rw, 0xFFFF⟩, ⟨3, 1, .rw, 0x0⟩, ⟨2, 1, .rw, 0x0⟩, ⟨1, 1, .rw, 0x0⟩]⟩,
  ⟨0x04000004, [], [⟨0, 8, .ro, 0x0⟩]⟩,
  ⟨0x04000008, [], [⟨16, 16, .rc, 0x0⟩, ⟨0, 16, .rc, 0x0⟩]⟩,
  ⟨0x0400000C, [], [⟨16, 16, .rc, 0x0⟩, ⟨0, 16, .rc, 0x0⟩]⟩,
  ⟨0x04000010, [], [⟨16, 16, .rc, 0x0⟩, ⟨0, 16, .rc, 0x0⟩]⟩,
  ⟨0x04000014, [], [⟨16, 16, .rc, 0x0⟩, ⟨0, 16, .ro, 0x0⟩]⟩,
  ⟨0x04000018, [], [⟨16, 16, .rc, 0x0⟩, ⟨0, 16, .ro, 0x0⟩]⟩,
  ⟨0x04000020, [], [⟨16, 16, .rw, 0x1388⟩, ⟨0, 14, .rw, 0x2328⟩]⟩,
  ⟨0x04000024, [], [⟨0, 32, .rw, 0x0⟩]⟩,
  ⟨0x04000040, [], [⟨31, 1, .rw, 0x1⟩, ⟨30, 1, .rw, 0x1⟩, ⟨0, 16, .rw, 0x0⟩]⟩,
  ⟨0x04000044, [], [⟨16, 16, .rc, 0x0⟩, ⟨0, 5, .ro, 0x0⟩]⟩,
  ⟨0x04000050, [], [⟨31, 1, .rw, 0x1⟩, ⟨16, 2, .rw, 0x3⟩, ⟨0, 16, .rw, 0xA⟩]⟩,
  ⟨0x04000060, [], [⟨16, 16, .rw, 0x3E8⟩]⟩,
  ⟨0x04000028, [(0x4, 4)], [⟨0, 32, .rw, 0x0⟩]⟩,
  ⟨0x04000100, [(0x40, 8)], [⟨31, 1, .rw, 0x0⟩, ⟨24, 4, .rw, 0x0⟩, ⟨22, 2, .rw, 0x1⟩, ⟨20, 2, .rw, 0x2⟩, ⟨19, 1, .rw, 0x0⟩]⟩,
  ⟨0x04000104, [(0x40, 8)], [⟨31, 1, .ro, 0x0⟩, ⟨30, 1, .ro, 0x0⟩, ⟨29, 1, .w1c, 0x0⟩]⟩,
  ⟨0x04000108, [(0x40, 8)], [⟨0, 32, .rw, 0x0⟩]⟩,
  ⟨0x0400010C, [(0x40, 8)], [⟨0, 16, .rw, 0x0⟩]⟩,
  ⟨0x04000110, [(0x40, 8)], [⟨0, 32, .rc, 0x0⟩]⟩,
  ⟨0x04000114, [(0x40, 8)], [⟨0, 32, .rc, 0x0⟩]⟩,
  ⟨0x04000118, [(0x40, 8)], [⟨16, 16, .rc, 0x0⟩, ⟨0, 16, .rc, 0x0⟩]⟩,
  ⟨0x04000400, [(0x10, 4)], [⟨16, 1, .ro, 0x0⟩, ⟨0, 8, .rw, 0x0⟩]⟩,
  ⟨0x04000800, [(0x200, 8)], [⟨31, 1, .rw, 0x0⟩, ⟨30, 1, .rw, 0x1⟩, ⟨29, 1, .rw, 0x0⟩, ⟨0, 16, .rw, 0x40⟩]⟩,
  ⟨0x04000804, [(0x200, 8)], [⟨16, 16, .rc, 0x0⟩, ⟨0, 16, .rc, 0x0⟩]⟩,
  ⟨0x04000808, [(0x200, 8)], [⟨0, 32, .rw, 0x0⟩]⟩,
  ⟨0x0400080C, [(0x200, 8)], [⟨0, 32, .rw, 0x0⟩]⟩,
  ⟨0x04000810, [(0x200, 8)], [⟨0, 32, .rw, 0x0⟩]⟩,
  ⟨0x04000814, [(0x200, 8)], [⟨0, 32, .rw, 0x0⟩]⟩,
  ⟨0x04000840, [(0x200, 8), (0x40, 2), (0x4, 8)], [⟨0, 32, .wo, 0x0⟩]⟩,
  ⟨0x04000860, [(0x200, 8), (0x40, 2), (0x4, 3)], [⟨0, 32, .wo, 0x0⟩]⟩]

/-- Registers of the fronthaul (R60 to R103), part 2. -/
def regTable03b : List RegRow := [
  ⟨0x0400086C, [(0x200, 8), (0x40, 2)], [⟨0, 32, .rw, 0x0⟩]⟩,
  ⟨0x04000870, [(0x200, 8), (0x40, 2)], [⟨0, 2, .rw, 0x0⟩]⟩,
  ⟨0x04000874, [(0x200, 8), (0x40, 2)], [⟨0, 32, .rw, 0x0⟩]⟩,
  ⟨0x04000878, [(0x200, 8), (0x40, 2)], [⟨0, 32, .rw, 0x0⟩]⟩,
  ⟨0x040008C0, [(0x200, 8), (0x40, 2), (0x4, 8)], [⟨0, 32, .wo, 0x0⟩]⟩,
  ⟨0x040008E0, [(0x200, 8), (0x40, 2), (0x4, 3)], [⟨0, 32, .wo, 0x0⟩]⟩,
  ⟨0x040008EC, [(0x200, 8), (0x40, 2)], [⟨0, 32, .rw, 0x0⟩]⟩,
  ⟨0x040008F0, [(0x200, 8), (0x40, 2)], [⟨0, 2, .rw, 0x0⟩]⟩,
  ⟨0x040008F4, [(0x200, 8), (0x40, 2)], [⟨0, 32, .ro, 0x0⟩]⟩,
  ⟨0x040008F8, [(0x200, 8), (0x40, 2)], [⟨0, 32, .ro, 0x0⟩]⟩,
  ⟨0x04010000, [(0x100, 256)], [⟨31, 1, .rw, 0x0⟩, ⟨30, 1, .rw, 0x0⟩, ⟨25, 5, .rw, 0x0⟩, ⟨23, 2, .rw, 0x0⟩, ⟨20, 3, .rw, 0x0⟩, ⟨0, 16, .rw, 0x0⟩]⟩,
  ⟨0x04010004, [(0x100, 256)], [⟨31, 1, .rw, 0x1⟩, ⟨28, 3, .rw, 0x1⟩, ⟨24, 4, .rw, 0x9⟩, ⟨22, 2, .rw, 0x0⟩, ⟨19, 3, .rw, 0x7⟩, ⟨0, 12, .rw, 0x0⟩]⟩,
  ⟨0x04010008, [(0x100, 256)], [⟨0, 16, .rw, 0x0⟩]⟩,
  ⟨0x0401000C, [(0x100, 256)], [⟨16, 16, .rw, 0xBB8⟩, ⟨0, 16, .rw, 0x1F4⟩]⟩,
  ⟨0x04010010, [(0x100, 256)], [⟨0, 16, .rw, 0x4E2⟩]⟩,
  ⟨0x04010014, [(0x100, 256)], [⟨16, 16, .rw, 0xFA0⟩, ⟨0, 16, .rw, 0x3E8⟩]⟩,
  ⟨0x04010018, [(0x100, 256)], [⟨31, 1, .w1c, 0x0⟩, ⟨28, 3, .ro, 0x0⟩, ⟨27, 1, .ro, 0x0⟩, ⟨24, 3, .ro, 0x0⟩, ⟨16, 8, .ro, 0x0⟩, ⟨8, 8, .ro, 0x0⟩]⟩,
  ⟨0x04010020, [(0x100, 256)], [⟨16, 16, .rc, 0x0⟩, ⟨0, 16, .rc, 0x0⟩]⟩,
  ⟨0x04010024, [(0x100, 256)], [⟨16, 16, .rc, 0x0⟩, ⟨0, 16, .rc, 0x0⟩]⟩,
  ⟨0x04010028, [(0x100, 256)], [⟨16, 16, .rc, 0x0⟩, ⟨0, 16, .rc, 0x0⟩]⟩,
  ⟨0x0401002C, [(0x100, 256)], [⟨16, 16, .rc, 0x0⟩, ⟨0, 16, .rc, 0x0⟩]⟩,
  ⟨0x04010030, [(0x100, 256)], [⟨16, 16, .rc, 0x0⟩, ⟨0, 16, .rc, 0x0⟩]⟩,
  ⟨0x04010034, [(0x100, 256)], [⟨16, 16, .rc, 0x0⟩, ⟨0, 16, .rc, 0x0⟩]⟩,
  ⟨0x04010038, [(0x100, 256)], [⟨16, 16, .rc, 0x0⟩, ⟨0, 16, .rc, 0x0⟩]⟩,
  ⟨0x0401003C, [(0x100, 256)], [⟨16, 16, .rc, 0x0⟩, ⟨0, 16, .rc, 0x0⟩]⟩]

/-- Registers of the beamforming engine (R138). -/
def regTable04a : List RegRow := [
  ⟨0x06000000, [], [⟨0, 2, .rw, 0x0⟩]⟩,
  ⟨0x06000004, [], [⟨31, 1, .ro, 0x0⟩, ⟨30, 1, .w1c, 0x0⟩, ⟨16, 8, .ro, 0x0⟩, ⟨8, 8, .ro, 0x0⟩]⟩,
  ⟨0x06000008, [], [⟨16, 16, .rc, 0x0⟩, ⟨0, 16, .rc, 0x0⟩]⟩,
  ⟨0x0600000C, [], [⟨16, 16, .rc, 0x0⟩, ⟨0, 16, .rc, 0x0⟩]⟩,
  ⟨0x06000010, [], [⟨16, 16, .rc, 0x0⟩]⟩,
  ⟨0x06000020, [], [⟨0, 32, .ro, 0x0⟩]⟩,
  ⟨0x06000024, [], [⟨0, 32, .ro, 0x0⟩]⟩,
  ⟨0x06000028, [], [⟨0, 32, .ro, 0x0⟩]⟩,
  ⟨0x0600002C, [], [⟨0, 32, .ro, 0x0⟩]⟩,
  ⟨0x06000030, [], [⟨0, 32, .rw, 0x0⟩]⟩,
  ⟨0x06000034, [], [⟨0, 32, .rw, 0x0⟩]⟩,
  ⟨0x06000038, [], [⟨0, 32, .rw, 0x0⟩]⟩,
  ⟨0x0600003C, [], [⟨0, 32, .rw, 0x0⟩]⟩,
  ⟨0x06000060, [], [⟨31, 1, .rw, 0x0⟩, ⟨30, 1, .rw, 0x0⟩, ⟨28, 2, .rw, 0x0⟩, ⟨26, 2, .rw, 0x0⟩, ⟨24, 2, .rw, 0x0⟩, ⟨22, 2, .rw, 0x1⟩]⟩,
  ⟨0x06000064, [], [⟨31, 1, .w1c, 0x0⟩, ⟨30, 1, .ro, 0x0⟩, ⟨27, 3, .ro, 0x0⟩, ⟨24, 3, .ro, 0x0⟩]⟩,
  ⟨0x06000068, [], [⟨16, 16, .ro, 0x0⟩, ⟨0, 16, .ro, 0x0⟩]⟩,
  ⟨0x06000040, [(0x4, 4)], [⟨16, 16, .ro, 0x0⟩, ⟨0, 16, .ro, 0x0⟩]⟩,
  ⟨0x06000100, [(0x10, 8)], [⟨31, 1, .rw, 0x0⟩, ⟨30, 1, .rw, 0x0⟩, ⟨29, 1, .rw, 0x0⟩, ⟨28, 1, .rw, 0x0⟩, ⟨24, 4, .rw, 0xF⟩, ⟨16, 6, .rw, 0x10⟩, ⟨8, 6, .rw, 0x10⟩]⟩,
  ⟨0x06000104, [(0x10, 8)], [⟨28, 4, .rw, 0x0⟩, ⟨24, 4, .rw, 0x0⟩]⟩,
  ⟨0x06000108, [(0x10, 8)], [⟨31, 1, .w1c, 0x0⟩, ⟨30, 1, .ro, 0x0⟩]⟩,
  ⟨0x06010000, [(0x100, 256)], [⟨31, 1, .rw, 0x0⟩, ⟨30, 1, .rw, 0x0⟩, ⟨24, 6, .rw, 0x0⟩, ⟨16, 6, .rw, 0x0⟩]⟩,
  ⟨0x06010004, [(0x100, 256)], [⟨31, 1, .w1c, 0x0⟩, ⟨30, 1, .ro, 0x0⟩, ⟨0, 16, .rc, 0x0⟩]⟩,
  ⟨0x06040000, [(0x1000, 64)], [⟨16, 16, .rw, 0x4000⟩, ⟨0, 16, .rw, 0x0⟩]⟩,
  ⟨0x06040004, [(0x1000, 64)], [⟨16, 16, .rw, 0x4000⟩, ⟨0, 16, .rw, 0x0⟩]⟩,
  ⟨0x06040008, [(0x1000, 64)], [⟨16, 16, .rc, 0x0⟩]⟩]

/-- Registers of the weight store and solver (R168). -/
def regTable05a : List RegRow := [
  ⟨0x06100000, [], [⟨31, 1, .rw, 0x0⟩, ⟨30, 1, .rw, 0x1⟩, ⟨28, 2, .rw, 0x0⟩, ⟨26, 2, .rw, 0x0⟩]⟩,
  ⟨0x06100004, [], [⟨16, 16, .ro, 0x0⟩, ⟨0, 16, .ro, 0x0⟩]⟩,
  ⟨0x06100008, [], [⟨16, 16, .ro, 0x1000⟩, ⟨0, 16, .ro, 0x0⟩]⟩,
  ⟨0x0610000C, [], [⟨28, 4, .wo, 0x0⟩, ⟨24, 2, .wo, 0x0⟩, ⟨0, 15, .wo, 0x0⟩]⟩,
  ⟨0x06100010, [], [⟨31, 1, .ro, 0x0⟩, ⟨30, 1, .w1c, 0x0⟩]⟩,
  ⟨0x06100014, [], [⟨0, 32, .rc, 0x0⟩]⟩,
  ⟨0x06100018, [], [⟨16, 16, .rc, 0x0⟩, ⟨0, 16, .rc, 0x0⟩]⟩,
  ⟨0x0610001C, [], [⟨0, 32, .rc, 0x0⟩]⟩,
  ⟨0x06100020, [], [⟨16, 16, .rc, 0x0⟩, ⟨0, 16, .rc, 0x0⟩]⟩,
  ⟨0x06100024, [], [⟨16, 16, .rc, 0x0⟩, ⟨0, 16, .rc, 0x0⟩]⟩,
  ⟨0x06100028, [], [⟨16, 16, .rc, 0x0⟩, ⟨0, 16, .rc, 0x0⟩]⟩,
  ⟨0x0610002C, [], [⟨16, 16, .rc, 0x0⟩]⟩,
  ⟨0x06100030, [], [⟨24, 8, .rw, 0xA⟩, ⟨0, 16, .rw, 0x14⟩]⟩,
  ⟨0x06100040, [(0x8, 4)], [⟨23, 9, .rw, 0x0⟩, ⟨0, 1, .rw, 0x0⟩]⟩,
  ⟨0x06100044, [(0x8, 4)], [⟨15, 17, .rw, 0x0⟩]⟩,
  ⟨0x06100100, [(0x10, 8)], [⟨31, 1, .rw, 0x0⟩, ⟨28, 3, .rw, 0x4⟩, ⟨24, 3, .rw, 0x0⟩, ⟨20, 3, .rw, 0x0⟩]⟩,
  ⟨0x06100104, [(0x10, 8)], [⟨16, 16, .ro, 0x0⟩]⟩,
  ⟨0x06110000, [(0x100, 256)], [⟨30, 2, .rw, 0x0⟩, ⟨0, 15, .rw, 0x0⟩]⟩,
  ⟨0x06200000, [(0x8, 4096)], [⟨31, 1, .ro, 0x0⟩, ⟨30, 1, .ro, 0x0⟩, ⟨28, 2, .ro, 0x0⟩, ⟨25, 3, .ro, 0x0⟩, ⟨0, 15, .ro, 0x0⟩]⟩,
  ⟨0x06200004, [(0x8, 4096)], [⟨29, 3, .ro, 0x0⟩, ⟨27, 2, .ro, 0x0⟩, ⟨26, 1, .ro, 0x0⟩, ⟨25, 1, .ro, 0x0⟩, ⟨16, 9, .ro, 0x0⟩, ⟨0, 12, .ro, 0x0⟩]⟩,
  ⟨0x06400000, [(0x100, 4096), (0x4, 64)], [⟨16, 16, .ro, 0x0⟩, ⟨0, 16, .ro, 0x0⟩]⟩]

/-- Registers of the spectral processing (R196). -/
def regTable06a : List RegRow := [
  ⟨0x07000000, [], [⟨31, 1, .ro, 0x0⟩]⟩,
  ⟨0x07000100, [(0x40, 4)], [⟨0, 32, .sh, 0x0⟩]⟩,
  ⟨0x07000104, [(0x40, 4)], [⟨0, 16, .sh, 0x0⟩]⟩,
  ⟨0x07000108, [(0x40, 4)], [⟨0, 32, .sh, 0x0⟩]⟩,
  ⟨0x0700010C, [(0x40, 4)], [⟨0, 16, .sh, 0x0⟩]⟩,
  ⟨0x07000110, [(0x40, 4)], [⟨24, 8, .sh, 0x0⟩, ⟨16, 8, .sh, 0x0⟩, ⟨0, 3, .sh, 0x0⟩]⟩,
  ⟨0x07000114, [(0x40, 4)], [⟨31, 1, .rw, 0x0⟩, ⟨30, 1, .w1c, 0x0⟩, ⟨27, 3, .ro, 0x0⟩, ⟨0, 16, .ro, 0x0⟩]⟩,
  ⟨0x07000118, [(0x40, 4)], [⟨16, 16, .ro, 0x0⟩, ⟨0, 16, .ro, 0x0⟩]⟩,
  ⟨0x07001000, [(0x100, 32)], [⟨31, 1, .rw, 0x0⟩, ⟨24, 7, .rw, 0x64⟩, ⟨20, 4, .rw, 0x0⟩, ⟨19, 1, .rw, 0x0⟩, ⟨18, 1, .rw, 0x1⟩, ⟨8, 9, .rw, 0x0⟩]⟩,
  ⟨0x07001004, [(0x100, 32)], [⟨0, 32, .sh, 0x0⟩]⟩,
  ⟨0x07001008, [(0x100, 32)], [⟨0, 16, .sh, 0x0⟩]⟩,
  ⟨0x0700100C, [(0x100, 32)], [⟨0, 32, .sh, 0x0⟩]⟩,
  ⟨0x07001010, [(0x100, 32)], [⟨0, 16, .sh, 0x0⟩]⟩,
  ⟨0x07001014, [(0x100, 32)], [⟨16, 16, .sh, 0x4000⟩, ⟨0, 16, .sh, 0x4000⟩]⟩,
  ⟨0x07001018, [(0x100, 32)], [⟨4, 4, .sh, 0x6⟩, ⟨0, 4, .sh, 0x6⟩]⟩,
  ⟨0x0700101C, [(0x100, 32)], [⟨31, 1, .rw, 0x0⟩, ⟨0, 16, .ro, 0x0⟩]⟩,
  ⟨0x07001020, [(0x100, 32)], [⟨31, 1, .rw, 0x1⟩, ⟨4, 4, .rw, 0x5⟩, ⟨0, 4, .rw, 0x4⟩]⟩,
  ⟨0x07001024, [(0x100, 32)], [⟨16, 16, .rc, 0x0⟩, ⟨0, 16, .rc, 0x0⟩]⟩,
  ⟨0x07001028, [(0x100, 32)], [⟨16, 16, .rc, 0x0⟩, ⟨0, 16, .rc, 0x0⟩]⟩,
  ⟨0x07100000, [(0x1000, 64)], [⟨16, 16, .rc, 0x0⟩, ⟨0, 16, .rc, 0x0⟩]⟩]

/-- Registers of the linearisation (R232), part 1. -/
def regTable07a : List RegRow := [
  ⟨0x08000000, [], [⟨31, 1, .rw, 0x0⟩, ⟨30, 1, .rw, 0x0⟩]⟩,
  ⟨0x08000004, [], [⟨31, 1, .ro, 0x0⟩, ⟨0, 16, .ro, 0x0⟩]⟩,
  ⟨0x08000008, [], [⟨30, 2, .rw, 0x1⟩, ⟨16, 8, .rw, 0x80⟩, ⟨8, 8, .rw, 0x14⟩, ⟨0, 8, .rw, 0x14⟩]⟩,
  ⟨0x0800000C, [], [⟨24, 8, .rw, 0xD0⟩, ⟨16, 8, .rw, 0x32⟩, ⟨0, 16, .rw, 0xBB8⟩]⟩,
  ⟨0x08000010, [], [⟨16, 16, .rc, 0x0⟩, ⟨0, 16, .rc, 0x0⟩]⟩,
  ⟨0x08000014, [], [⟨16, 16, .rc, 0x0⟩, ⟨0, 16, .rc, 0x0⟩]⟩,
  ⟨0x08000018, [], [⟨16, 16, .rc, 0x0⟩, ⟨0, 16, .rc, 0x0⟩]⟩,
  ⟨0x08000100, [(0x40, 4)], [⟨31, 1, .w1c, 0x0⟩, ⟨0, 7, .rw, 0x1⟩]⟩,
  ⟨0x08000104, [(0x40, 4)], [⟨0, 32, .rw, 0x14141414⟩]⟩,
  ⟨0x08000108, [(0x40, 4)], [⟨0, 32, .rw, 0x14141414⟩]⟩,
  ⟨0x08000200, [(0x10, 8)], [⟨31, 1, .rw, 0x1⟩, ⟨0, 8, .rw, 0xFF⟩]⟩,
  ⟨0x08000204, [(0x10, 8)], [⟨31, 1, .ro, 0x0⟩, ⟨0, 3, .ro, 0x0⟩]⟩,
  ⟨0x08000208, [(0x10, 8)], [⟨31, 1, .w1c, 0x0⟩, ⟨24, 6, .ro, 0x0⟩, ⟨16, 7, .ro, 0x0⟩, ⟨8, 7, .ro, 0x0⟩, ⟨0, 8, .rc, 0x0⟩]⟩,
  ⟨0x08001000, [(0x200, 4)], [⟨30, 1, .rw, 0x0⟩, ⟨28, 2, .rw, 0x0⟩, ⟨24, 4, .rw, 0x1⟩, ⟨20, 4, .rw, 0x0⟩, ⟨16, 4, .rw, 0x0⟩, ⟨12, 4, .rw, 0x0⟩]⟩,
  ⟨0x08001000, [(0x200, 4), (0x4, 80)], [⟨30, 1, .rw, 0x0⟩, ⟨28, 2, .rw, 0x0⟩, ⟨24, 4, .rw, 0x0⟩, ⟨20, 4, .rw, 0x0⟩, ⟨16, 4, .rw, 0x0⟩, ⟨12, 4, .rw, 0x0⟩]⟩,
  ⟨0x08100000, [(0x1000, 64)], [⟨31, 1, .rw, 0x0⟩, ⟨30, 1, .rw, 0x0⟩, ⟨28, 2, .rw, 0x0⟩, ⟨16, 8, .rw, 0x1⟩]⟩,
  ⟨0x08100004, [(0x1000, 64)], [⟨31, 1, .rw, 0x1⟩, ⟨16, 10, .rw, 0x50⟩, ⟨0, 16, .rw, 0xFF60⟩]⟩,
  ⟨0x08100008, [(0x1000, 64)], [⟨0, 20, .rw, 0x0⟩]⟩,
  ⟨0x0810000C, [(0x1000, 64)], [⟨31, 1, .sh, 0x0⟩, ⟨30, 1, .sh, 0x0⟩, ⟨28, 2, .sh, 0x0⟩, ⟨24, 3, .sh, 0x0⟩, ⟨23, 1, .sh, 0x0⟩, ⟨20, 3, .sh, 0x0⟩]⟩,
  ⟨0x08100010, [(0x1000, 64)], [⟨0, 16, .sh, 0x4000⟩]⟩,
  ⟨0x08100014, [(0x1000, 64)], [⟨31, 1, .rw, 0x0⟩, ⟨30, 1, .ro, 0x0⟩, ⟨29, 1, .w1c, 0x0⟩, ⟨0, 16, .ro, 0x0⟩]⟩,
  ⟨0x08100018, [(0x1000, 64)], [⟨29, 3, .ro, 0x0⟩, ⟨16, 10, .ro, 0x50⟩, ⟨8, 8, .ro, 0x0⟩, ⟨0, 8, .w1c, 0x0⟩]⟩,
  ⟨0x0810001C, [(0x1000, 64)], [⟨16, 16, .ro, 0x0⟩, ⟨0, 16, .ro, 0x0⟩]⟩,
  ⟨0x08100020, [(0x1000, 64)], [⟨16, 16, .rw, 0x0⟩, ⟨12, 4, .rw, 0x4⟩, ⟨0, 8, .rw, 0xA⟩]⟩,
  ⟨0x08100024, [(0x1000, 64)], [⟨16, 16, .ro, 0x0⟩, ⟨0, 16, .ro, 0x0⟩]⟩,
  ⟨0x08100028, [(0x1000, 64)], [⟨16, 8, .rw, 0x0⟩, ⟨0, 6, .rw, 0x3F⟩]⟩,
  ⟨0x08100030, [(0x1000, 64)], [⟨16, 16, .rc, 0x0⟩, ⟨0, 16, .rc, 0x0⟩]⟩,
  ⟨0x08100034, [(0x1000, 64)], [⟨16, 16, .rc, 0x0⟩, ⟨0, 16, .rc, 0x0⟩]⟩,
  ⟨0x08100038, [(0x1000, 64)], [⟨16, 16, .rc, 0x0⟩, ⟨0, 16, .rc, 0x0⟩]⟩,
  ⟨0x0810003C, [(0x1000, 64)], [⟨16, 16, .rc, 0x0⟩, ⟨0, 16, .rc, 0x0⟩]⟩]

/-- Registers of the linearisation (R232), part 2. -/
def regTable07b : List RegRow := [
  ⟨0x08100100, [(0x1000, 64), (0x4, 80)], [⟨16, 16, .rw, 0x0⟩, ⟨0, 16, .rw, 0x0⟩]⟩,
  ⟨0x08200000, [(0x4000, 64), (0x400, 8), (0x4, 80)], [⟨16, 16, .ro, 0x0⟩, ⟨0, 16, .ro, 0x0⟩]⟩,
  ⟨0x08200200, [(0x4000, 64), (0x400, 8), (0x4, 80)], [⟨16, 16, .ro, 0x0⟩, ⟨0, 16, .ro, 0x0⟩]⟩]

/-- Registers of the converters (R273). -/
def regTable08a : List RegRow := [
  ⟨0x09000000, [], [⟨31, 1, .rw, 0x1⟩, ⟨0, 16, .rw, 0x3E8⟩]⟩,
  ⟨0x09000004, [], [⟨31, 1, .ro, 0x0⟩, ⟨30, 1, .w1c, 0x0⟩]⟩,
  ⟨0x09000008, [], [⟨24, 8, .rw, 0x1E⟩, ⟨16, 8, .rw, 0x23⟩, ⟨8, 8, .rw, 0xD8⟩]⟩,
  ⟨0x09000010, [], [⟨31, 1, .rw, 0x0⟩, ⟨29, 2, .rw, 0x2⟩, ⟨24, 5, .rw, 0x0⟩, ⟨20, 4, .rw, 0x0⟩, ⟨16, 4, .rw, 0xB⟩, ⟨10, 6, .rw, 0x0⟩, ⟨4, 6, .rw, 0x0⟩, ⟨0, 4, .rw, 0x6⟩]⟩,
  ⟨0x09000014, [], [⟨30, 2, .wo, 0x0⟩, ⟨0, 6, .wo, 0x0⟩]⟩,
  ⟨0x09000018, [], [⟨31, 1, .ro, 0x0⟩, ⟨30, 1, .w1c, 0x0⟩, ⟨29, 1, .w1c, 0x0⟩, ⟨0, 16, .rc, 0x0⟩]⟩,
  ⟨0x0900001C, [], [⟨16, 16, .rc, 0x0⟩, ⟨8, 8, .rc, 0x0⟩, ⟨0, 8, .rc, 0x0⟩]⟩,
  ⟨0x09000100, [(0x40, 4)], [⟨31, 1, .rw, 0x0⟩, ⟨30, 1, .rw, 0x0⟩, ⟨29, 1, .rw, 0x1⟩]⟩,
  ⟨0x09000104, [(0x40, 4)], [⟨31, 1, .rw, 0x0⟩, ⟨24, 4, .rw, 0x0⟩, ⟨16, 2, .rw, 0x0⟩, ⟨0, 16, .rw, 0x0⟩]⟩,
  ⟨0x09000108, [(0x40, 4)], [⟨31, 1, .ro, 0x0⟩, ⟨30, 1, .ro, 0x0⟩, ⟨29, 1, .w1c, 0x0⟩]⟩,
  ⟨0x09000200, [(0x10, 8)], [⟨31, 1, .rw, 0x0⟩, ⟨30, 1, .rw, 0x0⟩, ⟨0, 12, .rw, 0x7FF⟩]⟩,
  ⟨0x09000204, [(0x10, 8)], [⟨31, 1, .ro, 0x0⟩, ⟨30, 1, .ro, 0x0⟩, ⟨0, 16, .rc, 0x0⟩]⟩,
  ⟨0x09000400, [(0x40, 4)], [⟨31, 1, .wo, 0x0⟩, ⟨30, 1, .wo, 0x0⟩, ⟨28, 2, .rw, 0x0⟩, ⟨27, 1, .rw, 0x0⟩, ⟨26, 1, .rw, 0x0⟩, ⟨25, 1, .rw, 0x0⟩, ⟨24, 1, .rw, 0x1⟩, ⟨20, 4, .rw, 0x0⟩, ⟨0, 16, .rw, 0x0⟩]⟩,
  ⟨0x09000404, [(0x40, 4)], [⟨16, 16, .rw, 0x0⟩, ⟨0, 16, .rw, 0x0⟩]⟩,
  ⟨0x09000408, [(0x40, 4)], [⟨0, 16, .rw, 0x0⟩]⟩,
  ⟨0x0900040C, [(0x40, 4)], [⟨0, 16, .rw, 0x4000⟩]⟩,
  ⟨0x09000410, [(0x40, 4)], [⟨31, 1, .ro, 0x0⟩, ⟨30, 1, .w1c, 0x0⟩, ⟨29, 1, .w1c, 0x0⟩, ⟨0, 16, .rc, 0x0⟩]⟩,
  ⟨0x09100000, [(0x1000, 64)], [⟨31, 1, .rw, 0x0⟩, ⟨30, 1, .rw, 0x1⟩]⟩,
  ⟨0x09100004, [(0x1000, 64)], [⟨0, 7, .sh, 0x18⟩]⟩,
  ⟨0x09100008, [(0x1000, 64)], [⟨8, 6, .sh, 0x0⟩, ⟨0, 8, .sh, 0x0⟩]⟩,
  ⟨0x0910000C, [(0x1000, 64)], [⟨31, 1, .rw, 0x0⟩, ⟨30, 1, .ro, 0x0⟩, ⟨0, 16, .ro, 0x0⟩]⟩,
  ⟨0x09100010, [(0x1000, 64)], [⟨0, 14, .rw, 0x0⟩]⟩,
  ⟨0x09100014, [(0x1000, 64)], [⟨29, 3, .ro, 0x0⟩, ⟨0, 16, .rc, 0x0⟩]⟩,
  ⟨0x09100018, [(0x1000, 64)], [⟨16, 16, .rc, 0x0⟩, ⟨0, 16, .rc, 0x0⟩]⟩,
  ⟨0x0910001C, [(0x1000, 64)], [⟨0, 32, .rc, 0x0⟩]⟩,
  ⟨0x09100100, [(0x1000, 64)], [⟨31, 1, .rw, 0x0⟩, ⟨0, 12, .rw, 0x7FF⟩]⟩,
  ⟨0x09100104, [(0x1000, 64)], [⟨8, 6, .rw, 0x0⟩, ⟨0, 8, .rw, 0x0⟩]⟩,
  ⟨0x09100108, [(0x1000, 64)], [⟨31, 1, .ro, 0x0⟩, ⟨30, 1, .ro, 0x0⟩]⟩,
  ⟨0x0910010C, [(0x1000, 64)], [⟨16, 16, .rc, 0x0⟩, ⟨0, 16, .rc, 0x0⟩]⟩,
  ⟨0x09800000, [(0x40000, 4), (0x4, 65536)], [⟨16, 16, .rw, 0x0⟩, ⟨0, 16, .rw, 0x0⟩]⟩]

/-- Registers of the sample-clock synthesis (R298). -/
def regTable09a : List RegRow := [
  ⟨0x0A000000, [], [⟨31, 1, .rw, 0x1⟩, ⟨30, 1, .rw, 0x1⟩, ⟨29, 1, .rw, 0x1⟩, ⟨16, 5, .rw, 0x0⟩, ⟨4, 1, .rw, 0x0⟩, ⟨0, 2, .rw, 0x0⟩]⟩,
  ⟨0x0A000004, [], [⟨31, 1, .w1c, 0x0⟩, ⟨30, 1, .w1c, 0x0⟩, ⟨29, 1, .w1c, 0x0⟩, ⟨28, 1, .w1c, 0x0⟩, ⟨25, 1, .ro, 0x0⟩, ⟨24, 1, .ro, 0x0⟩, ⟨16, 6, .ro, 0x0⟩, ⟨9, 1, .ro, 0x0⟩, ⟨8, 1, .ro, 0x0⟩, ⟨4, 1, .ro, 0x0⟩, ⟨0, 3, .ro, 0x0⟩]⟩,
  ⟨0x0A000008, [], [⟨28, 4, .wo, 0x0⟩, ⟨0, 6, .wo, 0x0⟩]⟩,
  ⟨0x0A00000C, [], [⟨31, 1, .ro, 0x0⟩, ⟨30, 1, .w1c, 0x0⟩, ⟨27, 3, .ro, 0x0⟩]⟩,
  ⟨0x0A000010, [], [⟨0, 16, .ro, 0x0⟩]⟩,
  ⟨0x0A000014, [], [⟨0, 24, .rw, 0xB40000⟩]⟩,
  ⟨0x0A000018, [], [⟨30, 2, .rw, 0x0⟩, ⟨24, 4, .rw, 0xF⟩]⟩,
  ⟨0x0A00001C, [], [⟨31, 1, .ro, 0x0⟩, ⟨30, 1, .ro, 0x0⟩, ⟨8, 8, .rc, 0x0⟩, ⟨0, 8, .rc, 0x0⟩]⟩,
  ⟨0x0A000020, [], [⟨16, 16, .rc, 0x0⟩, ⟨0, 16, .rc, 0x0⟩]⟩,
  ⟨0x0A000024, [], [⟨16, 16, .rc, 0x0⟩, ⟨0, 16, .rc, 0x0⟩]⟩,
  ⟨0x0A000100, [(0x20, 64)], [⟨0, 32, .rw, 0x0⟩]⟩,
  ⟨0x0A000104, [(0x20, 64)], [⟨31, 1, .rw, 0x0⟩, ⟨30, 1, .rw, 0x0⟩, ⟨16, 2, .rw, 0x0⟩, ⟨0, 8, .rw, 0x0⟩]⟩,
  ⟨0x0A000108, [(0x20, 64), (0x4, 3)], [⟨0, 32, .rw, 0x0⟩]⟩,
  ⟨0x0A000114, [(0x20, 64), (0x4, 3)], [⟨0, 32, .rw, 0x0⟩]⟩]

/-- Registers of the serial lanes and Strand links (R324). -/
def regTable10a : List RegRow := [
  ⟨0x0B000000, [], [⟨24, 8, .rw, 0x40⟩, ⟨16, 8, .rw, 0x20⟩, ⟨2, 2, .rw, 0x0⟩, ⟨0, 2, .rw, 0x0⟩]⟩,
  ⟨0x0B000004, [], [⟨16, 16, .ro, 0x0⟩, ⟨0, 16, .ro, 0x0⟩]⟩,
  ⟨0x0B000008, [], [⟨16, 16, .ro, 0x0⟩, ⟨0, 16, .ro, 0x0⟩]⟩,
  ⟨0x0B00000C, [], [⟨16, 16, .w1c, 0x0⟩, ⟨0, 16, .w1c, 0x0⟩]⟩,
  ⟨0x0B000100, [(0x20, 2)], [⟨30, 2, .rw, 0x0⟩]⟩,
  ⟨0x0B000104, [(0x20, 2)], [⟨30, 2, .ro, 0x0⟩, ⟨29, 1, .w1c, 0x0⟩, ⟨16, 8, .ro, 0x0⟩, ⟨12, 4, .ro, 0x0⟩, ⟨8, 4, .ro, 0x0⟩, ⟨0, 8, .ro, 0x0⟩]⟩,
  ⟨0x0B000108, [(0x20, 2)], [⟨16, 16, .rc, 0x0⟩, ⟨0, 16, .rc, 0x0⟩]⟩,
  ⟨0x0B00010C, [(0x20, 2)], [⟨16, 16, .rc, 0x0⟩, ⟨0, 16, .rc, 0x0⟩]⟩,
  ⟨0x0B001000, [(0x100, 16)], [⟨30, 2, .rw, 0x0⟩, ⟨29, 1, .rw, 0x0⟩, ⟨28, 1, .rw, 0x0⟩, ⟨27, 1, .rw, 0x1⟩, ⟨26, 1, .rw, 0x0⟩]⟩,
  ⟨0x0B001004, [(0x100, 16)], [⟨0, 26, .rw, 0x1896402⟩]⟩,
  ⟨0x0B001008, [(0x100, 16)], [⟨29, 3, .ro, 0x0⟩, ⟨28, 1, .ro, 0x0⟩, ⟨27, 1, .w1c, 0x0⟩, ⟨26, 1, .ro, 0x1⟩, ⟨25, 1, .ro, 0x0⟩]⟩,
  ⟨0x0B00100C, [(0x100, 16)], [⟨24, 8, .rc, 0x0⟩, ⟨16, 8, .ro, 0x0⟩, ⟨8, 8, .ro, 0x0⟩, ⟨0, 8, .ro, 0x0⟩]⟩,
  ⟨0x0B001010, [(0x100, 16)], [⟨20, 4, .rw, 0x4⟩, ⟨14, 6, .rw, 0x34⟩, ⟨9, 5, .rw, 0x7⟩]⟩,
  ⟨0x0B001014, [(0x100, 16)], [⟨31, 1, .rw, 0x1⟩, ⟨16, 4, .rw, 0x8⟩, ⟨0, 8, .ro, 0x0⟩]⟩,
  ⟨0x0B001018, [(0x100, 16)], [⟨31, 1, .rw, 0x0⟩, ⟨30, 1, .rw, 0x0⟩, ⟨29, 1, .ro, 0x0⟩, ⟨26, 3, .rw, 0x0⟩, ⟨20, 4, .rw, 0x4⟩]⟩,
  ⟨0x0B00101C, [(0x100, 16)], [⟨0, 32, .rc, 0x0⟩]⟩,
  ⟨0x0B001020, [(0x100, 16)], [⟨0, 32, .ro, 0x0⟩]⟩,
  ⟨0x0B001024, [(0x100, 16)], [⟨0, 32, .ro, 0x0⟩]⟩,
  ⟨0x0B001028, [(0x100, 16)], [⟨16, 16, .rc, 0x0⟩, ⟨0, 16, .rc, 0x0⟩]⟩]

/-- Registers of the T1640 persona (R347 to R350). -/
def regTable11a : List RegRow := [
  ⟨0x10000400, [(0x400, 4)], [⟨15, 1, .rw, 0x0⟩, ⟨0, 7, .rw, 0x7F⟩]⟩,
  ⟨0x10000404, [(0x400, 4)], [⟨13, 3, .ro, 0x0⟩, ⟨10, 3, .ro, 0x0⟩, ⟨7, 3, .ro, 0x0⟩, ⟨6, 1, .ro, 0x0⟩]⟩,
  ⟨0x10000408, [(0x400, 4)], [⟨8, 8, .rw, 0x64⟩, ⟨0, 8, .rw, 0x64⟩]⟩,
  ⟨0x1000040C, [(0x400, 4)], [⟨8, 8, .rw, 0xC8⟩, ⟨0, 8, .rw, 0x64⟩]⟩,
  ⟨0x10000410, [(0x400, 4)], [⟨0, 16, .ro, 0x1458⟩]⟩,
  ⟨0x10000414, [(0x400, 4)], [⟨0, 16, .ro, 0x2328⟩]⟩,
  ⟨0x10000418, [(0x400, 4)], [⟨0, 16, .ro, 0x2AF8⟩]⟩,
  ⟨0x1000041C, [(0x400, 4)], [⟨8, 8, .rc, 0x0⟩, ⟨0, 8, .rc, 0x0⟩]⟩,
  ⟨0x1000FC00, [], [⟨0, 16, .ro, 0x6464⟩]⟩,
  ⟨0x1000FC04, [], [⟨0, 16, .ro, 0xB0⟩]⟩,
  ⟨0x1000FC08, [], [⟨1, 1, .rw, 0x0⟩, ⟨0, 1, .rw, 0x0⟩]⟩,
  ⟨0x1000FC0C, [], [⟨15, 1, .w1c, 0x0⟩, ⟨14, 1, .w1c, 0x0⟩, ⟨11, 3, .ro, 0x0⟩, ⟨0, 8, .rc, 0x0⟩]⟩,
  ⟨0x1000FC40, [], [⟨0, 16, .rw, 0x0⟩]⟩,
  ⟨0x1000FC44, [], [⟨0, 16, .rw, 0x0⟩]⟩,
  ⟨0x1000FC48, [], [⟨0, 16, .rw, 0x0⟩]⟩,
  ⟨0x1000FC4C, [], [⟨0, 16, .rw, 0x0⟩]⟩,
  ⟨0x1000FC80, [(0x4, 3)], [⟨0, 16, .rw, 0x0⟩]⟩,
  ⟨0x10010000, [(0x20, 16)], [⟨0, 24, .ro, 0x0⟩]⟩,
  ⟨0x10010004, [(0x20, 16), (0x4, 4)], [⟨16, 16, .ro, 0x0⟩, ⟨0, 16, .ro, 0x0⟩]⟩]

/-- Registers of the Yakea cluster (R387). -/
def regTable12a : List RegRow := [
  ⟨0x0C000000, [], [⟨8, 4, .wo, 0x0⟩, ⟨0, 4, .rw, 0x0⟩]⟩,
  ⟨0x0C000004, [], [⟨12, 1, .ro, 0x0⟩, ⟨8, 4, .ro, 0x0⟩, ⟨4, 4, .ro, 0x0⟩, ⟨0, 4, .ro, 0xF⟩]⟩,
  ⟨0x0C000100, [(0x40, 4)], [⟨0, 32, .ro, 0x0⟩]⟩,
  ⟨0x0C000104, [(0x40, 4)], [⟨28, 4, .ro, 0x0⟩, ⟨16, 8, .ro, 0x0⟩, ⟨0, 16, .rc, 0x0⟩]⟩,
  ⟨0x0C000108, [(0x40, 4)], [⟨0, 32, .ro, 0x0⟩]⟩,
  ⟨0x0C00010C, [(0x40, 4)], [⟨0, 32, .wo, 0x0⟩]⟩,
  ⟨0x0C000110, [(0x40, 4)], [⟨0, 32, .ro, 0x0⟩]⟩,
  ⟨0x0C000114, [(0x40, 4)], [⟨31, 1, .w1c, 0x0⟩, ⟨30, 1, .w1c, 0x0⟩, ⟨4, 4, .ro, 0x0⟩, ⟨0, 4, .ro, 0x0⟩]⟩,
  ⟨0x0C000118, [(0x40, 4)], [⟨0, 16, .rw, 0x64⟩]⟩,
  ⟨0x0C00011C, [(0x40, 4)], [⟨0, 16, .rw, 0xC8⟩]⟩,
  ⟨0x0C000120, [(0x40, 4)], [⟨16, 16, .rc, 0x0⟩, ⟨0, 16, .rc, 0x0⟩]⟩]

/-- Registers of the clause engines (R401). -/
def regTable13a : List RegRow := [
  ⟨0x0D000000, [], [⟨31, 1, .rw, 0x1⟩, ⟨30, 1, .wo, 0x0⟩, ⟨0, 16, .rw, 0xA⟩]⟩,
  ⟨0x0D000000, [(0x100, 4)], [⟨31, 1, .rw, 0x0⟩, ⟨30, 1, .wo, 0x0⟩, ⟨0, 16, .rw, 0xA⟩]⟩,
  ⟨0x0D000004, [(0x100, 4)], [⟨30, 2, .ro, 0x0⟩, ⟨24, 4, .ro, 0x0⟩, ⟨12, 12, .ro, 0x0⟩, ⟨0, 12, .ro, 0x0⟩]⟩,
  ⟨0x0D000008, [(0x100, 4)], [⟨0, 32, .w1c, 0x0⟩]⟩,
  ⟨0x0D00000C, [(0x100, 4)], [⟨0, 8, .wo, 0x0⟩]⟩,
  ⟨0x0D000010, [(0x100, 4)], [⟨28, 4, .ro, 0x0⟩, ⟨24, 4, .ro, 0x0⟩, ⟨0, 12, .ro, 0x0⟩]⟩,
  ⟨0x0D000014, [(0x100, 4)], [⟨16, 16, .rc, 0x0⟩, ⟨0, 16, .rc, 0x0⟩]⟩,
  ⟨0x0D000018, [(0x100, 4)], [⟨16, 16, .rc, 0x0⟩, ⟨0, 16, .rc, 0x0⟩]⟩,
  ⟨0x0D000040, [(0x100, 4), (0x4, 16)], [⟨31, 1, .rw, 0x0⟩, ⟨30, 1, .ro, 0x0⟩, ⟨24, 5, .ro, 0x0⟩, ⟨0, 12, .ro, 0x0⟩]⟩]

/-- Registers of the memory and Data Mover (R434). -/
def regTable14a : List RegRow := [
  ⟨0x0E000000, [], [⟨31, 1, .rw, 0x1⟩, ⟨0, 16, .rw, 0x6⟩]⟩,
  ⟨0x0E000004, [], [⟨31, 1, .ro, 0x0⟩, ⟨30, 1, .ro, 0x0⟩, ⟨8, 8, .ro, 0x0⟩, ⟨0, 8, .ro, 0x0⟩]⟩,
  ⟨0x0E000008, [], [⟨30, 2, .ro, 0x0⟩, ⟨28, 2, .ro, 0x0⟩]⟩,
  ⟨0x0E00000C, [], [⟨28, 4, .rw, 0x0⟩]⟩,
  ⟨0x0E000010, [], [⟨16, 16, .rc, 0x0⟩, ⟨0, 16, .rc, 0x0⟩]⟩,
  ⟨0x0E000014, [], [⟨16, 16, .rc, 0x0⟩, ⟨0, 16, .rc, 0x0⟩]⟩,
  ⟨0x0E000018, [], [⟨16, 16, .rc, 0x0⟩, ⟨8, 8, .rc, 0x0⟩, ⟨0, 8, .rc, 0x0⟩]⟩,
  ⟨0x0E00001C, [], [⟨16, 16, .rc, 0x0⟩]⟩,
  ⟨0x0E000020, [], [⟨31, 1, .ro, 0x0⟩, ⟨30, 1, .ro, 0x0⟩, ⟨24, 4, .ro, 0x0⟩]⟩,
  ⟨0x0E000024, [], [⟨0, 32, .ro, 0x0⟩]⟩,
  ⟨0x0E000400, [], [⟨24, 8, .ro, 0x80⟩, ⟨16, 8, .ro, 0x0⟩, ⟨15, 1, .ro, 0x0⟩]⟩,
  ⟨0x0E000404, [], [⟨24, 8, .rw, 0x10⟩, ⟨0, 16, .rw, 0x3E8⟩]⟩,
  ⟨0x0E000408, [], [⟨30, 2, .wo, 0x0⟩, ⟨0, 8, .wo, 0x0⟩]⟩,
  ⟨0x0E000420, [], [⟨16, 16, .rc, 0x0⟩, ⟨0, 16, .rc, 0x0⟩]⟩,
  ⟨0x0E001000, [], [⟨31, 1, .wo, 0x0⟩, ⟨30, 1, .ro, 0x0⟩, ⟨29, 1, .ro, 0x0⟩, ⟨0, 5, .ro, 0x0⟩]⟩,
  ⟨0x0E001004, [], [⟨0, 32, .ro, 0x0⟩]⟩,
  ⟨0x0E000040, [(0x4, 12)], [⟨0, 16, .rc, 0x0⟩]⟩,
  ⟨0x0E000410, [(0x4, 4)], [⟨0, 32, .ro, 0x0⟩]⟩,
  ⟨0x0E000800, [(0x4, 128)], [⟨28, 4, .ro, 0x0⟩]⟩,
  ⟨0x0E002000, [(0x40, 32)], [⟨4, 28, .rw, 0x0⟩, ⟨0, 1, .rw, 0x0⟩]⟩,
  ⟨0x0E002004, [(0x40, 32)], [⟨29, 3, .wo, 0x0⟩]⟩,
  ⟨0x0E002008, [(0x40, 32)], [⟨29, 3, .ro, 0x0⟩, ⟨25, 4, .ro, 0x0⟩, ⟨22, 3, .ro, 0x0⟩, ⟨21, 1, .ro, 0x0⟩]⟩,
  ⟨0x0E00200C, [(0x40, 32)], [⟨0, 32, .ro, 0x0⟩]⟩,
  ⟨0x0E002010, [(0x40, 32)], [⟨0, 24, .ro, 0x0⟩]⟩,
  ⟨0x0E002014, [(0x40, 32)], [⟨0, 32, .rc, 0x0⟩]⟩]

/-- Registers of the monitors, front end and Locket (R458), part 1. -/
def regTable15a : List RegRow := [
  ⟨0x0F000000, [(0x200, 2)], [⟨31, 1, .wo, 0x0⟩, ⟨22, 9, .rw, 0x4⟩, ⟨20, 2, .rw, 0x1⟩, ⟨0, 6, .rw, 0x0⟩]⟩,
  ⟨0x0F000004, [(0x200, 2)], [⟨31, 1, .rc, 0x0⟩, ⟨24, 6, .ro, 0x0⟩, ⟨0, 12, .ro, 0x0⟩]⟩,
  ⟨0x0F000008, [(0x200, 2)], [⟨0, 31, .wo, 0x0⟩]⟩,
  ⟨0x0F00000C, [(0x200, 2)], [⟨0, 32, .ro, 0x0⟩]⟩,
  ⟨0x0F000010, [(0x200, 2)], [⟨31, 1, .ro, 0x0⟩, ⟨30, 1, .ro, 0x0⟩, ⟨27, 3, .ro, 0x0⟩, ⟨23, 4, .ro, 0x0⟩, ⟨22, 1, .w1c, 0x0⟩]⟩,
  ⟨0x0F000014, [(0x200, 2)], [⟨16, 16, .rc, 0x0⟩, ⟨0, 16, .rc, 0x0⟩]⟩,
  ⟨0x0F000040, [(0x200, 2), (0x4, 16)], [⟨31, 1, .rw, 0x0⟩, ⟨22, 9, .rw, 0x4⟩, ⟨20, 2, .rw, 0x1⟩, ⟨17, 3, .rw, 0x0⟩, ⟨0, 6, .rw, 0x0⟩]⟩,
  ⟨0x0F000080, [(0x200, 2), (0x4, 16)], [⟨31, 1, .ro, 0x0⟩, ⟨0, 12, .ro, 0x0⟩]⟩,
  ⟨0x0F000800, [], [⟨31, 1, .ro, 0x0⟩, ⟨12, 12, .ro, 0x0⟩, ⟨0, 12, .ro, 0x0⟩]⟩,
  ⟨0x0F000900, [(0x10, 16)], [⟨31, 1, .rw, 0x0⟩, ⟨30, 1, .rw, 0x0⟩, ⟨29, 1, .rw, 0x0⟩, ⟨28, 1, .rw, 0x0⟩, ⟨20, 8, .rw, 0x10⟩, ⟨0, 6, .rw, 0x0⟩]⟩,
  ⟨0x0F000904, [(0x10, 16)], [⟨16, 12, .rw, 0xFFF⟩, ⟨0, 12, .rw, 0x0⟩]⟩,
  ⟨0x0F000908, [(0x10, 16)], [⟨31, 1, .w1c, 0x0⟩, ⟨30, 1, .w1c, 0x0⟩, ⟨29, 1, .ro, 0x0⟩, ⟨0, 12, .ro, 0x0⟩]⟩,
  ⟨0x0F001000, [(0x100, 4)], [⟨31, 1, .rw, 0x0⟩, ⟨0, 7, .rw, 0x5⟩]⟩,
  ⟨0x0F001004, [(0x100, 4)], [⟨31, 1, .rw, 0x0⟩, ⟨27, 4, .ro, 0x0⟩, ⟨0, 16, .ro, 0x0⟩]⟩,
  ⟨0x0F001008, [(0x100, 4)], [⟨28, 4, .sh, 0x0⟩, ⟨0, 16, .sh, 0x0⟩]⟩,
  ⟨0x0F001050, [(0x100, 4)], [⟨0, 32, .ro, 0x0⟩]⟩,
  ⟨0x0F001054, [(0x100, 4)], [⟨31, 1, .ro, 0x0⟩, ⟨24, 5, .ro, 0x0⟩, ⟨8, 8, .rc, 0x0⟩, ⟨0, 8, .rc, 0x0⟩]⟩,
  ⟨0x0F001010, [(0x100, 4), (0x4, 16)], [⟨23, 9, .sh, 0x0⟩, ⟨16, 7, .sh, 0x0⟩]⟩,
  ⟨0x0F008000, [(0x1000, 4), (0x8, 512)], [⟨31, 1, .rw, 0x0⟩, ⟨27, 4, .rw, 0x1⟩, ⟨16, 5, .rw, 0x0⟩]⟩,
  ⟨0x0F008004, [(0x1000, 4), (0x8, 512)], [⟨0, 32, .rw, 0x0⟩]⟩,
  ⟨0x0F002000, [(0x4, 16)], [⟨30, 2, .rw, 0x0⟩, ⟨29, 1, .rw, 0x0⟩, ⟨28, 1, .rw, 0x0⟩, ⟨0, 16, .rc, 0x0⟩]⟩,
  ⟨0x0F002040, [], [⟨16, 16, .ro, 0x0⟩, ⟨0, 16, .ro, 0x0⟩]⟩,
  ⟨0x0F002100, [(0x4, 64)], [⟨16, 16, .rw, 0x0⟩, ⟨0, 16, .rw, 0x0⟩]⟩,
  ⟨0x0F002200, [(0x8, 32)], [⟨0, 24, .rw, 0x0⟩]⟩,
  ⟨0x0F002204, [(0x8, 32)], [⟨0, 24, .rw, 0x0⟩]⟩,
  ⟨0x0F002300, [], [⟨0, 24, .ro, 0x0⟩]⟩,
  ⟨0x0F003000, [], [⟨16, 16, .wo, 0x0⟩]⟩,
  ⟨0x0F003004, [], [⟨31, 1, .ro, 0x0⟩, ⟨30, 1, .ro, 0x1⟩, ⟨29, 1, .ro, 0x0⟩, ⟨28, 1, .ro, 0x0⟩, ⟨27, 1, .w1c, 0x0⟩, ⟨0, 4, .ro, 0x0⟩]⟩,
  ⟨0x0F003010, [], [⟨31, 1, .rw, 0x1⟩, ⟨0, 23, .rw, 0x61A80⟩]⟩,
  ⟨0x0F003010, [(0x8, 8)], [⟨31, 1, .rw, 0x0⟩, ⟨0, 23, .rw, 0x61A80⟩]⟩]

/-- Registers of the monitors, front end and Locket (R458), part 2. -/
def regTable15b : List RegRow := [
  ⟨0x0F003014, [(0x8, 8)], [⟨0, 23, .rw, 0x6DDD00⟩]⟩,
  ⟨0x0F003050, [], [⟨0, 16, .rw, 0x0⟩]⟩,
  ⟨0x0F003054, [], [⟨0, 10, .rw, 0x3E8⟩]⟩,
  ⟨0x0F003060, [(0x4, 12)], [⟨0, 32, .rw, 0x0⟩]⟩,
  ⟨0x0F003090, [(0x4, 4)], [⟨0, 32, .ro, 0x0⟩]⟩,
  ⟨0x0F0030A0, [], [⟨16, 16, .rc, 0x0⟩]⟩,
  ⟨0x0F010000, [(0x100, 64)], [⟨31, 1, .rw, 0x0⟩, ⟨26, 5, .rw, 0x0⟩, ⟨21, 5, .rw, 0x0⟩, ⟨0, 8, .rw, 0x0⟩]⟩,
  ⟨0x0F010004, [(0x100, 64)], [⟨0, 24, .rw, 0x3E8⟩]⟩,
  ⟨0x0F010008, [(0x100, 64)], [⟨0, 32, .rw, 0x0⟩]⟩,
  ⟨0x0F01000C, [(0x100, 64)], [⟨0, 32, .ro, 0x0⟩]⟩,
  ⟨0x0F010010, [(0x100, 64)], [⟨0, 32, .ro, 0x0⟩]⟩,
  ⟨0x0F010014, [(0x100, 64)], [⟨0, 32, .ro, 0x0⟩]⟩,
  ⟨0x0F010018, [(0x100, 64)], [⟨0, 32, .ro, 0x0⟩]⟩,
  ⟨0x0F01001C, [(0x100, 64)], [⟨16, 16, .ro, 0x0⟩]⟩,
  ⟨0x0F010080, [(0x100, 64), (0x4, 32)], [⟨0, 32, .ro, 0x0⟩]⟩,
  ⟨0x0F100000, [(0x1000, 64)], [⟨0, 32, .rc, 0x0⟩]⟩]

/-- Registers of the power states (R481). -/
def regTable16a : List RegRow := [
  ⟨0x02000000, [], [⟨31, 1, .wo, 0x0⟩, ⟨4, 2, .rw, 0x0⟩, ⟨0, 2, .rw, 0x0⟩]⟩,
  ⟨0x02000004, [], [⟨31, 1, .ro, 0x0⟩, ⟨30, 1, .w1c, 0x0⟩, ⟨27, 3, .ro, 0x0⟩, ⟨26, 1, .w1c, 0x0⟩, ⟨25, 1, .w1c, 0x0⟩, ⟨12, 4, .ro, 0x0⟩, ⟨8, 3, .ro, 0x0⟩, ⟨0, 3, .ro, 0x0⟩]⟩,
  ⟨0x02000008, [], [⟨16, 8, .ro, 0x0⟩, ⟨8, 8, .ro, 0x0⟩, ⟨0, 8, .rw, 0xFF⟩]⟩,
  ⟨0x0200000C, [], [⟨31, 1, .rw, 0x0⟩, ⟨30, 1, .rw, 0x1⟩, ⟨27, 3, .rw, 0x0⟩]⟩,
  ⟨0x02000010, [], [⟨3, 1, .rw, 0x1⟩, ⟨2, 1, .rw, 0x1⟩, ⟨1, 1, .rw, 0x1⟩, ⟨0, 1, .rw, 0x1⟩]⟩,
  ⟨0x02000014, [], [⟨30, 2, .rw, 0x0⟩, ⟨16, 6, .rw, 0x0⟩, ⟨8, 6, .ro, 0x0⟩, ⟨0, 6, .ro, 0x0⟩]⟩,
  ⟨0x02000018, [], [⟨16, 16, .rw, 0xEA60⟩, ⟨0, 8, .rw, 0xA⟩]⟩,
  ⟨0x0200001C, [], [⟨16, 16, .ro, 0x0⟩, ⟨0, 16, .rc, 0x0⟩]⟩,
  ⟨0x02000020, [], [⟨28, 4, .ro, 0x0⟩, ⟨4, 4, .rw, 0x0⟩, ⟨0, 4, .rw, 0x0⟩]⟩,
  ⟨0x02000024, [], [⟨16, 16, .rc, 0x0⟩, ⟨0, 16, .rc, 0x0⟩]⟩,
  ⟨0x02000028, [], [⟨16, 16, .rc, 0x0⟩, ⟨0, 16, .rc, 0x0⟩]⟩,
  ⟨0x0200002C, [], [⟨0, 8, .ro, 0x0⟩]⟩,
  ⟨0x0200005C, [], [⟨16, 16, .ro, 0x0⟩, ⟨8, 3, .rw, 0x3⟩, ⟨0, 2, .ro, 0x0⟩]⟩,
  ⟨0x02000060, [], [⟨16, 16, .ro, 0x0⟩, ⟨8, 3, .rw, 0x4⟩, ⟨0, 2, .ro, 0x0⟩]⟩,
  ⟨0x02000064, [], [⟨16, 16, .ro, 0x0⟩, ⟨8, 3, .rw, 0x2⟩, ⟨0, 2, .ro, 0x0⟩]⟩,
  ⟨0x02000068, [], [⟨16, 16, .ro, 0x0⟩, ⟨8, 3, .rw, 0x1⟩, ⟨0, 2, .ro, 0x0⟩]⟩,
  ⟨0x02000040, [(0x4, 14)], [⟨16, 16, .ro, 0x0⟩, ⟨8, 3, .rw, 0x7⟩, ⟨0, 2, .ro, 0x0⟩]⟩,
  ⟨0x02000100, [(0x4, 4)], [⟨16, 16, .rc, 0x0⟩, ⟨0, 16, .rc, 0x0⟩]⟩,
  ⟨0x02000200, [(0x4, 8)], [⟨31, 1, .rw, 0x0⟩, ⟨16, 8, .rw, 0x0⟩, ⟨0, 8, .rw, 0x14⟩]⟩]

/-- Registers of the Fault Hub (R502). -/
def regTable17a : List RegRow := [
  ⟨0x01000000, [], [⟨31, 1, .rw, 0x0⟩, ⟨30, 1, .rw, 0x0⟩, ⟨0, 16, .rw, 0x64⟩]⟩,
  ⟨0x01000004, [], [⟨31, 1, .ro, 0x0⟩, ⟨30, 1, .ro, 0x0⟩, ⟨16, 8, .ro, 0x0⟩, ⟨8, 8, .ro, 0x0⟩, ⟨0, 6, .ro, 0x0⟩]⟩,
  ⟨0x01000008, [], [⟨31, 1, .wo, 0x0⟩, ⟨30, 1, .wo, 0x0⟩, ⟨0, 6, .wo, 0x0⟩]⟩,
  ⟨0x0100000C, [], [⟨31, 1, .ro, 0x0⟩, ⟨16, 4, .ro, 0x0⟩, ⟨0, 4, .ro, 0x0⟩]⟩,
  ⟨0x01000010, [], [⟨16, 16, .rc, 0x0⟩, ⟨0, 16, .rc, 0x0⟩]⟩,
  ⟨0x01000014, [], [⟨16, 16, .rc, 0x0⟩, ⟨0, 16, .rc, 0x0⟩]⟩,
  ⟨0x01000018, [], [⟨16, 16, .rc, 0x0⟩, ⟨8, 8, .rc, 0x0⟩, ⟨0, 8, .rc, 0x0⟩]⟩,
  ⟨0x0100001C, [], [⟨31, 1, .rw, 0x0⟩, ⟨30, 1, .rw, 0x0⟩, ⟨0, 16, .rw, 0x3E8⟩]⟩,
  ⟨0x01000020, [], [⟨0, 32, .wo, 0x0⟩]⟩,
  ⟨0x01000024, [], [⟨0, 32, .rw, 0xFFFFFFFF⟩]⟩,
  ⟨0x01000028, [], [⟨0, 32, .rw, 0xFFFFFFFF⟩]⟩,
  ⟨0x01000030, [], [⟨0, 32, .ro, 0x0⟩]⟩,
  ⟨0x01000034, [], [⟨0, 32, .ro, 0x0⟩]⟩,
  ⟨0x01000038, [], [⟨0, 32, .ro, 0x0⟩]⟩,
  ⟨0x0100003C, [], [⟨0, 32, .ro, 0x0⟩]⟩,
  ⟨0x01000040, [], [⟨0, 32, .ro, 0x0⟩]⟩,
  ⟨0x01000044, [], [⟨0, 32, .ro, 0x0⟩]⟩,
  ⟨0x01000050, [], [⟨0, 32, .ro, 0x0⟩]⟩,
  ⟨0x01000054, [], [⟨0, 32, .ro, 0x0⟩]⟩,
  ⟨0x01000058, [], [⟨0, 32, .ro, 0x0⟩]⟩,
  ⟨0x0100005C, [], [⟨0, 32, .wo, 0x0⟩]⟩,
  ⟨0x01000100, [(0x10, 64)], [⟨0, 32, .ro, 0x0⟩]⟩,
  ⟨0x01000104, [(0x10, 64)], [⟨30, 2, .ro, 0x0⟩, ⟨16, 4, .ro, 0x0⟩, ⟨0, 16, .rc, 0x0⟩]⟩,
  ⟨0x01000108, [(0x10, 64)], [⟨0, 32, .ro, 0x0⟩]⟩]

/-- Registers of the boot and ID (R523). -/
def regTable18a : List RegRow := [
  ⟨0x00000000, [], [⟨16, 16, .ro, 0x6464⟩, ⟨8, 8, .ro, 0xB0⟩, ⟨4, 4, .ro, 0x1⟩]⟩,
  ⟨0x00000004, [], [⟨31, 1, .ro, 0x0⟩, ⟨29, 2, .ro, 0x0⟩]⟩,
  ⟨0x00000008, [], [⟨0, 32, .ro, 0x0⟩]⟩,
  ⟨0x0000000C, [], [⟨0, 32, .ro, 0x0⟩]⟩,
  ⟨0x00000010, [], [⟨31, 1, .ro, 0x0⟩, ⟨30, 1, .ro, 0x0⟩, ⟨29, 1, .ro, 0x0⟩, ⟨28, 1, .ro, 0x0⟩, ⟨27, 1, .ro, 0x0⟩, ⟨26, 1, .ro, 0x0⟩, ⟨25, 1, .ro, 0x0⟩, ⟨24, 1, .ro, 0x0⟩, ⟨23, 1, .ro, 0x0⟩, ⟨20, 3, .ro, 0x0⟩, ⟨16, 4, .ro, 0x0⟩]⟩,
  ⟨0x00000014, [], [⟨8, 8, .ro, 0x0⟩, ⟨0, 8, .ro, 0x0⟩]⟩,
  ⟨0x00000018, [], [⟨0, 32, .ro, 0x0⟩]⟩,
  ⟨0x0000001C, [], [⟨16, 16, .ro, 0x0⟩]⟩,
  ⟨0x00000020, [], [⟨31, 1, .ro, 0x0⟩, ⟨30, 1, .ro, 0x0⟩, ⟨29, 1, .ro, 0x0⟩, ⟨16, 8, .rc, 0x0⟩, ⟨0, 16, .rw, 0x7D0⟩]⟩,
  ⟨0x00000024, [], [⟨16, 16, .wo, 0x0⟩]⟩,
  ⟨0x00000028, [], [⟨31, 1, .ro, 0x0⟩, ⟨30, 1, .ro, 0x0⟩, ⟨29, 1, .ro, 0x0⟩]⟩,
  ⟨0x00000030, [], [⟨28, 4, .wo, 0x0⟩, ⟨16, 8, .wo, 0x0⟩, ⟨0, 2, .wo, 0x0⟩]⟩,
  ⟨0x00000034, [], [⟨0, 32, .rw, 0x0⟩]⟩,
  ⟨0x00000038, [], [⟨31, 1, .ro, 0x0⟩, ⟨30, 1, .w1c, 0x0⟩, ⟨27, 3, .ro, 0x0⟩, ⟨25, 2, .ro, 0x0⟩, ⟨17, 8, .ro, 0x0⟩]⟩,
  ⟨0x00000040, [], [⟨16, 16, .ro, 0x0⟩, ⟨15, 1, .ro, 0x0⟩]⟩,
  ⟨0x00000100, [(0x4, 64)], [⟨0, 32, .rw, 0x0⟩]⟩]

/-- The registers of the block that holds an address (R552: each block spans 0x0100_0000 bytes). -/
def blockTable (a : Nat) : List RegRow :=
  match a / 0x01000000 with
  | 0x00 => regTable18a
  | 0x01 => regTable17a
  | 0x02 => regTable16a
  | 0x03 => regTable02a ++ regTable02b
  | 0x04 => regTable03a ++ regTable03b
  | 0x05 => regTable01a
  | 0x06 => regTable04a ++ regTable05a
  | 0x07 => regTable06a
  | 0x08 => regTable07a ++ regTable07b
  | 0x09 => regTable08a
  | 0x0A => regTable09a
  | 0x0B => regTable10a
  | 0x0C => regTable12a
  | 0x0D => regTable13a
  | 0x0E => regTable14a
  | 0x0F => regTable15a ++ regTable15b
  | 0x10 => regTable11a
  | _ => []

/-- The row of the register at an address, if the map defines one there (R552). -/
def regRow (a : Nat) : Option RegRow := (blockTable a).find? (fun r => r.covers a)

/-- The reset value of a register (R561): its fields' reset values, each in its place. -/
def RegRow.resetValue (r : RegRow) : Word :=
  BitVec.ofNat 32 (r.fields.foldl (fun n f => n + f.reset * 2 ^ f.lo) 0)

/-- What an address of the map that nothing has written reads as: its register's reset value, and 0 where no chapter
defines a register (R552, R561). -/
def regReset (a : Nat) : Word :=
  match regRow a with
  | some r => r.resetValue
  | none => 0

end Sys2Proof.Machine
end

