-- ==== Sys2Proof/Config.lean ====
section
/-! DEFINITION. Config.lean: what the spec leaves open. A free value is a constant without a body: nothing in Lean can
evaluate it, and a statement about it holds whatever it is. -/

namespace Sys2Proof.Config

/-- The n-th free value of w bits: a value the spec leaves open after a command that goes on. The machine numbers its free
values with the plain counter `State.freeCtr` (assumption log 2). -/
opaque freeValue (w n : Nat) : BitVec w

/-- The value of a tuning parameter the spec leaves to its firmware (a loop filter's output, a correction clause's result),
as a function of the operands it depends on (assumption log 2). -/
opaque freeOf (w : Nat) (args : List Nat) : BitVec w

/-- SHA-384 of some bytes, by another standard (R457, R508, R509; assumption log 16). -/
opaque sha384 (bytes : List Byte) : List Byte

/-- Is an ECDSA P-384 signature of a SHA-384 digest valid for a public key (R457, R507 to R509; assumption log 16)? -/
opaque ecdsaP384 (key digest sig : List Byte) : Bool

/-- AES-256-GCM decryption of a ciphertext under a key and IV with its tag: the plaintext, or none when the tag is invalid
(R509; assumption log 16). -/
opaque aesGcm (key iv text tag : List Byte) : Option (List Byte)

/-- The maker's public key in the boot ROM, with which vendor sections are verified (R509; assumption log 16). -/
opaque skovrelKey : List Byte

end Sys2Proof.Config
end

