-- ==== Sys2Proof/Machine/Map.lean ====
section
/-! DEFINITION. Machine/Map.lean: sparse storage as a list of (key, value) pairs in one canonical form: keys strictly
rising, and no pair whose value is what an unlisted key reads as. Registers, memories and per-index state all use it. -/

namespace Sys2Proof.Machine

/-- Sparse storage: the listed keys with their values, lowest key first. -/
abbrev SMap (α : Type) := List (Nat × α)

/-- Read a key; an unlisted key reads as `d` says. -/
def mapGet {α : Type} (d : Nat → α) : SMap α → Nat → α
  | [], a => d a
  | (k, v) :: m, a => if a = k then v else mapGet d m a

/-- Put a pair in its place, replacing the value of a key that is listed. -/
def mapPut {α : Type} (a : Nat) (v : α) : SMap α → SMap α
  | [] => [(a, v)]
  | (k, w) :: m => if a < k then (a, v) :: (k, w) :: m else if a = k then (a, v) :: m else (k, w) :: mapPut a v m

/-- Unlist a key. -/
def mapErase {α : Type} (a : Nat) (m : SMap α) : SMap α := m.filter (fun p => p.1 != a)

/-- Write a key, keeping the canonical form: the value an unlisted key reads as is never listed. -/
def mapSet {α : Type} [DecidableEq α] (d : Nat → α) (m : SMap α) (a : Nat) (v : α) : SMap α :=
  if v = d a then mapErase a m else mapPut a v (mapErase a m)

/-- Are the keys strictly rising from a lower bound on? -/
def mapSorted {α : Type} : Nat → SMap α → Bool
  | _, [] => true
  | b, (k, _) :: m => b ≤ k && mapSorted (k + 1) m

/-- The canonical form: keys strictly rising, no pair that reads as an unlisted key does. -/
def mapWf {α : Type} [DecidableEq α] (d : Nat → α) (m : SMap α) : Bool :=
  mapSorted 0 m && m.all (fun p => p.2 != d p.1)

/-- Keep the pairs whose key a test admits (what a reset keeps). -/
def mapKeep {α : Type} (keep : Nat → Bool) (m : SMap α) : SMap α := m.filter (fun p => keep p.1)

/-- Sparse storage whose unlisted keys read as the default value of the type. -/
def SMap.at {α : Type} [Inhabited α] (m : SMap α) (a : Nat) : α := mapGet (fun _ => default) m a

/-- Write a key of sparse storage whose unlisted keys read as the default value of the type. -/
def SMap.put {α : Type} [Inhabited α] [DecidableEq α] (m : SMap α) (a : Nat) (v : α) : SMap α :=
  mapSet (fun _ => default) m a v

/-- Change the value at a key by a function. -/
def SMap.upd {α : Type} [Inhabited α] [DecidableEq α] (m : SMap α) (a : Nat) (f : α → α) : SMap α :=
  m.put a (f (m.at a))

end Sys2Proof.Machine
end

