-- ==== Sys2Proof/Machine/State.lean ====
section
/-! DEFINITION. Machine/State.lean: everything the spec gives the part, as plain data: the register map, what each
subsystem keeps beyond its registers, what the part has driven out, and the queue of commands. -/

namespace Sys2Proof.Machine

/-! ### What the part sends -/

/-- What the part has driven out, newest first: the model's record of its outputs, so that a command that only sends has an
effect (assumption log 5). -/
inductive Output where
  /-- A PTP message on a port (R31, R33): its kind (0 Sync, 1 Delay_Req, 11 Announce) and, for a Sync, seconds,
  nanoseconds and the correction in units of 2^-16 ns. -/
  | ptp (port kind sec ns corr : Nat)
  /-- The 16 bytes of a time-of-day message (R41). -/
  | tod (bytes : List Nat)
  /-- A level change of PPS_OUT (R40). -/
  | pps (level : Bool)
  /-- A UL U-plane message (R87, R78) on a port to a destination: its flow, seqId, symbol and sectionId, its first PRB, and for
  each PRB its udCompParam and its samples or mantissas. -/
  | uplane (port : Nat) (dst : Option Nat) (flow seq : Nat) (sym : SymAbs) (secId startPrb : Nat) (prbs : List PrbData)
  /-- An eCPRI type 5 message on a port (R31, R97): action type, measurement ID, destination, and its timestamp and compensation
  value. -/
  | delay (port action id dst sec ns comp : Nat)
  /-- A remote memory access response (R99): port, destination, access ID, failure, and the words read. -/
  | rma (port dst id : Nat) (fail : Bool) (words : List Nat)
  /-- An eCPRI type 7 message (R101, R103) on a port: event type, sequence number and (element, cease, number, info). -/
  | event (port kind seq : Nat) (elems : List (Nat × Bool × Nat × Nat))
  /-- An answer to an ARP request or an IPv6 neighbour solicitation (R62). -/
  | arp (port : Nat) (v6 : Bool) (dst : Nat)
  /-- A partial sum sent upstream on a Strand link (R134): link, flow, symbol, first PRB and the PRBs. -/
  | psum (link flow : Nat) (sym : SymAbs) (startPrb : Nat) (prbs : List PrbData)
  /-- A frame forwarded downstream on a Strand link (R131): link, control or data, flow. -/
  | strand (link : Nat) (ctl : Bool) (item : Nat)
  /-- A SYNC_OUT pulse (R294) with its width code. -/
  | sync (width : Nat)
  /-- The bytes the part drives on MSPI (R557) or in the persona framing (R346). -/
  | mspi (bytes : List Nat)
  /-- Bits shifted out of a JTAG data register, as a number (R558). -/
  | jtag (bits : Nat)
  /-- A transaction on front-end bus k: read or write, length and data (R443). -/
  | feb (k : Nat) (read : Bool) (len data : Nat)
  /-- A C&M response on a persona link (R345): the fast channel or the slow one, op, seq, status and words. -/
  | cm (link : Nat) (fast : Bool) (op seq status : Nat) (words : List Nat)
  /-- A hyperframe that a persona link transmits (R331, R332), with its RAI and SDI. -/
  | hyperframe (link : Nat) (rai sdi : Bool)
  /-- The value a register read returns on an access path (R553), or none for a bus error or permission fault. -/
  | read (path : Nat) (addr : Nat) (value : Option Nat)
deriving DecidableEq, Repr, Inhabited

/-! ### Access paths -/

/-- A holding register (R562, R564): the address of the pair's _LO and the half it holds. -/
structure Hold where
  lo : Nat
  half : Word
deriving DecidableEq, Repr, Inhabited

/-- A write to a shadow group's field since the group's last commit (R566): the facet cycle in which it landed. -/
structure ShWrite where
  cyc : Nat
  addr : Nat
  val : Word
deriving DecidableEq, Repr, Inhabited

/-- The JTAG port (R558, R559): the selected instruction code, the cells of the boundary-scan register, the answer handed to CE0
(R457), and the STATUS, address and data that Capture-DR of REG_ACCESS loads. -/
structure JtagState where
  ir : Nat := 1
  boundary : Nat := 0
  answer : Option (List Byte × List Byte) := none
  status : Nat := 0
  addr : Word := 0
  data : Word := 0
deriving DecidableEq, Repr, Inhabited

/-- The access paths beyond the registers. -/
structure AccState where
  /-- The committed generation of every SH field, by the register's address (R566). -/
  active : SMap Word := []
  /-- The writes to SH fields that no commit has taken yet, oldest first. -/
  shLog : List ShWrite := []
  /-- By the address of a group's ARM register: the facet cycles and values of the writes of its ARM bit that no commit has
  taken yet, oldest first. -/
  arms : SMap (List (Nat × Bool)) := []
  /-- Holding registers for two-half reads and writes, by path (R562, R564). -/
  heldRd : SMap (Option Hold) := []
  heldWr : SMap (Option Hold) := []
  /-- Cycles of the facet clock since reset (R8, R566), and its remainder in units of 1 kHz × 1.25 ns. -/
  facetCyc : Nat := 0
  facetRem : Nat := 0
  jtag : JtagState := {}
deriving DecidableEq, Repr, Inhabited

/-! ### Network time and the air timeline -/

/-- A time of the PHC (R23): 48 bits of seconds, nanoseconds 0 to 999,999,999 and a 32-bit fraction of a nanosecond. -/
structure Phc where
  sec : Nat := 0
  ns : Nat := 0
  frac : Nat := 0
deriving DecidableEq, Repr, Inhabited

/-- A timestamp tuple that hardware collects for CE2 (R34): the four times of one exchange and the correction
fields of the Sync and of the Delay_Resp, all in units of 2^-16 ns; a time not yet seen is absent. -/
structure PtpTuple where
  port : Nat
  seq : Nat
  t1 : Option Int := none
  t2 : Option Int := none
  t3 : Option Int := none
  t4 : Option Int := none
  corrSync : Int := 0
  corrResp : Int := 0
deriving DecidableEq, Repr, Inhabited

/-- One captured edge (R47): its channel and the nanoseconds and seconds[31:0] of its tick. -/
structure CapStamp where
  ch : Nat
  ns : Nat
  sec : Nat
deriving DecidableEq, Repr, Inhabited

/-- A carrier timeline beyond its registers (R48, R56): running, waiting for its first frame boundary, due to mute at its
next realised boundary, and muted. -/
structure Timeline where
  running : Bool := false
  startDue : Bool := false
  muteDue : Bool := false
  muted : Bool := false
  /-- The tick of the boundary at which it muted (R572). -/
  mutedAt : Nat := 0
deriving DecidableEq, Repr, Inhabited

/-- What TIM keeps for a facet (R53, R56, R283): anchored or not, realigning or not and the PHC time in ns of the
re-anchor then due, and whether the AIR_DRIFT condition of R52 holds. -/
structure FacetTime where
  anchored : Bool := false
  /-- The PHC time of the last anchor or re-anchor in units of 2^-32 ns (R283, R285). -/
  anchorFine : Int := 0
  realigning : Bool := false
  /-- The realignment is one of R53, of this facet alone. -/
  alone : Bool := false
  reanchorNs : Nat := 0
  drift : Bool := false
deriving DecidableEq, Repr, Inhabited

/-- TIM beyond its registers. -/
structure TimeState where
  /-- 1.25 ns ticks of the TIME island since reset: the model's own real time. -/
  now : Nat := 0
  phc : Phc := {}
  /-- Consecutive updates within LOCK_THRESH and above 4 × LOCK_THRESH (R36). -/
  lockRun : Nat := 0
  unlockRun : Nat := 0
  /-- The slave port: the port whose master the BMCA has selected (R34, R36). -/
  slave : Option Nat := none
  /-- The tick in which the state last became LOCKED. -/
  lockedSince : Nat := 0
  /-- The increments applied and the ticks from which they apply, newest first (R37). -/
  incrLog : List (Nat × Nat) := []
  tuples : List PtpTuple := []
  caps : List CapStamp := []
  ppsOut : Bool := false
  /-- The tick of the last rise of PPS_OUT (R40). -/
  ppsRose : Nat := 0
  /-- The seconds of the last time-of-day message accepted (R37, R41). -/
  todSec : Nat := 0
  lines : SMap Timeline := []
  facets : SMap FacetTime := []
deriving DecidableEq, Repr, Inhabited

/-! ### Fronthaul -/

/-- One element of an event indication (R101): the Element ID, Raise or Cease, the number, the additional information, the
flow it belongs to and the microsecond in which it arose. -/
structure EvElem where
  elem : Nat
  cease : Bool
  num : Nat
  info : Nat
  flow : Option Nat
  us : Nat
deriving DecidableEq, Repr, Inhabited

/-- A Faults Indication that awaits its acknowledge (R103): its sequence number, port, elements, resends so far and the tick
at which the acknowledge is due. -/
structure EvAwait where
  seq : Nat
  port : Nat
  elems : List EvElem
  sends : Nat
  due : Nat
deriving DecidableEq, Repr, Inhabited

/-- A position in frame, slot and symbol (R50). -/
structure SymId where
  sfn : Nat
  subframe : Nat
  slot : Nat
  symbol : Nat
deriving DecidableEq, Repr, Inhabited

/-- How the weights of a group of PRBs of a section come about (R118, R141, R149, R160): no beam; a set of the cache; a beam
that is unusable or whose set could not be had; a
fetch that waits for a free set; or the solver's set of a UE. -/
inductive WtRef where
  | path
  | set (n : Nat)
  | none
  | await (lib beam : Nat)
  | ue (id : Nat)
deriving DecidableEq, Repr, Inhabited

/-- What is applied to a group in one symbol, once decided (R152). -/
inductive WtUse where
  | path
  | set (n : Nat)
  | zero
deriving DecidableEq, Repr, Inhabited

/-- A C-plane section in the section store (R88): its flow, section type and sectionId, the symbol it starts at, the symbols
of its slot not yet released and those released and not yet processed, its PRBs, its weights by group of `group` PRBs from
`startPrb`, what has been decided for the symbols whose weight deadline has passed, and for PRACH (R191) its fftSize and
occasion, in Tc since the air epoch. -/
structure Section where
  flow : Nat
  typ : Nat
  secId : Nat
  start : SymAbs
  todo : List Nat
  out : List Nat
  startPrb : Nat
  prbs : List Nat
  group : Nat
  refs : List WtRef
  decided : List (Nat × List WtUse)
  meth : Nat
  iqw : Nat
  fftSize : Nat := 0
  span : Option (Int × Int) := none
deriving DecidableEq, Repr, Inhabited

/-- A DL U-plane message in the U-plane buffer (R91): its flow and symbol, its sections still compressed, its 64-byte units,
and whether the work list of its symbol has been released. -/
structure UMsg where
  flow : Nat
  sym : SymAbs
  secs : List USec
  units : Nat
  released : Bool := false
deriving DecidableEq, Repr, Inhabited

/-- A slot for which a DL flow had a pending section or a U-plane message (R82), counted in slots since the air epoch. -/
structure SlotRec where
  slot : Int
  pend : Bool
  data : Bool
deriving DecidableEq, Repr, Inhabited

/-- UL data of one section and symbol that waits to be sent (R87): the PHC time, in units of 2^-32 ns, of its Ta3_min, its
compression, PRBs and their values. -/
structure UlData where
  ready : Int
  sym : SymAbs
  secId : Nat
  meth : Nat
  iqw : Nat
  prbs : List Nat
  res : List ReVal
deriving DecidableEq, Repr, Inhabited

/-- A flow beyond its registers: the tick of its last valid message, the source of its last valid C-plane message, its slots,
the ticks of its last EARLY and LATE count, its UL data waiting to be sent and the seqId of its next UL message, the
configuration writes that wait for a slot boundary (R81), and what it applied in its most recently processed symbol by PRB
(R152). -/
structure FlowDyn where
  lastRx : Nat := 0
  cSrc : Option Nat := none
  slots : List SlotRec := []
  earlyAt : Nat := 0
  lateAt : Nat := 0
  ulQueue : List UlData := []
  ulSeq : Nat := 0
  waiting : List (Nat × Word) := []
  lastUse : List (Nat × Nat) := []
deriving DecidableEq, Repr, Inhabited

/-- A remote memory access request (R99): the receiving port, whether that port is protected, the requester's source, the
access ID, the kind (0 read, 1 write, 2 write without response), the Element ID, the 48-bit address, the length in bytes
and the words to write. -/
structure RmaReq where
  port : Nat
  prot : Bool
  src : Nat
  id : Nat
  kind : Nat
  elem : Nat
  addr : Nat
  len : Nat
  words : List Word
  /-- The tick of its arrival (R451). -/
  since : Nat := 0
deriving DecidableEq, Repr, Inhabited

/-- The fronthaul engine beyond its registers. -/
structure FpeState where
  /-- Enabled ports, earliest enabled first (R60). -/
  portOrder : List Nat := []
  flows : SMap FlowDyn := []
  /-- The section store, earlier entries first (R88, R120). -/
  sections : List Section := []
  ubuf : List UMsg := []
  rmaQ : List RmaReq := []
  evPend : List EvElem := []
  raised : List EvElem := []
  await : List EvAwait := []
  evSeq : Nat := 0
  /-- Flows that wait to be reassigned at a slot boundary (R69). -/
  rebal : List Nat := []
  /-- The source of the most recent valid message of type 2 or 4 (R102). -/
  evAddr : Option Nat := none
  /-- The tick of the last event 0x400 (R73). -/
  unkAt : Option Nat := none
deriving DecidableEq, Repr, Inhabited

/-! ### Beamforming engine -/

/-- One resource element (R111): the path or layer it belongs to, its PRB and subcarrier, and its I and Q. -/
structure BfeRe where
  idx : Nat
  prb : Nat
  sc : Nat
  i : Int
  q : Int
deriving DecidableEq, Repr, Inhabited

/-- A partial sum decoded from a Strand link (R134): the link, the flow it belongs to, its symbol and its resource elements. -/
structure PartialSum where
  link : Nat
  flow : Nat
  sym : SymAbs
  res : List ReVal
deriving DecidableEq, Repr, Inhabited

/-- A cascaded UL layer's own sum, rounded and not saturated (R134): its flow, symbol and section, its compression, its PRBs and
its values. -/
structure UlSum where
  flow : Nat
  sym : SymAbs
  secId : Nat
  meth : Nat
  iqw : Nat
  prbs : List Nat
  res : List ReVal
deriving DecidableEq, Repr, Inhabited

/-- The beamforming engine beyond its registers. -/
structure BfeState where
  /-- Array carriers told to stop at their next slot boundary (R108). -/
  stopping : List Nat := []
  /-- The gains and path calibrations in effect (R116): by 2^32 × array carrier + register address. -/
  inForce : SMap Word := []
  /-- The non-zero element REs of the last DL work list (R113). -/
  dlOut : List BfeRe := []
  psums : List PartialSum := []
  /-- The own sums of cascaded UL layers that wait for partial sums (R134, R135). -/
  sums : List UlSum := []
  /-- Fallen-back flows in the order in which they fell back (R137). -/
  fallen : List Nat := []
deriving DecidableEq, Repr, Inhabited

/-! ### Weight store -/

/-- A set of the weight cache (R139): its tag, its weights as 32-bit words (I above Q) in path order, whether its contents
have arrived, the pins it holds, the tick of its last use or writing, and for a set invalidated while pinned the fact that
no tag names it. -/
structure WsSet where
  valid : Bool := false
  locked : Bool := false
  /-- 0 library, 1 dynamic, 2 solver, 3 channel. -/
  kind : Nat := 0
  cls : Nat := 0
  id : Nat := 0
  array : Nat := 0
  lib : Nat := 0
  dl : Bool := false
  par : Nat := 0
  group : Nat := 0
  /-- The slot since the air epoch that a solver set was solved for. -/
  slot : Int := 0
  refs : Nat := 0
  resident : Bool := false
  stamp : Nat := 0
  /-- The tick in which the set became resident (R451). -/
  ready : Nat := 0
  w : List Word := []
deriving DecidableEq, Repr, Inhabited

/-- A library fetch in flight or queued (R149): its key, its set (absent while it waits for a free one), and its weight
deadline in units of 2^-32 ns of the PHC. -/
structure WsFetch where
  lib : Nat
  beam : Nat
  set : Option Nat
  deadline : Int
  /-- The tick in which the fetch was queued. -/
  since : Nat := 0
deriving DecidableEq, Repr, Inhabited

/-- The command that BFE_WS_CMD performs (R145): LOAD, or LOCK with `lock`. -/
structure WsCmd where
  lock : Bool
  lib : Nat
  beam : Nat
deriving DecidableEq, Repr, Inhabited

/-- A solve job (R160): array carrier, direction, slot since the air epoch, RB group, its UEs in order with their channel
sets, the elided mask at its issue, its weight deadline, and the tick of its start. -/
structure SolveJob where
  array : Nat
  dl : Bool
  slot : Int
  group : Nat
  ues : List (Nat × Nat)
  mask : Nat
  deadline : Int
  started : Option Nat := none
deriving DecidableEq, Repr, Inhabited

/-- A slot whose sections of type 5 await or have had their jobs issued (R161): the tick of the first one's parsing. -/
structure SolveSlot where
  array : Nat
  dl : Bool
  slot : Int
  first : Nat
  issued : Bool := false
deriving DecidableEq, Repr, Inhabited

/-- The weight store and solver beyond their registers. -/
structure WsState where
  sets : SMap WsSet := []
  fetches : List WsFetch := []
  cmd : Option WsCmd := none
  /-- Library keys whose fetch failed twice (R418): not fetched again before an INVALIDATE. -/
  failed : List (Nat × Nat) := []
  /-- regularizationFactor by array carrier and ueId (R159). -/
  regul : SMap Int := []
  slots : List SolveSlot := []
  jobs : List SolveJob := []
  /-- The tick of the last job start (R164). -/
  lastStart : Option Nat := none
  /-- The beam class last handed to each facet (R167). -/
  beamClass : SMap Nat := []
  /-- The DL symbol whose PRB-layers are being counted for each facet, and the counts by 8 × facet + class. -/
  classSym : SMap (Option SymAbs) := []
  classCnt : SMap Nat := []
deriving DecidableEq, Repr, Inhabited

/-! ### Spectral processing -/

/-- The facets' and carriers' committed values in effect (R180, R195), by register address: in the downlink those of the last
released work list, in the uplink those of the last realised boundary; and, by facet, the window word that the DAC datapath
takes at a PHC time in units of 2^-32 ns. -/
structure LpeState where
  dlForce : SMap Word := []
  ulForce : SMap Word := []
  wtx : SMap Nat := []
  wtxNext : SMap (Option (Int × Nat)) := []
deriving DecidableEq, Repr, Inhabited

/-! ### Linearisation -/

/-- What a capture of an ORX is for (R218, R220, R221). -/
inductive CapKind where
  | adapt | sup | host
deriving DecidableEq, Repr, Inhabited

/-- A capture in progress on an ORX (R218, R221): its purpose, path and class, its pages and the tick of its start. -/
structure OrxCap where
  kind : CapKind
  path : Nat
  cls : Nat
  pages : List Nat
  start : Nat
deriving DecidableEq, Repr, Inhabited

/-- The capture an ORX is set for next (R216, R220): its path, its class, and whether supervision asked for it. -/
structure OrxTarget where
  path : Nat
  cls : Nat
  sup : Bool
deriving DecidableEq, Repr, Inhabited

/-- An ORX as the scheduler of R216 keeps it: the switch input whose turn it is, its target, the ticks since which the switch
has stood and the target has waited, the capture in progress, pages granted for the next one, whether a request for pages
stands, and the pages of captures not yet released. -/
structure OrxDyn where
  turn : Nat := 0
  target : Option OrxTarget := none
  selSince : Nat := 0
  waitFrom : Nat := 0
  cap : Option OrxCap := none
  pages : List Nat := []
  asked : Bool := false
  held : List (List Nat) := []
deriving DecidableEq, Repr, Inhabited

/-- The adaptation of one path (R216, R222 to R226) and its power control (R230, R231): the class that comes next, the class
and ACLR of the solve whose copy waits to commit, the classes that await verification, the reference ACLR and the reversions in a row by bank, the
captures to solve, measurements of the period by both sources, periods in a row at a limit and apart, the freeze, and DL symbols
in a row inside the EVM budgets (R203). -/
structure LdePath where
  nextCls : Nat := 0
  solved : Option (Nat × Nat) := none
  verify : Nat := 0
  refs : SMap Nat := []
  reverts : SMap Nat := []
  toSolve : List (Nat × Nat) := []
  gOrx : Option Int := none
  gDet : Option Int := none
  limRun : Nat := 0
  diffRun : Nat := 0
  frozen : Bool := false
  goodRun : Nat := 0
deriving DecidableEq, Repr, Inhabited

/-- The linearisation beyond its registers. -/
structure LdeState where
  orx : SMap OrxDyn := []
  paths : SMap LdePath := []
  /-- The committed values in effect (R211), by register address. -/
  inForce : SMap Word := []
  /-- DL symbols whose work lists are released, with the class handed (R167, R209): facet, symbol, class. -/
  syms : List (Nat × SymAbs × Nat) := []
  /-- Paths done in the update cycle, and the tick of its start (R227). -/
  cycleDone : Nat := 0
  cycleFrom : Nat := 0
deriving DecidableEq, Repr, Inhabited


/-! ### Converters -/

/-- A TXRANGE transition in progress (R246): the tick of its boundary and the range before it. -/
structure RangeTrans where
  start : Nat
  oldIfs : Nat
deriving DecidableEq, Repr, Inhabited

/-- A waveform playback (R260, R261): waiting for its start symbol, or started at a tick. -/
inductive Play where
  | waiting
  | running (since : Nat)
deriving DecidableEq, Repr, Inhabited

/-- An array-calibration run in progress (R262 to R266): its direction, the paths it acts on as bits, and whether its symbol
still runs. -/
structure CalRun where
  rx : Bool
  mask : Nat
  injecting : Bool
  since : Nat
deriving DecidableEq, Repr, Inhabited

/-- Read-back supervision of one path (R267, R268): the tick of its last evaluated capture, consecutive failures of DEAD
and GAIN, and a request that stands. -/
structure SupState where
  lastEval : Nat := 0
  dead : Nat := 0
  gain : Nat := 0
  want : Bool := false
  probation : Bool := false
deriving DecidableEq, Repr, Inhabited

/-- An overload event of a receive path or ORX (R250, R253): the ticks of the first and last flagged sample and whether
OVR_HI asserted. -/
structure OvrEvent where
  first : Nat
  last : Nat
  hi : Bool
deriving DecidableEq, Repr, Inhabited

/-- The converters beyond their registers. -/
structure CvaState where
  /-- The release wait of R239: the tick at which the last quiet source of the path ended. -/
  relWait : SMap (Option Nat) := []
  /-- Paths held by the realignment quiet source of R56, by facet. -/
  realignQuiet : SMap Bool := []
  /-- The path in RECAL: TX or RX (true) and its number (R272). -/
  recal : Option (Bool × Nat) := none
  /-- The path whose DAC is steered to the calibration port (R265). -/
  steer : Option Nat := none
  trans : SMap (Option RangeTrans) := []
  /-- The facet cycle in which a TXRANGE commit without a boundary is due (R245). -/
  noBndCommit : SMap (Option Nat) := []
  /-- RX delay trims in effect (R258), INT and FRAC as CVA_RXp_DLY holds them. -/
  rxDly : SMap Nat := []
  play : SMap (Option Play) := []
  run : Option CalRun := none
  /-- The pages of the next run: asked for, and granted (R263). -/
  runAsked : Bool := false
  runPages : List Nat := []
  runOnce : Bool := false
  nextRx : Bool := false
  sup : SMap SupState := []
  ovr : SMap (Option OvrEvent) := []
  ovrOrx : SMap (Option OvrEvent) := []
  /-- The level trigger class 0x8 last set on a GPIO pin (R251). -/
  gpioKept : SMap (Option Bool) := []
  /-- UL symbols already counted in OVR_SYM (R253): the flow and the symbol. -/
  ovrSyms : List (Nat × SymAbs) := []
  /-- Facets whose converter trims are calibrated and held, in the facet or in KEEP7 (R270). -/
  trims : SMap Bool := []
deriving DecidableEq, Repr, Inhabited

/-! ### Sample-clock synthesis -/

/-- A command of RCS_CMD in progress (R279): TUNE or CAL of an entry, SWITCH, or CAL_STBY. -/
inductive RcsCmd where
  | tune (cal : Bool) (entry : Nat)
  | switch
  | calStby
deriving DecidableEq, Repr, Inhabited

/-- What the standby synthesiser is doing (R279, R286, R291): nothing, or steady; under calibration, by the part itself or not,
repeated or not; or tracking toward STBY_OK. -/
inductive Standby where
  | idle
  | cal (own again : Bool)
  | track
deriving DecidableEq, Repr, Inhabited

/-- A switch that is pending (R289): the tick it became due, and whether a soft failure has asked for it. -/
structure PendSwitch where
  since : Nat
  failed : Bool
deriving DecidableEq, Repr, Inhabited

/-- RCS beyond its registers: the reference found bad (R277), a TUNE of the part's own that waits (R574), the tick of the last
LOCKED, whether the first valid SYNC_IN pulse after it is awaited, and boundaries in a row without a pulse (R296). -/
structure RcsState where
  busy : Option RcsCmd := none
  standby : Standby := .idle
  pend : Option PendSwitch := none
  refBad : Bool := false
  autoDue : Bool := false
  lockedAt : Nat := 0
  waitPulse : Bool := false
  missRun : Nat := 0
deriving DecidableEq, Repr, Inhabited


/-! ### Serial lanes and Strand links -/

/-- A lane beyond its registers (R305 to R310). -/
structure LaneDyn where
  /-- Consecutive LQI evaluations below LQI_WARN since the lane entered LOCKED or last met the threshold, and the same run
  counted afresh after each pair of CTLE trials (R306, R308). -/
  lowRun : Nat := 0
  trialRun : Nat := 0
  /-- Consecutive evaluations at or above LQI_WARN (R308, R310). -/
  highRun : Nat := 0
  /-- The CTLE trials of R306 are in progress. -/
  trial : Bool := false
  /-- The tick since which the lane has been LOCKED or DEGRADED without a break (R312). -/
  upSince : Option Nat := none
  /-- The tick of the retirement while retraining has not started (R310). -/
  retiredAt : Option Nat := none
  /-- LQI_MIN holds the lowest value of at least one evaluation since its last read (R307). -/
  minSeen : Bool := false
  /-- A training attempt is in progress (R305). -/
  attempt : Bool := false
deriving DecidableEq, Repr, Inhabited

/-- A Strand link beyond its registers (R319): the lane mode in force at this end, 0 none, 1 logical lanes 0 and 1, 2 logical
lanes 2 and 3, 3 all four. -/
structure LinkDyn where
  mode : Nat := 0
  /-- Control messages sent once and lost, to be sent again in the next frame (R318). -/
  resend : List Nat := []
deriving DecidableEq, Repr, Inhabited

/-- The serial lanes and Strand links beyond their registers. -/
structure SrdState where
  lanes : SMap LaneDyn := []
  links : SMap LinkDyn := []
deriving DecidableEq, Repr, Inhabited

/-! ### T1640 persona -/

/-- A CPRI link beyond its registers (R329 to R334): the tick at which it entered its state or began its option, its signal and
synchronisation lost, RAI and SDI being received, and its frame start outside the range of R334. -/
structure CpriLink where
  since : Nat := 0
  los : Bool := false
  lof : Bool := false
  rai : Bool := false
  sdi : Bool := false
  skew : Bool := false
deriving DecidableEq, Repr, Inhabited

/-- A change of a port's TX enable that waits (R343): its value, the tick of its write, and the boundaries left once the first
has come. -/
structure TxenWait where
  en : Bool
  since : Nat
  left : Option Nat
deriving DecidableEq, Repr, Inhabited

/-- The persona beyond the registers whose addresses the spec gives. -/
structure LgcState where
  links : SMap CpriLink := []
  /-- LGC_ALARM, LGC_ALARM_MASK and LGC_RST_CNT (R348, R349). -/
  alarm : Nat := 0
  alarmMask : Nat := 0
  rstCnt : Nat := 0
  /-- The carrier configuration and LGC_CARj_FREQ in kHz (R336, R344). -/
  cars : List LegacyCar := []
  freq : SMap Nat := []
  /-- Facets whose grids change once a plan with the parts disabled has committed (R344). -/
  regrid : SMap Bool := []
  /-- The AxC table in effect, the one that waits for a frame boundary, and the sample width of each (R337, R338). -/
  axc : List AxcEntry := []
  axcW : Nat := 0
  axcNext : Option (Nat × List AxcEntry) := none
  /-- LGC_PORTi_TXEN and the enables in effect, as bits (R343). -/
  txen : Nat := 0
  txenOn : Nat := 0
  txenWait : SMap (Option TxenWait) := []
  /-- Link 0 has left state F and the columns go quiet at the next symbol boundary (R334). -/
  quietDue : Bool := false
  /-- Persona words for which the spec gives no layout, and the T1640 DPD and CFR words (R347, R349). -/
  words : SMap Half := []
deriving DecidableEq, Repr, Inhabited


/-! ### Yakea cluster -/

/-- Where a result in flight is written (R357): a data register or one half of it, an accumulator as format M reads it (`em`)
or as format S and MFS read it (`es`), the guard bits of both, an address, base, length or step register, flags (a mask and
values at their places in SR), sticky flags to set, SR by MTS, a special register by its MTS code, or the data abort of a
load (R372), whose value is FAR. -/
inductive YDst where
  | d (i : Nat) | dlo (i : Nat) | dhi (i : Nat) | em (i : Nat) | es (i : Nat) | eg (i : Nat)
  | a (i : Nat) | b (i : Nat) | l (i : Nat) | n (i : Nat)
  | flags (mask : Nat) | sticky | sr (user : Bool) | spec (code : Nat) | abort
deriving DecidableEq, Repr, Inhabited

/-- A result in flight (R357): the pair from which it is visible, its destination and its value. -/
structure YRes where
  due : Nat
  dst : YDst
  val : Nat
deriving DecidableEq, Repr, Inhabited

/-- An exception raised by the pair being issued (R372): CAUSE, the code of a TRAP, and FAR when it sets it. -/
structure YExc where
  cause : Nat
  code : Nat
  far : Option Word
deriving DecidableEq, Repr, Inhabited

/-- What the end of the pair being issued does beside going on (R374). -/
inductive YAfter where
  | go | rti | sync | wait
deriving DecidableEq, Repr, Inhabited

/-- A user kernel that runs (R383 to R385): its ID and the tick of its start. -/
structure YKernel where
  id : Nat
  since : Nat
deriving DecidableEq, Repr, Inhabited

/-- A Yakea core (R355). -/
structure YCore where
  pc : Nat := 0
  /-- Pairs issued since reset. -/
  pair : Nat := 0
  d : SMap Word := []
  /-- Accumulators as format M reads them, and as format S and MFS read them (R357). -/
  em : SMap (BitVec 40) := []
  es : SMap (BitVec 40) := []
  a : SMap Word := []
  b : SMap Word := []
  l : SMap Word := []
  n : SMap Word := []
  sr : Word := 0x08000000
  /-- Special registers by their MTS code (R355), but SR, CYCLE, CORE and the guard bits. -/
  spec : SMap Word := []
  /-- The tick of the core's reset, from which CYCLE counts. -/
  resetAt : Nat := 0
  /-- Results in flight, in the order of issue. -/
  inflight : List YRes := []
  /-- A branch taken: its target (the pair after the delay pairs when it is not taken) and the pairs still to end before it. -/
  branch : Option (Nat × Nat) := none
  /-- Slot 0 of the pair at the PC has been issued and its slot 1 has not. -/
  opened : Bool := false
  /-- Of the pair being issued: where a loop instruction with count 0 continues, its stores in order (local address, bytes,
  value), the exception it raised, whether its fetch failed, whether it holds an LDG or STG, what its end does. -/
  skip : Option Nat := none
  stores : List (Nat × Nat × Nat) := []
  exc : Option YExc := none
  badFetch : Bool := false
  global : Bool := false
  after : YAfter := .go
  /-- The pair being issued, or the last one, wrote SR (R370). -/
  wroteSr : Bool := false
  irqEn : Nat := 0
  irqPend : Nat := 0
  /-- TIMER.COUNT as written, the tick of the write, and whether it still counts. -/
  timer : Nat := 0
  timerFrom : Nat := 0
  timerOn : Bool := false
  /-- The tick from which the watchdog counts, and whether half its timeout has latched source 7. -/
  wdogFrom : Nat := 0
  wdogHalf : Bool := false
  /-- MB_STAT.IN_UNF and OUT_OVF, and the mailboxes, oldest word first. -/
  inUnf : Bool := false
  outOvf : Bool := false
  mbIn : List Word := []
  mbOut : List Word := []
  /-- The words of a kernel call received so far, the kernel that runs, and the loop levels it started. -/
  callWords : List Word := []
  kernel : Option YKernel := none
  ownLoops : Nat := 0
deriving DecidableEq, Repr, Inhabited

/-- A user kernel that the image loaded (R380): its core, its ID and its entry. -/
structure YLoaded where
  core : Nat
  id : Nat
  entry : Nat
deriving DecidableEq, Repr, Inhabited

/-- The cluster: its cores. Its memories are parts of the SRAM of R402. -/
structure DspState where
  cores : SMap YCore := []
  kernels : List YLoaded := []
  /-- DSP_CTRL.RST or a fault asked for a reload (R490), by core. -/
  reload : Nat := 0
deriving DecidableEq, Repr, Inhabited

/-! ### Clause engines -/

/-- What an engine is doing beyond its registers (R395, R396): a WAITE in progress, with the mask awaited, the destination
register and the tick at which its timeout fires. -/
structure WaiteState where
  mask : Word
  dest : Nat
  deadline : Option Nat
deriving DecidableEq, Repr, Inhabited

/-- A clause engine (R390, R396): G1 to G7, the PC, the flags, the slot in progress and its WAITE. Its run state, pending
events, slots and counters are the CLS registers. -/
structure CeState where
  g : SMap Word := []
  pc : Nat := 0
  z : Bool := false
  n : Bool := false
  tmo : Bool := false
  be : Bool := false
  waite : Option WaiteState := none
  /-- The state in which RUN was cleared, to which RUN returns. -/
  paused : Nat := 1
  /-- The tick of the last WAITE, WAIT or dispatch (R398, R501). -/
  runFrom : Nat := 0
  /-- Program memory by instruction number and data memory by word address (R389). -/
  prog : SMap Word := []
  data : SMap Word := []
deriving DecidableEq, Repr, Inhabited

/-! ### Memories and Data Mover -/

/-- A word whose corrected value waits to be written back (R411): SRAM by its debug-window address, or DRAM. -/
structure WriteBack where
  dram : Bool
  addr : Nat
deriving DecidableEq, Repr, Inhabited

/-- A request for capture pages (R421): its owner code, its priority class, lower served first, the pages wanted, and what
they are for: a path or a facet. -/
structure CapReq where
  owner : Nat
  prio : Nat
  pages : Nat
  ref : Nat := 0
deriving DecidableEq, Repr, Inhabited

/-- How a Data Mover channel in DRAIN will stop (R429 to R431), or none. -/
inductive DmvDrain where
  | no | stop | abort (release : Bool)
deriving DecidableEq, Repr, Inhabited

/-- The memories and the Data Mover beyond their registers. -/
structure MemState where
  /-- On-chip SRAM by debug-window address (R402) and DRAM by data address (R417), byte by byte. -/
  sram : SMap Byte := []
  dram : SMap Byte := []
  /-- Words found uncorrectable (R409): addresses of 8 bytes. -/
  sramUe : List Nat := []
  dramUe : List Nat := []
  writeBack : List WriteBack := []
  /-- The watch tables (R413, R418): (address, count), earliest entry first. -/
  watch : List (Nat × Nat) := []
  dramWatch : List (Nat × Nat) := []
  /-- The runtime repair table (R414, R416): (array, row), and the spare rows in use by array. -/
  repair : List (Nat × Nat) := []
  spares : SMap Nat := []
  /-- Requests for pages, oldest first, and the tick at which each page was granted (R422). -/
  capReqs : List CapReq := []
  capSince : SMap Nat := []
  /-- Pages of host captures, held jointly by the RMA, MSPI and JTAG paths (R422). -/
  joint : List Nat := []
  /-- Owner codes that wait for a channel, and the channel last granted to an owner (R424). -/
  dmvReqs : List Nat := []
  dmvGrant : SMap (Option Nat) := []
  drain : SMap DmvDrain := []
  /-- The space of the current element of a channel: DRAM or the native map (R425). -/
  curDram : SMap Bool := []
  /-- The tick in which a channel started its current element (R451). -/
  elemFrom : SMap Nat := []
deriving DecidableEq, Repr, Inhabited

/-- What the memories keep through every reset but PORST_N: the runtime repair table (R505). -/
def MemState.kept (m : MemState) : MemState := { repair := m.repair, spares := m.spares }

/-- Withdraw the requests of an owner (R490). -/
def MemState.releaseOwner (m : MemState) (o : Nat) : MemState :=
  { m with capReqs := m.capReqs.filter (fun r => r.owner != o), dmvReqs := m.dmvReqs.filter (fun x => x != o)
           dmvGrant := m.dmvGrant.put o none }

/-! ### Monitors, front end and Locket -/

/-- What a conversion is for (R437 to R441): a start pulse, the sequence, a host's urgent request, a detector conversion of a
path (R229), or a plausibility conversion. -/
inductive MonKind where
  | pulse | seq | host | detector (p : Nat) | plaus
deriving DecidableEq, Repr, Inhabited

/-- A conversion: its purpose, channel and SAMP. -/
structure MonJob where
  kind : MonKind
  ch : Nat
  samp : Nat
deriving DecidableEq, Repr, Inhabited

/-- A monitor converter beyond its registers (R436 to R441): the conversion in progress and the tick of its start, the urgent
requests that wait, the tick of the last start pulse, whether the sequence runs, whether its run ends with the entry in
progress, the conversions of that entry so far and their sum, and its latest result of each channel with its tick. -/
structure MadcState where
  job : Option (MonJob × Nat) := none
  urgent : List MonJob := []
  lastPulse : Nat := 0
  seqRun : Bool := false
  endRun : Bool := false
  seqCnt : Nat := 0
  seqSum : Nat := 0
  latest : SMap (Option (Nat × Nat)) := []
deriving DecidableEq, Repr, Inhabited

/-- An entry being sent (R443): its CTL and DAT words when it started, and the tick of its start. -/
structure FebEntry where
  ctl : Word
  dat : Word
  start : Nat
deriving DecidableEq, Repr, Inhabited

/-- A front-end bus beyond its registers (R443 to R447): the entry in progress, the entries still to send after it, the words
read, oldest first, and the tick of the last play. -/
structure FebState where
  cur : Option FebEntry := none
  todo : List Nat := []
  rd : List Word := []
  played : Option Nat := none
deriving DecidableEq, Repr, Inhabited

/-- The accumulators of a performance-monitor slot (R451, R452): the tick of the period's start, the count, minimum, maximum and
sum of its samples, and its bins. -/
structure PmonAcc where
  since : Nat := 0
  count : Nat := 0
  min : Int := 0
  max : Int := 0
  sum : Int := 0
  bins : SMap Nat := []
deriving DecidableEq, Repr, Inhabited

/-- MON, FEN, PMON and the Locket beyond their registers. -/
structure MonState where
  madc : SMap MadcState := []
  /-- The plausibility codes of the round in progress (R441), absent when they have not arrived; whether a request of the round
  was refused; the tick of its requests; disagreements in a row; and the tick since which comparisons have agreed. -/
  plausA : Option Nat := none
  plausB : Option Nat := none
  plausSkip : Bool := false
  plausAt : Nat := 0
  differ : Nat := 0
  agreeFrom : Option Nat := none
  feb : SMap FebState := []
  pmon : SMap PmonAcc := []
  /-- The pattern levels of the strobes and which have had a pattern step since reset or a realignment (R448), as bits. -/
  pattern : Nat := 0
  stepped : Nat := 0
  /-- For each strobe, the spans of ticks its level was 1 in the last 10 ms, and the tick since which it is 1 (R455). -/
  onSpans : SMap (List (Nat × Nat)) := []
  onSince : SMap (Option Nat) := []
  /-- The gain of the limiter for the present block of each TX path, in 2^-14 (R454). -/
  limGain : SMap Nat := []
  /-- The access paths, by their codes as bits, whose last access was the first write of the seal sequence (R456). -/
  sealOpen : Nat := 0
  /-- The Locket's OTP (R456): absent while not programmed, else the words of its registers; and whether its CRC fails. -/
  otp : Option (List Word) := none
  otpBad : Bool := false
  /-- The seal was made over JTAG since the last reset (R457). -/
  sealJtag : Bool := false
deriving DecidableEq, Repr, Inhabited

/-- What DOM_MON and the OTP keep when DOM_CORE is off (R16, R440). -/
def MonState.coreLost (m : MonState) : MonState :=
  { m with feb := [], pmon := [], pattern := 0, stepped := 0, onSpans := [], onSince := [], limGain := [], sealOpen := 0 }

/-! ### Power states -/

/-- The power state of the whole part (R459): ACTIVE, an entry in progress to ARRAY_SLEEP or, with `deep`, STANDBY, ARRAY_SLEEP,
STANDBY, and a wake in progress from the one or, with `deep`, the other. -/
inductive PwsPhase where
  | active
  | entering (deep : Bool)
  | array
  | standby
  | waking (deep : Bool)
deriving DecidableEq, Repr, Inhabited

/-- A current ramp that runs (R479): its direction, the ballast it starts from and its DELTA in 0.1 A, its length in steps of
100 ns, the tick in which it fired, and the steps made. -/
structure Ramp where
  down : Bool
  start : Nat
  delta : Nat
  steps : Nat
  since : Nat
  made : Nat := 0
deriving DecidableEq, Repr, Inhabited

/-- The power steward beyond its registers. -/
structure PwsState where
  phase : PwsPhase := .active
  /-- DOM_FACET0 to DOM_FACET3 are off, and everything is off but what STANDBY keeps (R459). -/
  facetsOff : Bool := false
  coreOff : Bool := false
  /-- The sleep clause quiets every path (R465). -/
  quiet : Bool := false
  /-- The destination saved for event 0x811 (R466), and the PHC time in ns of the wake timer (R470). -/
  dest : Option Nat := none
  timer : Option Nat := none
  /-- The KEEP banks selected at the entry into STANDBY (R475), and the ports then enabled, earliest first. -/
  kept : Nat := 0
  ports : List Nat := []
  /-- The tune-cache entry then in use (R472). -/
  tuned : Option Nat := none
  /-- The tick of the wake source that WAKE_SRC records. -/
  wokeAt : Nat := 0
  /-- TX and RX paths asleep by symbol (R460, R461), as bits. -/
  symSleep : Nat := 0
  rxSleep : Nat := 0
  /-- Facets in SLOT_SLEEP, and those waking from it (R463), as bits. -/
  slotSleep : Nat := 0
  slotWaking : Nat := 0
  /-- What the released DL work lists of coming symbols use (R460): the facet, the symbol and the paths, as bits. -/
  used : List (Nat × SymAbs × Nat) := []
  /-- The tick in which the present budget window began, windows over budget in a row with all clients throttled, and whether
  PWR_OVER has been reported since one was within budget (R478). -/
  winFrom : Nat := 0
  overRun : Nat := 0
  overSaid : Bool := false
  ramp : Option Ramp := none
deriving DecidableEq, Repr, Inhabited

/-! ### Fault Hub -/

/-- A source of the Fault Hub's table beyond its registers (R483, R494, R573): when it last became IDLE (a count of
releases), the tick of its last occurrence or refresh, the ticks of its recoveries, whether its condition holds, and
whether it elides its path. -/
structure SrcEntry where
  idleOrder : Nat := 0
  last : Nat := 0
  recov : List Nat := []
  cond : Bool := false
  elides : Bool := false
deriving DecidableEq, Repr, Inhabited

/-- A log record (R485): the fault code and the PHC time of recording. -/
structure LogRec where
  code : Word
  sec : Nat
  ns : Nat
deriving DecidableEq, Repr, Inhabited

/-- The Fault Hub beyond its registers. -/
structure FltState where
  src : SMap SrcEntry := []
  log : List LogRec := []
  /-- Fault codes of sources without an entry whose reactions stay in force (R483). -/
  overflow : List Word := []
  /-- The tick from which the host watchdog counts, while it runs (R575). -/
  hostFrom : Option Nat := none
  /-- Releases of entries to IDLE so far. -/
  idleCount : Nat := 0
  /-- A full reset was started by a report and boot has not yet reached radio-ready (R495). -/
  fullReset : Bool := false
  /-- The FAULT_N ball (R498): asserted or not. -/
  faultN : Bool := false
deriving DecidableEq, Repr, Inhabited

/-! ### Reset, boot and the flash -/

/-- Which reset holds the part (R505): none, PORST_N, RESET_N, the full reset of R495, or a reboot. -/
inductive ResetHold where
  | none | porst | resetn | full | reboot
deriving DecidableEq, Repr, Inhabited

/-- A flash operation in progress with its address (R519, R522): a CAL_SAVE has the bytes it writes. -/
inductive FlOp where
  | read (a : Nat) | program (a : Nat) | erase (a : Nat) | verify (slotB : Bool) | calSave (bytes : List Byte) | key (which : Nat)
deriving DecidableEq, Repr, Inhabited

/-- A record of the calibration set (R516): its type, its path or index byte and its contents. -/
structure CalRec where
  typ : Nat
  idx : Nat
  body : List Byte
deriving DecidableEq, Repr, Inhabited

/-- Boot, flash, OTP and TX release beyond the registers. -/
structure BootState where
  /-- The reset that holds the part; at State.reset it is PORST_N. -/
  hold : ResetHold := .porst
  /-- What the board shows the boot in progress, and the straps last sampled in it (R534). -/
  env : BootEnv := {}
  /-- The core PLLs are ready (R504). -/
  pll : Bool := false
  /-- The boot has stopped after four failed attempts (R504). -/
  stopped : Bool := false
  /-- The slots still to try, B as true (R509), and whether a slot has booted. -/
  left : List Bool := []
  booted : Bool := false
  /-- The DRAM has trained in this boot (R512, R514). -/
  dram : Bool := false
  /-- The flash (R507): its size in bytes and its contents; an erased byte reads 0xFF. -/
  flashSize : Nat := 0x800000
  flash : SMap Byte := []
  /-- OTP (R510): key hashes and the AES key, absent while blank. -/
  imgHash : Option (List Byte) := none
  userHash : Option (List Byte) := none
  aesKey : Option (List Byte) := none
  /-- The boot quiet of R520 holds every DAC. -/
  txHold : Bool := true
  /-- FLAGS of the image in force (R507, R520) and the validity of its calibration set (R517). -/
  freeRun : Bool := false
  noCalOk : Bool := false
  calValid : Bool := false
  /-- The path gains G_REF of the calibration set in 0.01 dB, and its records (R516). -/
  gRef : SMap Nat := []
  calRecs : List CalRec := []
  /-- The tick from which TIME_OK has been 0 (R521). -/
  timeLost : Option Nat := none
  /-- The tick of the release of reset (R512, R513). -/
  since : Nat := 0
  op : Option FlOp := none
deriving DecidableEq, Repr, Inhabited

/-! ### The machine -/

/-- The reasons a step can stop with a fault: none. Every fault of the part is an event it handles (R482 to R502), and the
spec leaves no command without an effect; the type is empty. -/
inductive Fault
deriving DecidableEq, Repr

/-- The reasons a step can be refused. -/
inductive Refusal where
  /-- Raised by a dispatch arm whose command has no meaning yet; safe, since nothing is claimed of it. -/
  | notModelled (mnemonic : String)
deriving DecidableEq, Repr

/-- The state of the part. -/
structure State where
  /-- Every register of the map by its address: its value where it differs from its reset value (R552, R561). -/
  regs : SMap Word := []
  acc : AccState := {}
  time : TimeState := {}
  fpe : FpeState := {}
  bfe : BfeState := {}
  ws : WsState := {}
  lpe : LpeState := {}
  lde : LdeState := {}
  cva : CvaState := {}
  rcs : RcsState := {}
  srd : SrdState := {}
  lgc : LgcState := {}
  dsp : DspState := {}
  /-- The clause engines CE0 to CE3. -/
  cls : SMap CeState := []
  mem : MemState := {}
  mon : MonState := {}
  pws : PwsState := {}
  flt : FltState := {}
  boot : BootState := {}
  /-- What the part has driven out, newest first. -/
  out : List Output := []
  /-- The number of the next free value: the model's own field, not the spec's (assumption log 2). -/
  freeCtr : Nat := 0
  /-- The commands that are waiting, first in, first out. -/
  pending : List Instr := []
deriving DecidableEq, Repr, Inhabited

/-- The part right after reset (R505, R561): every register at its reset value, nothing listed in any memory, PORST_N just
asserted and not yet released, and no command waiting. -/
def State.reset : State := {}

end Sys2Proof.Machine
end

