-- ==== Sys2Proof/Machine/Ops.lean ====
section
/-! DEFINITION. Machine/Ops.lean: the named operations every meaning is written with: registers and their fields, counters,
64-bit masks, free values, outputs, time, and the event lines of clause engines and Yakea cores. -/

namespace Sys2Proof.Machine

/-- The outcome of every command. -/
abbrev Out := Host.Outcome State Fault Refusal

/-! ### Registers and fields -/

/-- The value a register holds (R552, R561). -/
def State.rd (s : State) (a : Nat) : Word := mapGet regReset s.regs a

/-- Set a register. -/
def State.wr (s : State) (a : Nat) (v : Word) : State := { s with regs := mapSet regReset s.regs a v }

/-- A field of a word. -/
def fieldOf (lo width : Nat) (v : Word) : Nat := v.toNat / 2 ^ lo % 2 ^ width

/-- A word with one field replaced. -/
def setField (lo width : Nat) (v : Word) (n : Nat) : Word :=
  BitVec.ofNat 32 (v.toNat % 2 ^ lo + n % 2 ^ width * 2 ^ lo + v.toNat / 2 ^ (lo + width) * 2 ^ (lo + width))

/-- A number read as two's complement of a width. -/
def signed (width n : Nat) : Int := if n % 2 ^ width < 2 ^ (width - 1) then (n % 2 ^ width : Nat) else ((n % 2 ^ width : Nat) : Int) - 2 ^ width

/-- An integer as a two's complement number of a width. -/
def unsigned (width : Nat) (i : Int) : Nat := (i % (2 ^ width : Int)).toNat

/-- The value of a field. -/
def State.fld (s : State) (f : Fld) : Nat := fieldOf f.lo f.width (s.rd f.reg)

/-- The value of a field in two's complement. -/
def State.sfld (s : State) (f : Fld) : Int := signed f.width (s.fld f)

/-- Is a field not zero? -/
def State.on (s : State) (f : Fld) : Bool := s.fld f != 0

/-- Set a field, the rest of its register unchanged. -/
def State.setFld (s : State) (f : Fld) (n : Nat) : State := s.wr f.reg (setField f.lo f.width (s.rd f.reg) n)

/-- Set a one-bit field. -/
def State.flag (s : State) (f : Fld) (b : Bool) : State := s.setFld f b.toNat

/-- Count in a saturating counter field. -/
def State.bump (s : State) (f : Fld) (n : Nat := 1) : State := s.setFld f (min (s.fld f + n) (2 ^ f.width - 1))

/-- Count in a counter field that wraps (the generation counters of R567). -/
def State.bumpWrap (s : State) (f : Fld) : State := s.setFld f (s.fld f + 1)

/-- The bits of a register that a test on the access type admits (R5, R560). -/
def accessBits (p : Access → Bool) (a : Nat) : Nat :=
  match regRow a with
  | some r => (r.fields.filter (fun f => p f.acc)).foldl (fun n f => n + (2 ^ f.width - 1) * 2 ^ f.lo) 0
  | none => 0

/-- Write the RW fields of a register; its other bits keep their value (R560). -/
def State.writeRw (s : State) (a : Nat) (v : Word) : State :=
  let m := BitVec.ofNat 32 (accessBits (fun t => t == .rw) a)
  s.wr a ((v &&& m) ||| (s.rd a &&& ~~~m))

/-- The 64 bits of a pair _LO, _HI. -/
def State.rd64 (s : State) (lo : Nat) : Nat := (s.rd lo).toNat + 2 ^ 32 * (s.rd (lo + 4)).toNat

/-- Set the 64 bits of a pair _LO, _HI. -/
def State.wr64 (s : State) (lo : Nat) (n : Nat) : State :=
  (s.wr lo (BitVec.ofNat 32 n)).wr (lo + 4) (BitVec.ofNat 32 (n / 2 ^ 32))

/-- A bit of a 64-bit pair. -/
def State.bit64 (s : State) (lo i : Nat) : Bool := (s.rd64 lo).testBit i

/-- A number with one bit set or cleared. -/
def putBit (n i : Nat) (b : Bool) : Nat :=
  if n.testBit i then (if b then n else n - 2 ^ i) else (if b then n + 2 ^ i else n)

/-- The bits set in a number below a bound, lowest first. -/
def bitsOf (bound n : Nat) : List Nat := (List.range bound).filter (fun i => n.testBit i)

/-- The number of bits set below a bound. -/
def popCount (bound n : Nat) : Nat := (bitsOf bound n).length

/-- A number whose bits a test gives. -/
def maskOf (bound : Nat) (p : Nat → Bool) : Nat :=
  (List.range bound).foldl (fun n i => if p i then n + 2 ^ i else n) 0

/-- CRC-8 with polynomial 0x07 and initial value 0x00 (R41, R556). -/
def crc8 (bytes : List Nat) : Nat :=
  bytes.foldl (fun c b => (List.range 8).foldl (fun c _ => if 128 ≤ c then Nat.xor (c * 2 % 256) 7 else c * 2)
    (Nat.xor c (b % 256))) 0

/-- The bytes of a number, most significant first. -/
def bytesOf (n k : Nat) : List Nat := (List.range k).map (fun i => n / 256 ^ (k - 1 - i) % 256)

/-- The number whose bytes are given most significant first. -/
def ofBytes (l : List Nat) : Nat := l.foldl (fun n b => n * 256 + b % 256) 0

/-! ### Free values and outputs -/

/-- The next free value, of w bits: the spec does not state this value. -/
def State.free (s : State) (w : Nat) : BitVec w := Config.freeValue w s.freeCtr

/-- The free values after this one are others. -/
def State.tookFree (s : State) : State := { s with freeCtr := s.freeCtr + 1 }

/-- Drive something out of the part. -/
def State.emit (s : State) (o : Output) : State := { s with out := o :: s.out }

/-- A number for each access path, as outputs name it. -/
def pathCode : Path → Nat
  | .rma => 0
  | .mspi => 1
  | .jtag => 2
  | .y n => 3 + n
  | .ce n => 7 + n
  | .dm c => 11 + c

/-! ### Time -/

/-- Ticks of 1.25 ns in a microsecond and a millisecond. -/
abbrev ticksUs : Nat := 800
abbrev ticksMs : Nat := 800000

/-- A PHC time in nanoseconds since its epoch. -/
def Phc.total (p : Phc) : Nat := p.sec * 1000000000 + p.ns

/-- A PHC time in units of 2^-32 ns. -/
def Phc.fine (p : Phc) : Nat := p.total * 2 ^ 32 + p.frac

/-- The PHC time of a count of 2^-32 ns: 48 bits of seconds (R23). -/
def Phc.ofFine (n : Nat) : Phc :=
  { sec := n / 2 ^ 32 / 1000000000 % 2 ^ 48, ns := n / 2 ^ 32 % 1000000000, frac := n % 2 ^ 32 }

/-- The PHC in nanoseconds. -/
def State.phcNs (s : State) : Nat := s.time.phc.total

/-- The effective increment in 2^-32 ns: the written value clamped to 1.25 ns ± 50 ppm (R24). -/
def State.increment (s : State) : Nat :=
  max 0x013FFBE76D (min 0x0140041893 (s.fld Fld.TIM_INCR_HI_INT * 2 ^ 32 + s.fld Fld.TIM_INCR_LO_FRAC))

/-- Set the ns and seconds the PHC holds. -/
def State.setPhc (s : State) (p : Phc) : State := { s with time := { s.time with phc := p } }

/-- Change what TIM keeps for a facet. -/
def State.updFacet (s : State) (k : Nat) (f : FacetTime → FacetTime) : State :=
  { s with time := { s.time with facets := s.time.facets.upd k f } }

/-- Change a carrier timeline. -/
def State.updLine (s : State) (c : Nat) (f : Timeline → Timeline) : State :=
  { s with time := { s.time with lines := s.time.lines.upd c f } }

def State.facetT (s : State) (k : Nat) : FacetTime := s.time.facets.at k

def State.line (s : State) (c : Nat) : Timeline := s.time.lines.at c

/-- Is any facet anchored (R55)? -/
def State.anyAnchored (s : State) : Bool := (List.range 4).any (fun k => (s.facetT k).anchored)

/-! ### Event lines -/

/-- An event line of a clause engine latches into its pending set; one that is already pending merges and counts (R394). -/
def State.ceEvent (s : State) (e line : Nat) : State :=
  let f := Fld.CLS_CE_EVPEND_PEND e
  if (s.fld f).testBit line then s.bump (Fld.CLS_CE_CNT1_EV_MERGE e)
  else s.setFld f (s.fld f + 2 ^ line)

/-! ### Modes -/

/-- Is the part in the T1640 persona (R325)? -/
def State.persona (s : State) : Bool := s.on Fld.BOOT_STATUS_PERSONA

/-- Is RCS in state LOCKED (R281)? -/
def State.rcsLocked (s : State) : Bool := s.fld Fld.RCS_STATUS_STATE == 3

/-- The committed value of a field of a shadow group (R566). -/
def State.active (s : State) (f : Fld) : Nat := fieldOf f.lo f.width (mapGet regReset s.acc.active f.reg)

/-- The committed value of a signed field of a shadow group. -/
def State.sactive (s : State) (f : Fld) : Int := signed f.width (s.active f)

/-- The committed 48-bit value of a pair of a shadow group, signed. -/
def State.sactive48 (s : State) (lo hi : Fld) : Int := signed 48 (s.active lo + 2 ^ 32 * s.active hi)

end Sys2Proof.Machine
end

