-- ==== Sys2Proof/Machine/Pmon.lean ====
section
/-! DEFINITION. Machine/Pmon.lean: the performance-monitor slots (R451, R452). -/

namespace Sys2Proof.Machine

/-- Change what MON, FEN, PMON and the Locket keep. -/
def State.updMon (s : State) (f : MonState → MonState) : State := { s with mon := f s.mon }

/-- The bin of a value: bin i covers LO + i × 2^W on; below LO bin 0, above the top bin 31. -/
def State.pmonBin (s : State) (m : Nat) (v : Int) : Nat :=
  min 31 ((v - s.sfld (Fld.PMON_LO_LO m)) / 2 ^ s.fld (Fld.PMON_CFG_W m)).toNat

/-- Slot m takes a sample. -/
def pmonAdd (s : State) (m : Nat) (v : Int) : State :=
  let b := s.pmonBin m v
  s.updMon (fun x => { x with pmon := x.pmon.upd m (fun a =>
    { a with count := a.count + 1, sum := a.sum + v
             min := if a.count = 0 then v else min a.min v
             max := if a.count = 0 then v else max a.max v
             bins := a.bins.upd b (fun n => n + 1) }) })

/-- Does slot m sample quantity `src` of `arg`? A quantity without ARG names none. -/
def State.pmonTakes (s : State) (m src : Nat) (arg : Option Nat) : Bool :=
  s.on (Fld.PMON_CFG_EN m) && s.fld (Fld.PMON_CFG_SRC m) == src
    && match arg with
       | some a => s.fld (Fld.PMON_CFG_ARG m) == a
       | none => true

/-- A sample of a quantity arises (R451). -/
def pmonSample (s : State) (src : Nat) (arg : Option Nat) (v : Int) : State :=
  (List.range 64).foldl (fun s m => if s.pmonTakes m src arg then pmonAdd s m v else s) s

/-- Nanoseconds of a time in units of 2^-32 ns. -/
def nsOf (fine : Int) : Int := fine / 2 ^ 32

/-- Nanoseconds of a number of ticks. -/
def tickNs (n : Nat) : Int := (n * 5 / 4 : Nat)

/-- A latched value: 32 bits in two's complement. The spec does not state what a value outside them latches as: it is a free value
(assumption log 2). -/
def pmonWord (s : State) (f : Fld) (v : Int) : State :=
  if -(2 ^ 31 : Int) ≤ v && v < 2 ^ 31 then s.setFld f (unsigned 32 v) else (s.setFld f (s.free 32).toNat).tookFree

/-- The end of a period of slot m (R452). -/
def pmonLatch (s : State) (m : Nat) : State :=
  let a := s.mon.pmon.at m
  let t := pmonWord (pmonWord s (Fld.PMON_MIN_MIN m) a.min) (Fld.PMON_MAX_MAX m) a.max
  let t := pmonWord t (Fld.PMON_MEAN_MEAN m) (if a.count = 0 then 0 else (2 * a.sum + a.count) / (2 * a.count))
  let t := t.setFld (Fld.PMON_COUNT_COUNT m) (min a.count (2 ^ 32 - 1))
  let t := (List.range 32).foldl (fun t i => t.setFld (Fld.PMON_HIST_CNT m i) (min (a.bins.at i) (2 ^ 32 - 1))) t
  let t := (t.bumpWrap (Fld.PMON_SEQ_SEQ m)).ceEvent 3 8
  t.updMon (fun x => { x with pmon := x.pmon.put m { since := a.since + max 1 (s.fld (Fld.PMON_PER_PERIOD m)) * ticksUs } })

/-- PMON_PERIOD_END (R452). -/
def execPmonPeriodEnd (m : Fin 64) (s : State) : Out :=
  if s.on (Fld.PMON_CFG_EN m) && (s.mon.pmon.at m).since + max 1 (s.fld (Fld.PMON_PER_PERIOD m)) * ticksUs ≤ s.time.now then
    .next (pmonLatch s m)
  else .next s

/-- A write of PMONm_CFG (R452): with EN at 1 only EN is taken; setting EN starts a period. -/
def writePmonCfg (s : State) (m : Nat) (v : Word) : State :=
  if s.on (Fld.PMON_CFG_EN m) then s.flag (Fld.PMON_CFG_EN m) (v.getLsbD 31)
  else
    let t := s.writeRw (Reg.PMON_CFG m) v
    if t.on (Fld.PMON_CFG_EN m) then t.updMon (fun x => { x with pmon := x.pmon.put m { since := s.time.now } }) else t

/-- The occupancies sampled every 1 µs: the U-plane buffer in KiB and the section store. -/
def pmonTick (s : State) : State :=
  if s.time.now % ticksUs != 0 then s
  else pmonSample (pmonSample s 11 none (s.fld Fld.FPE_UBUF_LVL_LEVEL)) 12 none (s.fld Fld.FPE_SEC_LVL_LEVEL)

end Sys2Proof.Machine
end

