-- ==== Sys2Proof/Machine/Quiet.lean ====
section
/-! DEFINITION. Machine/Quiet.lean: what each DAC emits (R234), the quiet sources and the release wait (R239), the TDD
strobes (R448, R455), and the one operation that settles them after a change. -/

namespace Sys2Proof.Machine

/-- The rows of R234. -/
inductive DacRow where
  | parked | steered | quiet | ramp | data
deriving DecidableEq, Repr

/-- Is facet k asleep in SLOT_SLEEP or a deeper state (R234 row 1, R459)? -/
def State.facetAsleep (s : State) (k : Nat) : Bool :=
  s.pws.slotSleep.testBit k || s.pws.slotWaking.testBit k || s.pws.facetsOff

/-- The internal quiet asserted on a whole facet: part scope or facet scope (R487, R520), or the sleep clause's (R465). -/
def State.facetQuiet (s : State) (k : Nat) : Bool :=
  s.boot.txHold || s.pws.quiet || s.on Fld.FLT_QUIET_PART || (s.fld Fld.FLT_QUIET_FACET).testBit k

/-- Does a quiet source hold path p (R234 row 3): TX_QUIET_N, the internal quiet, RCS not LOCKED until the anchor (R284),
or realignment (R56)? -/
def State.quietHeld (s : State) (p : Nat) : Bool :=
  s.on Fld.CVA_STATUS_QPIN || s.facetQuiet (p / 16) || s.bit64 Reg.FLT_QPATH_LO p
    || !(s.rcsLocked && (s.facetT (p / 16)).anchored) || s.cva.realignQuiet.at (p / 16)

/-- Does row 1 of R234 hold for path p? -/
def State.parkedPath (s : State) (p : Nat) : Bool :=
  !s.on (Fld.CVA_FACET_CFG_EN (p / 16)) || !s.on (Fld.CVA_FACET_STAT_READY (p / 16)) || !s.on (Fld.CVA_TX_CFG_EN p)
    || s.cva.recal == some (false, p) || s.pws.symSleep.testBit p || s.facetAsleep (p / 16)

/-- The row of R234 that holds for path p. -/
def State.dacRow (s : State) (p : Nat) : DacRow :=
  if s.parkedPath p then .parked
  else if s.cva.steer == some p then .steered
  else if s.quietHeld p || (s.cva.relWait.at p).isSome then .quiet
  else if (s.cva.trans.at p).isSome then .ramp
  else .data

/-! ### Strobes -/

/-- Facets whose quiet drops strobe t (R487): its field of FLT_STBMAP. -/
def State.strobeMap (s : State) (t : Nat) : Nat :=
  if t < 8 then (s.rd Reg.FLT_STBMAP0).toNat / 2 ^ (4 * t) % 16 else (s.rd Reg.FLT_STBMAP1).toNat / 2 ^ (4 * (t - 8)) % 16

/-- Is strobe t a PA enable (R448)? -/
def State.paEnable (s : State) (t : Nat) : Bool := s.fld (Fld.FEN_STB_CFG_KIND t) == 1

/-- Does the internal quiet of R448 row 1 hold strobe t: part-scope quiet, or facet-scope quiet or a realignment of R53 of
a facet its map names? -/
def State.strobeQuiet (s : State) (t : Nat) : Bool :=
  s.boot.txHold || s.on Fld.FLT_QUIET_PART || (List.range 4).any (fun k =>
    (s.strobeMap t).testBit k && ((s.fld Fld.FLT_QUIET_FACET).testBit k || ((s.facetT k).realigning && (s.facetT k).alone)))

/-- Is a realignment of a step muting (R448 row 2)? One of R53 leaves the strobes their patterns. -/
def State.realignMute (s : State) : Bool :=
  (List.range 32).any (fun c => (s.line c).muted && (s.facetT (c / 8)).realigning && !(s.facetT (c / 8)).alone)

/-- The time for which strobe t has been 1 over the current 10 µs bin and the 1,000 bins before it, in ticks (R455). -/
def State.dutyTicks (s : State) (t : Nat) : Nat :=
  let from_ := (s.time.now / 8000 - 1000) * 8000
  ((s.mon.onSpans.at t).map (fun p => p.2 - max p.1 from_)).foldl (· + ·) 0
    + match s.mon.onSince.at t with
      | some b => s.time.now - max b from_
      | none => 0

/-- The level strobe t takes by rows 2 and 4 of R448 and what makes it CUT: (level, cut, duty limit reached). -/
def State.strobeLevel (s : State) (t : Nat) : Bool × Bool × Bool :=
  let pa := s.paEnable t
  let idle := !pa && s.on (Fld.FEN_STB_CFG_IDLE t)
  let cut := (s.fld Fld.FEN_STB_STAT_CUT).testBit t
  let pat := if s.mon.stepped.testBit t then s.mon.pattern.testBit t else idle
  let want := if s.realignMute then idle else if pa && cut then false else pat
  if pa && s.strobeQuiet t then (false, true, false)
  else if pa && want && s.fld Fld.LKT_DUTY_DUTY_MAX < 1000 && s.dutyTicks t ≥ s.fld Fld.LKT_DUTY_DUTY_MAX * 8000 then (false, true, true)
  else (want, pa && cut, false)

/-- Bring one strobe to its level: LEVEL, CUT, DUTY_CLIP and the record of when it was 1. -/
def settleStrobe (s : State) (t : Nat) : State :=
  let (lvl, cut, clip) := s.strobeLevel t
  let was := (s.fld Fld.FEN_STB_STAT_LEVEL).testBit t
  let newlyCut := clip && !(s.fld Fld.FEN_STB_STAT_CUT).testBit t
  let s := s.setFld Fld.FEN_STB_STAT_LEVEL (putBit (s.fld Fld.FEN_STB_STAT_LEVEL) t lvl)
  let s := s.setFld Fld.FEN_STB_STAT_CUT (putBit (s.fld Fld.FEN_STB_STAT_CUT) t cut)
  let s := if newlyCut then s.bump (Fld.FEN_STB_CFG_DUTY_CLIP t) else s
  if lvl && !was then { s with mon := { s.mon with onSince := s.mon.onSince.put t (some s.time.now) } }
  else if was && !lvl then
    match s.mon.onSince.at t with
    | some b => { s with mon := { s.mon with
        onSince := s.mon.onSince.put t none
        onSpans := s.mon.onSpans.upd t (fun l =>
          (b, s.time.now) :: l.filter (fun p => (s.time.now / 8000 - 1000) * 8000 < p.2)) } }
    | none => s
  else s

/-- Bring every strobe to its level. -/
def settleStrobes (s : State) : State := (List.range 16).foldl settleStrobe s

/-! ### Settling -/

/-- After a change from `old`: a path newly held by a quiet source leaves its release wait, and one whose last source ended
starts it (R239); an entry into quiet counts in QUIET_EVT (R238). -/
def settlePath (old s : State) (p : Nat) : State :=
  let s1 :=
    if s.quietHeld p then
      if (s.cva.relWait.at p).isSome then { s with cva := { s.cva with relWait := s.cva.relWait.put p none } } else s
    else if old.quietHeld p then { s with cva := { s.cva with relWait := s.cva.relWait.put p (some s.time.now) } }
    else s
  if (old.dacRow p == .data || old.dacRow p == .ramp) && s1.dacRow p == .quiet then
    s1.bump (Fld.CVA_TX_CNT0_QUIET_EVT p)
  else s1

/-- Settle the DACs and the strobes after a change from `old` to `s`. -/
def settle (old s : State) : State :=
  settleStrobes ((List.range 64).foldl (settlePath old) s)

end Sys2Proof.Machine
end

