-- ==== Sys2Proof/Machine/FaultHub.lean ====
section
/-! DEFINITION. Machine/FaultHub.lean: event indications (R101 to R103), the resets (R505), and the Fault Hub: sources,
classes, reactions, elision, recovery and lockout (R482 to R499, R573). -/

namespace Sys2Proof.Machine

/-! ### Event indications -/

/-- Change the fronthaul engine's own state. -/
def State.updFpe (s : State) (f : FpeState → FpeState) : State := { s with fpe := f s.fpe }

/-- The element of an event (R101): the flow's eAxC ID for a flow event, 0xFFFF for an event of the whole part. -/
def State.evElem (s : State) (cease : Bool) (num info : Nat) (flow : Option Nat) : EvElem :=
  { elem := match flow with
      | some f => s.fld (Fld.FPE_FLOW_CFG_EAXC f)
      | none => 0xFFFF
    cease, num, info, flow, us := s.time.now / ticksUs }

/-- Is a fault event with this number and information raised? -/
def State.isRaised (s : State) (num info : Nat) : Bool := s.fpe.raised.any (fun e => e.num == num && e.info == info)

/-- Raise a fault event (R101); in the persona no event indication is sent (R327). -/
def raiseEvent (s : State) (num info : Nat) (flow : Option Nat := none) : State :=
  if s.persona || s.isRaised num info then s
  else
    let e := s.evElem false num info flow
    s.updFpe (fun f => { f with raised := f.raised ++ [e], evPend := f.evPend ++ [e] })

/-- Cease a fault event that is raised (R101). -/
def ceaseEvent (s : State) (num info : Nat) (flow : Option Nat := none) : State :=
  if s.isRaised num info then
    let e := s.evElem true num info flow
    s.updFpe (fun f => { f with
      raised := f.raised.filter (fun r => !(r.num == num && r.info == info)), evPend := f.evPend ++ [e] })
  else s

/-- Send a notification (R101): it is not acknowledged and never ceased. -/
def notifyEvent (s : State) (num info : Nat) (flow : Option Nat := none) : State :=
  if s.persona then s else s.updFpe (fun f => { f with evPend := f.evPend ++ [s.evElem false num info flow] })

/-! ### Subsystem resets -/

/-- Reset a Yakea core under R355: its registers take their reset values and it halts. Its mailboxes and interrupt state
empty with them. -/
def resetCore (s : State) (n : Nat) : State :=
  let s := { s with dsp := { s.dsp with cores := s.dsp.cores.put n { resetAt := s.time.now, wdogFrom := s.time.now } } }
  let s := s.setFld Fld.DSP_STATUS_HALTED (putBit (s.fld Fld.DSP_STATUS_HALTED) n true)
  let s := s.setFld Fld.DSP_STATUS_FAULTED (putBit (s.fld Fld.DSP_STATUS_FAULTED) n false)
  let s := s.setFld Fld.DSP_STATUS_WAITING (putBit (s.fld Fld.DSP_STATUS_WAITING) n false)
  s.setFld Fld.DSP_CTRL_RUN (putBit (s.fld Fld.DSP_CTRL_RUN) n false)

/-- Reset a clause engine: registers and PC, pending events cleared, back at its dispatcher (R401). -/
def resetEngine (s : State) (e : Nat) : State :=
  let s := { s with cls := s.cls.upd e (fun c => { c with g := [], pc := 0, z := false, n := false, tmo := false, be := false,
                                                          waite := none, runFrom := s.time.now }) }
  let s := s.setFld (Fld.CLS_CE_EVPEND_PEND e) 0
  let s := s.setFld (Fld.CLS_CE_STAT_SLOT e) 0
  s.setFld (Fld.CLS_CE_STAT_STATE e) (s.fld (Fld.CLS_CE_CTRL_RUN e))

/-! ### Resets (R505) -/

/-- What a reset keeps of the registers: the Fault Hub's table (R483), and CHAL_FAIL but at PORST_N; PMIC_EN but at PORST_N;
the straps kept by a full reset or reboot (R534). -/
def keptReg (porst : Bool) (a : Nat) : Bool :=
  !porst && Reg.FLT_SRC_CODE 0 ≤ a && a < Reg.FLT_SRC_CODE 64 && a % 16 < 8

/-- Write flash bytes. -/
def putFlash (m : SMap Byte) (a : Nat) (l : List Byte) : SMap Byte :=
  (l.zip (List.range l.length)).foldl (fun m e => mapSet (fun _ => 0xFF) m (a + e.2) e.1) m

/-- The start of the calibration set (R507): the last 256 KiB. -/
def State.calBase (s : State) : Nat := s.boot.flashSize - 0x40000

/-- The flash after a reset ends an operation in progress: an interrupted save leaves the set bad (R519), its MAGIC there and no
valid LENGTH; of a page or sector in work the spec states nothing, so its bytes are free (assumption log 2). -/
def flashAfter (s : State) : SMap Byte :=
  let junk (a n : Nat) : SMap Byte :=
    putFlash s.boot.flash a ((List.range n).map (fun i => BitVec.ofNat 8 ((s.free (8 * n)).toNat / 256 ^ i)))
  match s.boot.op with
  | some (.calSave _) =>
    putFlash (s.boot.flash.filter (fun e => e.1 < s.calBase || s.calBase + 0x40000 ≤ e.1)) s.calBase [0x43, 0x41, 0x4C, 0x31]
  | some (.program a) => junk a 256
  | some (.erase a) => junk a 65536
  | _ => s.boot.flash

/-- The part under a reset (R505, R535): every register at its reset value, memories lost, and the boot quiet of R520
held. The Fault Hub's sources, CHAL_FAIL and the runtime repair table survive every reset but PORST_N; the flash and OTP
survive all. The model's own records (outputs, commands, real time, free-value count) go on. -/
def resetPart (s : State) (hold : ResetHold) : State :=
  let porst := hold == .porst
  let t : State :=
    { regs := mapKeep (keptReg porst) s.regs
      time := { now := s.time.now }
      dsp := { cores := (List.range 4).foldl (fun m n => m.put n { resetAt := s.time.now, wdogFrom := s.time.now }) [] }
      flt := if porst then {} else { src := s.flt.src, idleCount := s.flt.idleCount, overflow := s.flt.overflow,
                                     fullReset := s.flt.fullReset }
      mem := if porst then {} else s.mem.kept
      boot := { hold, env := s.boot.env, flashSize := s.boot.flashSize, flash := flashAfter s,
                imgHash := s.boot.imgHash, userHash := s.boot.userHash, aesKey := s.boot.aesKey }
      -- a seal in progress leaves the OTP partly written (R456)
      mon := if s.on Fld.LKT_STAT_SEAL_BUSY then { otp := some [], otpBad := true }
             else { otp := s.mon.otp, otpBad := s.mon.otpBad }
      acc := { jtag := s.acc.jtag }
      out := s.out
      freeCtr := s.freeCtr + 1
      pending := s.pending }
  let t := if porst then t else t.setFld Fld.LKT_STAT_CHAL_FAIL (s.fld Fld.LKT_STAT_CHAL_FAIL)
  let t := if porst then t else (t.setFld Fld.PWS_PMIC_EN (s.fld Fld.PWS_PMIC_EN)).setFld Fld.PWS_PMIC_PG (s.fld Fld.PWS_PMIC_PG)
  let t := if hold == .full || hold == .reboot then t.flag Fld.LKT_STAT_JTAG_OPEN (s.on Fld.LKT_STAT_JTAG_OPEN) else t
  let t := t.flag Fld.CVA_STATUS_QPIN (s.on Fld.CVA_STATUS_QPIN)
  let t := if hold == .full || hold == .reboot then t.wr Reg.BOOT_STRAP (s.rd Reg.BOOT_STRAP) else t
  let t := t.wr Reg.BOOT_DIEID_LO (s.rd Reg.BOOT_DIEID_LO)
  let t := t.wr Reg.BOOT_DIEID_HI (s.rd Reg.BOOT_DIEID_HI)
  t.setFld Fld.BOOT_STATUS_CAUSE (match hold with
    | .none => 0 | .porst => 0 | .resetn => 1 | .full => 2 | .reboot => 3)

/-! ### Fault kinds (R490) -/

/-- The classes of R482. -/
inductive FaultClass where
  | corrected | contained | fatal
deriving DecidableEq, Repr

/-- The CLASS field of a fault code (R484). -/
def FaultClass.code : FaultClass → Nat
  | .corrected => 1 | .contained => 2 | .fatal => 3

/-- The scope of an internal quiet (R487). -/
inductive QuietScope where
  | no | path (p : Nat) | facet (k : Nat) | part
deriving DecidableEq, Repr

/-- The reactions of a report (R486). -/
structure Reactions where
  cls : FaultClass
  n : Bool := false
  quiet : QuietScope := .no
  elide : Option (Bool × Nat) := none   -- RX?, path
  shut : Nat := 0                       -- facets shut down (F), as bits
  reinit : Bool := false                -- S
  reset : Bool := false                 -- R
deriving DecidableEq, Repr

/-- The reactions of a kind and unit (R490). -/
def reactionsOf (s : State) (kind unit : Nat) : Reactions :=
  match kind with
  | 0x01 | 0x02 | 0x03 => { cls := .corrected }
  | 0x04 => { cls := .contained, n := true }
  | 0x05 => if unit == 8 || unit == 10 then { cls := .fatal, n := true, quiet := .part, reset := true }
            else { cls := .contained, n := true }
  | 0x06 => { cls := .contained, n := true }
  | 0x10 | 0x11 | 0x12 => { cls := .corrected, quiet := .path (unit % 64), elide := some (false, unit % 64) }
  | 0x13 => { cls := .contained, n := true }
  | 0x14 => if unit.testBit 6 then { cls := .corrected, elide := some (true, unit % 64) }
            else { cls := .corrected, quiet := .path (unit % 64), elide := some (false, unit % 64) }
  | 0x15 | 0x16 => { cls := .contained, n := true }
  | 0x17 => if unit.testBit 6 then { cls := .contained, n := true }
            else { cls := .contained, n := true, quiet := .path (unit % 64) }
  | 0x18 => { cls := .contained, n := true, quiet := .facet (unit % 4), shut := 2 ^ (unit % 4), reinit := true }
  | 0x20 | 0x23 | 0x24 | 0x25 | 0x26 => { cls := .contained, n := true }
  | 0x21 | 0x22 => { cls := .corrected }
  | 0x30 | 0x31 => { cls := .corrected }
  | 0x32 => { cls := .contained, n := true }
  | 0x40 | 0x41 => { cls := .contained, n := true, reinit := true }
  | 0x42 => if unit == 0 then { cls := .fatal, n := true, quiet := .part, reset := true } else { cls := .contained, n := true }
  | 0x43 => if unit == 0 then { cls := .fatal, n := true, quiet := .part, reset := true }
            else { cls := .contained, n := true, reinit := true }
  | 0x44 => { cls := .contained, n := true, quiet := if s.on Fld.FLT_HOST_QUIET then .part else .no }
  | 0x50 | 0x52 | 0x53 | 0x55 | 0x57 => { cls := .contained, n := true }
  | 0x51 => { cls := .fatal, n := true, quiet := .part, shut := 15 }
  | 0x54 => { cls := .fatal, n := true, quiet := .part }
  | 0x56 => { cls := .fatal, n := true }
  | 0x60 => { cls := .fatal, n := true, quiet := .part, reset := true }
  | _ => { cls := .contained, n := true }

/-- The condition kinds of R573. -/
def conditionKind (kind : Nat) : Bool :=
  [0x20, 0x25, 0x26, 0x32, 0x15, 0x16, 0x30, 0x31, 0x44, 0x50, 0x52, 0x51, 0x53, 0x57, 0x54].contains kind

/-- The fault code of a kind and unit (R484). -/
def faultCode (s : State) (kind unit : Nat) : Nat :=
  kind % 256 * 2 ^ 24 + (reactionsOf s kind unit).cls.code * 2 ^ 22 + unit % 2 ^ 16

/-- The kind and unit of a fault code. -/
def codeKind (c : Nat) : Nat := c / 2 ^ 24
def codeUnit (c : Nat) : Nat := c % 2 ^ 16

/-! ### The source table -/

/-- STATE of an entry: 0 IDLE, 1 ACTIVE, 2 LATCHED. -/
def State.srcState (s : State) (i : Nat) : Nat := s.fld (Fld.FLT_SRC_STAT_STATE i)

def State.srcCode (s : State) (i : Nat) : Nat := s.fld (Fld.FLT_SRC_CODE_CODE i)

/-- The codes whose reactions are in force: those of ACTIVE and LATCHED entries, and the overflow reactions of R483. -/
def State.liveCodes (s : State) : List Nat :=
  ((List.range 64).filter (fun i => s.srcState i != 0)).map s.srcCode ++ s.flt.overflow.map (·.toNat)

/-- Change an entry. -/
def State.updSrc (s : State) (i : Nat) (f : SrcEntry → SrcEntry) : State :=
  { s with flt := { s.flt with src := s.flt.src.upd i f } }

/-- The paths of a direction that the Fault Hub elides: those of entries that took effect (R492). -/
def State.hubElides (s : State) (rx : Bool) (p : Nat) : Bool :=
  (List.range 64).any (fun i => s.srcState i != 0 && (s.flt.src.at i).elides
    && (reactionsOf s (codeKind (s.srcCode i)) (codeUnit (s.srcCode i))).elide == some (rx, p))

/-- Bring the effective elided masks and their counts to the sum of the Fault Hub's masks and BFE_FORCE (R124). -/
def refreshElided (s : State) : State :=
  let tx := maskOf 64 (fun p => s.bit64 Reg.FLT_HUB_TX_LO p || s.bit64 Reg.BFE_FORCE_TX_LO p)
  let rx := maskOf 64 (fun p => s.bit64 Reg.FLT_HUB_RX_LO p || s.bit64 Reg.BFE_FORCE_RX_LO p)
  let changed := popCount 64 (Nat.xor tx (s.rd64 Reg.BFE_ELIDE_TX_LO)) + popCount 64 (Nat.xor rx (s.rd64 Reg.BFE_ELIDE_RX_LO))
  let s := s.wr64 Reg.BFE_ELIDE_TX_LO tx
  let s := s.wr64 Reg.BFE_ELIDE_RX_LO rx
  let s := s.setFld Fld.BFE_STATUS_ELIDED_TX (popCount 64 tx)
  let s := s.setFld Fld.BFE_STATUS_ELIDED_RX (popCount 64 rx)
  if changed = 0 then s else s.bump Fld.BFE_CNT2_ELISIONS changed

/-- Bring the Fault Hub's registers to the reactions in force: quiet scopes, shut facets, elision masks, FAULT_N and the
summary (R487, R488, R492, R498). -/
def refreshHub (s : State) : State :=
  let rs := s.liveCodes.map (fun c => reactionsOf s (codeKind c) (codeUnit c))
  let s := s.flag Fld.FLT_QUIET_PART (rs.any (fun r => r.quiet == .part))
  let shut := (List.range 4).filter (fun k => rs.any (fun r => r.shut.testBit k))
  let s := s.setFld Fld.FLT_QUIET_FACET (maskOf 4 (fun k => shut.contains k || rs.any (fun r => r.quiet == .facet k)))
  let s := s.setFld Fld.FLT_QUIET_SHUT (maskOf 4 (fun k => shut.contains k))
  let s := s.wr64 Reg.FLT_QPATH_LO (maskOf 64 (fun p => rs.any (fun r => r.quiet == .path p)))
  let s := s.wr64 Reg.FLT_HUB_TX_LO (maskOf 64 (s.hubElides false))
  let s := s.wr64 Reg.FLT_HUB_RX_LO (maskOf 64 (s.hubElides true))
  let s := refreshElided s
  let corr := s.on Fld.FLT_CTRL_FAULTN_CORR
  let fn := rs.any (fun r => r.cls != .corrected || corr) || !s.flt.overflow.isEmpty || s.flt.fullReset
    || s.on Fld.BOOT_STATUS_BOOT_FAIL
    || (s.persona && Nat.land s.lgc.alarm (0xFFFF - s.lgc.alarmMask % 0x10000) != 0)
  let s := { s with flt := { s.flt with faultN := fn } }
  let s := s.flag Fld.FLT_STATUS_FAULT_N fn
  let s := s.flag Fld.FLT_STATUS_FATAL (rs.any (fun r => r.cls == .fatal))
  let s := s.setFld Fld.FLT_STATUS_ACTIVE ((List.range 64).filter (fun i => s.srcState i == 1)).length
  s.setFld Fld.FLT_STATUS_LATCHED ((List.range 64).filter (fun i => s.srcState i == 2)).length

/-- The entry of a source that the table already knows by its code. -/
def State.knownEntry (s : State) (code : Nat) : Option Nat :=
  (List.range 64).find? (fun i => s.srcCode i == code && code != 0)

/-- The entry a new source takes: the IDLE entry that has been IDLE longest (R483). -/
def State.freeEntry (s : State) : Option Nat :=
  (List.range 64).foldl (fun best i =>
    if s.srcState i != 0 then best
    else match best with
      | none => some i
      | some j => if (s.flt.src.at i).idleOrder < (s.flt.src.at j).idleOrder then some i else best) none

/-- Would eliding path p of a direction exceed a limit of R492: more than 4 in its facet or 8 in the part, over the
effective mask? A path that is set already counts once. -/
def State.elideExceeds (s : State) (rx : Bool) (p : Nat) : Bool :=
  let m := s.rd64 (if rx then Reg.BFE_ELIDE_RX_LO else Reg.BFE_ELIDE_TX_LO)
  let m := putBit m p true
  popCount 64 m > 8 || popCount 16 (m / 2 ^ (16 * (p / 16))) > 4

/-- Write a log record, or count it lost (R485). -/
def logFault (s : State) (code : Nat) : State :=
  if s.flt.log.length < 32 then
    { s with flt := { s.flt with
      log := s.flt.log ++ [{ code := BitVec.ofNat 32 code, sec := s.time.phc.sec % 2 ^ 32, ns := s.time.phc.ns }] } }
  else s.bump Fld.FLT_CNT2_LOG_OVF

/-- Count an occurrence in its class's counter. -/
def countClass (s : State) : FaultClass → State
  | .corrected => s.bump Fld.FLT_CNT1_CORRECTED
  | .contained => s.bump Fld.FLT_CNT1_CONTAINED
  | .fatal => s.bump Fld.FLT_CNT2_FATAL

/-- Is event 0x000 sent for a source (R499)? -/
def State.reports (s : State) (r : Reactions) : Bool := r.n || (r.cls == .corrected && s.on Fld.FLT_CTRL_EVT_CORR)

/-- Facet shutdown and restart (R488): READY follows the facet's EN while it is not shut down. -/
def shutFacets (s : State) (mask : Nat) : State :=
  (List.range 4).foldl (fun s k => if mask.testBit k then s.flag (Fld.CVA_FACET_STAT_READY k) false else s) s

/-- Reaction S (R490): the failed core or engine is reset; its reload ends with SUBSYSTEM_REINIT_DONE. The capture pages
and channels of a failed core are released. -/
def reinit (s : State) (kind unit : Nat) : State :=
  match kind with
  | 0x40 | 0x41 =>
    let s := resetCore s (unit % 4)
    let s := { s with dsp := { s.dsp with reload := putBit s.dsp.reload (unit % 4) true } }
    { s with mem := s.mem.releaseOwner (4 + unit % 4) }
  | 0x43 => resetEngine s (unit % 4)
  | _ => s

/-- The persona's alarm bit that a fault sets (R348): TX_FAULT for a CONTAINED or FATAL fault of a TX path, DPD or supervision,
TEMP for a temperature fault; none for any other. -/
def personaAlarm (kind unit : Nat) : Option Nat :=
  if [0x13, 0x15, 0x16].contains kind || (kind == 0x17 && unit < 64) then some 3
  else if kind == 0x50 || kind == 0x51 then some 2
  else none

/-- Set an alarm bit in the persona (R348). -/
def setAlarm (s : State) (bit : Nat) : State :=
  if s.persona then { s with lgc := { s.lgc with alarm := putBit s.lgc.alarm bit true } } else s

/-- One occurrence of a source (R483, R485, R487 to R493, R495). `latch` records it LATCHED at once (R493). -/
def recordFault (s : State) (kind unit : Nat) (latch elides : Bool) : State :=
  let code := faultCode s kind unit
  let r := reactionsOf s kind unit
  let s := logFault (countClass s r.cls) code
  let s := match personaAlarm kind unit with
    | some b => setAlarm s b
    | none => s
  match s.knownEntry code, s.freeEntry with
  | none, none =>
    let s := s.bump Fld.FLT_CNT2_SRC_OVF
    { s with flt := { s.flt with overflow := s.flt.overflow ++ [BitVec.ofNat 32 code] } }
  | known, free =>
    let i := known.getD (free.getD 0)
    let was := if known.isSome then s.srcState i else 0
    let s := if known.isSome then s
             else ((s.wr (Reg.FLT_SRC_STAT i) 0).updSrc i (fun _ => {})).wr (Reg.FLT_SRC_CODE i) (BitVec.ofNat 32 code)
    let s := s.updSrc i (fun e => { e with last := s.time.now, cond := conditionKind kind, elides := e.elides || elides })
    let s := s.bump (Fld.FLT_SRC_STAT_OCCUR i)
    let s := if was == 2 then s
             else s.setFld (Fld.FLT_SRC_STAT_STATE i) (if latch then 2 else 1)
    let s := if latch && was != 2 then s.bump Fld.FLT_CNT0_LATCHES else s
    let s := if s.reports r then raiseEvent s 0x000 code else s
    let s := if r.reinit && kind != 0x18 then reinit s kind unit else s
    let s := shutFacets s r.shut
    if r.reset && was != 2 then
      { resetPart s .full with flt := { (resetPart s .full).flt with fullReset := true } }
    else s

/-- A report to the Fault Hub (R485): an elision that would exceed a limit is recorded as ELIDE_LIMIT, which is latched
at once (R490, R493). -/
def reportFault (s : State) (kind unit : Nat) : State :=
  let r := reactionsOf s kind unit
  let t := match r.elide with
    | some (rx, p) =>
      if s.elideExceeds rx p then recordFault s 0x17 (p + if rx then 64 else 0) true false
      else recordFault s kind unit false true
    | none => recordFault s kind unit (kind == 0x17) false
  settle s (refreshHub t)

/-- An evaluation that finds a reported condition still present refreshes its source (R573); the first finding is an
occurrence. -/
def reportCondition (s : State) (kind unit : Nat) : State :=
  match s.knownEntry (faultCode s kind unit) with
  | some i => if s.srcState i != 0 && (s.flt.src.at i).cond then s.updSrc i (fun e => { e with last := s.time.now })
              else reportFault s kind unit
  | none => reportFault s kind unit

/-- A finding refreshes a source whose condition stands (R573), and nothing else. -/
def refreshCondition (s : State) (kind unit : Nat) : State :=
  match s.knownEntry (faultCode s kind unit) with
  | some i => if s.srcState i != 0 && (s.flt.src.at i).cond then s.updSrc i (fun e => { e with last := s.time.now }) else s
  | none => s

/-- The condition of a source has ended (R494, R573). -/
def endCondition (s : State) (kind unit : Nat) : State :=
  match s.knownEntry (faultCode s kind unit) with
  | some i => s.updSrc i (fun e => { e with cond := false })
  | none => s

/-- QUIET_PERIOD in ticks (R494): 1 to 60,000 ms. -/
def State.quietPeriod (s : State) : Nat := max 1 (min 60000 (s.fld Fld.FLT_CTRL_QUIET_PERIOD)) * ticksMs

/-- End the reactions of an entry and make it IDLE (R494): its facets restart, a supervision source asks for a probation
capture, and its event ceases. -/
def releaseSource (s : State) (i : Nat) : State :=
  let code := s.srcCode i
  let kind := codeKind code
  let unit := codeUnit code
  let r := reactionsOf s kind unit
  let s := s.setFld (Fld.FLT_SRC_STAT_STATE i) 0
  let s := s.updSrc i (fun e => { e with elides := false, cond := false, idleOrder := s.flt.idleCount + 1 })
  let s := { s with flt := { s.flt with idleCount := s.flt.idleCount + 1 } }
  let s := if [0x10, 0x11, 0x12].contains kind then
      { s with cva := { s.cva with sup := s.cva.sup.upd (unit % 64) (fun u => { u with want := true, probation := true }) } }
    else s
  let s := ceaseEvent s 0x000 code
  let s := refreshHub s
  let s := (List.range 4).foldl (fun s k =>
    if r.shut.testBit k && !(s.fld Fld.FLT_QUIET_SHUT).testBit k && s.on (Fld.CVA_FACET_CFG_EN k) then
      if kind == 0x18 then s.flag (Fld.CVA_FACET_STAT_FGCAL_BUSY k) s.rcsLocked
      else s.flag (Fld.CVA_FACET_STAT_READY k) true
    else s) s
  s

/-- The recoveries of an entry within the last 600 s (R496). -/
def State.recentRecov (s : State) (i : Nat) : List Nat :=
  (s.flt.src.at i).recov.filter (fun t => s.time.now < t + 600 * 1000 * ticksMs)

end Sys2Proof.Machine
end

