-- ==== Sys2Proof/Machine/Shadow.lean ====
section
/-! DEFINITION. Machine/Shadow.lean: shadow groups and the commit fence (R565 to R568). -/

namespace Sys2Proof.Machine

/-- The shadow groups of R565. -/
inductive ShGroup where
  | symcfg (c : Nat) | dpdbank (p : Nat) | txrange (p : Nat) | ncoplan (k : Nat) | fetable (k : Nat)
deriving DecidableEq, Repr

/-- The group a trigger argument of class 0x7 names (R565). -/
def groupOfCode (n : Nat) : Option ShGroup :=
  if n < 0x20 then some (.symcfg n)
  else if 0x40 ≤ n && n < 0x80 then some (.dpdbank (n - 0x40))
  else if 0x80 ≤ n && n < 0xC0 then some (.txrange (n - 0x80))
  else if 0xC0 ≤ n && n < 0xC4 then some (.ncoplan (n - 0xC0))
  else if 0xC4 ≤ n && n < 0xC8 then some (.fetable (n - 0xC4))
  else none

/-- The facet whose clock and boundaries a group uses. -/
def ShGroup.facet : ShGroup → Nat
  | .symcfg c => c / 8
  | .dpdbank p => p / 16
  | .txrange p => p / 16
  | .ncoplan k => k
  | .fetable k => k

/-- The ARM bit of a group. -/
def ShGroup.arm : ShGroup → Fld
  | .symcfg c => Fld.LPE_CAR_SYMCTL_ARM c
  | .dpdbank p => Fld.LDE_PATH_BANKCTL_ARM p
  | .txrange p => Fld.CVA_TX_RCTL_ARM p
  | .ncoplan k => Fld.LPE_FACET_NCOCTL_ARM k
  | .fetable k => Fld.FEN_FACET_CTL_ARM k

/-- The generation counter of a group. -/
def ShGroup.gen : ShGroup → Fld
  | .symcfg c => Fld.LPE_CAR_SYMCTL_GEN c
  | .dpdbank p => Fld.LDE_PATH_BANKCTL_GEN p
  | .txrange p => Fld.CVA_TX_RCTL_GEN p
  | .ncoplan k => Fld.LPE_FACET_NCOCTL_GEN k
  | .fetable k => Fld.FEN_FACET_CTL_GEN k

/-- The registers whose fields a group shadows (R178, R195, R211, R245, R445). -/
def ShGroup.regs : ShGroup → List Nat
  | .symcfg c => [Reg.LPE_CAR_SYM0 c, Reg.LPE_CAR_SYM1 c]
  | .dpdbank p => [Reg.LDE_PATH_BANKSEL p, Reg.LDE_PATH_PGAIN p]
  | .txrange p => [Reg.CVA_TX_RANGE p, Reg.CVA_TX_DLY p]
  | .ncoplan k => [Reg.LPE_FACET_WTX_LO k, Reg.LPE_FACET_WTX_HI k, Reg.LPE_FACET_WRX_LO k, Reg.LPE_FACET_WRX_HI k,
      Reg.LPE_FACET_PLAN k] ++ (List.range 8).flatMap (fun i =>
      [Reg.LPE_CAR_DL_FTW_LO (8 * k + i), Reg.LPE_CAR_DL_FTW_HI (8 * k + i),
       Reg.LPE_CAR_UL_FTW_LO (8 * k + i), Reg.LPE_CAR_UL_FTW_HI (8 * k + i)])
  | .fetable k => Reg.FEN_FACET_RING k :: (List.range 16).map (fun j => Reg.FEN_FACET_D k j)

/-- Does facet k realise boundaries (R567)? -/
def State.realises (s : State) (k : Nat) : Bool := (s.facetT k).anchored && !(s.facetT k).realigning

/-- The cycle of the facet clock (R8, R566). -/
def State.cyc (s : State) : Nat := s.acc.facetCyc

/-- Change what the access paths keep. -/
def State.updAcc (s : State) (f : AccState → AccState) : State := { s with acc := f s.acc }

/-- A write to an SH register enters the group's open generation (R566). -/
def shWrite (s : State) (a : Nat) (v : Word) : State :=
  (s.wr a v).updAcc (fun x => { x with shLog := x.shLog ++ [{ cyc := s.cyc, addr := a, val := v }] })

/-- A write of a group's ARM bit (R566). -/
def writeArm (s : State) (g : ShGroup) (b : Bool) : State :=
  (s.flag g.arm b).updAcc (fun x => { x with arms := x.arms.upd g.arm.reg (fun l => l ++ [(s.cyc, b)]) })

/-- The value a group's ARM bit had before the fence of a boundary in cycle `b` (R566). -/
def State.armedBefore (s : State) (g : ShGroup) (b : Nat) : Bool :=
  match ((s.acc.arms.at g.arm.reg).filter (fun w => w.1 + 64 ≤ b)).getLast? with
  | some w => w.2
  | none => false

/-- The generation a boundary in cycle `b` would commit: the committed values with every write of the group that landed
before the fence (R566). -/
def State.candidate (s : State) (g : ShGroup) (b : Nat) : SMap Word :=
  (s.acc.shLog.filter (fun w => g.regs.contains w.addr && w.cyc + 64 ≤ b)).foldl
    (fun m w => mapSet regReset m w.addr w.val) s.acc.active

/-- What remains after a boundary in cycle `b`: the writes inside the fence enter the next generation. -/
def State.leftover (s : State) (g : ShGroup) (b : Nat) : List ShWrite :=
  s.acc.shLog.filter (fun w => !(g.regs.contains w.addr && w.cyc + 64 ≤ b))

/-- ARM after a commit at cycle `b`: cleared, unless a write inside the fence set it again (R566, R567). -/
def disarm (s : State) (g : ShGroup) (b : Nat) : State :=
  let later := (s.acc.arms.at g.arm.reg).filter (fun w => b < w.1 + 64)
  let s := s.updAcc (fun x => { x with arms := x.arms.put g.arm.reg later })
  s.flag g.arm (match later.getLast? with
    | some w => w.2
    | none => false)

/-- Commit a group at a boundary in cycle `b`: every field of the generation at once, ARM cleared, GEN counted (R567). -/
def commitGroup (s : State) (g : ShGroup) (b : Nat) : State :=
  let s1 := s.updAcc (fun x => { x with active := s.candidate g b, shLog := s.leftover g b })
  (disarm s1 g b).bumpWrap g.gen

/-- A field of a generation that is not committed yet. -/
def genFld (m : SMap Word) (f : Fld) : Nat := fieldOf f.lo f.width (mapGet regReset m f.reg)

end Sys2Proof.Machine
end

