-- ==== Sys2Proof/Machine/AirTime.lean ====
section
/-! DEFINITION. Machine/AirTime.lean: the air time of the PHC and the position in frame, slot and symbol (R50), symbol
lengths and reference times (R83), and the sample clock (R276). -/

namespace Sys2Proof.Machine

/-- ALPHA in ns, limited (R50). -/
def State.alpha (s : State) : Nat := min (s.fld Fld.TIM_AIR_ALPHA_ALPHA) 9999999

/-- The air time of a PHC time in ns, in ns: t_air of R50. -/
def State.airNsOf (s : State) (phcNs : Nat) : Int :=
  (phcNs : Int) - 315964819 * 1000000000 - s.alpha - s.fld Fld.TIM_AIR_BETA_BETA * 10000000

/-- The air time of the PHC in units of 2^-32 ns. -/
def State.airFine (s : State) : Int := s.airNsOf s.phcNs * 2 ^ 32 + s.time.phc.frac

/-- Tc since the air epoch: floor (t_air × 1.96608) (R50). -/
def State.airTc (s : State) : Int := s.airFine * 196608 / (100000 * 2 ^ 32)

/-- Numerology of timeline c. -/
def State.mu (s : State) (c : Nat) : Nat := s.fld (Fld.TIM_AIR_CFG_MU c)
def State.ecp (s : State) (c : Nat) : Bool := s.on (Fld.TIM_AIR_CFG_ECP c)

/-- Symbols in a slot (R50). -/
def perSlot (ecp : Bool) : Nat := if ecp then 12 else 14

/-- The position of a count of Tc since the air epoch (the pseudocode of R50). -/
def airPos (mu : Nat) (ecp : Bool) (p : Int) : SymId :=
  let sfn := (p / 19660800 % 1024).toNat
  let q := (p % 1966080).toNat
  let subframe := ((p % 19660800) / 1966080).toNat
  let n :=
    if ecp then q / (163840 / 2 ^ mu)
    else
      let len := 140288 / 2 ^ mu
      let h := q % 983040
      let k := if h < 1024 + len then 0 else 1 + (h - 1024 - len) / len
      q / 983040 * 7 * 2 ^ mu + k
  { sfn, subframe, slot := n / perSlot ecp, symbol := n % perSlot ecp }

/-- The position of timeline c now. -/
def State.pos (s : State) (c : Nat) : SymId := airPos (s.mu c) (s.ecp c) s.airTc

/-- Symbol number within the subframe. -/
def SymId.index (y : SymId) (ecp : Bool) : Nat := y.slot * perSlot ecp + y.symbol

/-- The start of a symbol in Tc from the start of its frame (R50): symbols 0 and 7 × 2^μ of a subframe are 1,024 Tc longer
with normal cyclic extension. -/
def symStartTc (mu : Nat) (ecp : Bool) (y : SymId) : Nat :=
  let n := y.index ecp
  y.subframe * 1966080 +
    if ecp then n * (163840 / 2 ^ mu)
    else
      let h := n / (7 * 2 ^ mu)
      let k := n % (7 * 2 ^ mu)
      h * 983040 + k * (140288 / 2 ^ mu) + if k = 0 then 0 else 1024

/-- The length of a symbol in Tc. -/
def symLenTc (mu : Nat) (ecp : Bool) (y : SymId) : Nat :=
  if ecp then 163840 / 2 ^ mu
  else 140288 / 2 ^ mu + if y.index ecp % (7 * 2 ^ mu) = 0 then 1024 else 0

/-- Tc in units of 2^-32 ns, rounded down: 1 Tc = 100,000 ÷ 196,608 ns. -/
def tcToFine (n : Int) : Int := n * 100000 * 2 ^ 32 / 196608

/-- The PHC time in units of 2^-32 ns at which the frame with SFN `sfn` nearest to now starts (R83): the earlier of two
equally near. -/
def State.frameStart (s : State) (sfn8 : Nat) (bits : Nat) : Int :=
  let m : Int := 2 ^ bits
  let fr := s.airTc / 19660800                       -- frames since the air epoch
  let base := fr - (fr - sfn8) % m                   -- the last such frame that has started
  let d0 := s.airTc - base * 19660800
  let d1 := (base + m) * 19660800 - s.airTc
  if d0 ≤ d1 then base else base + m

/-- Air time, in Tc since the epoch, of the start of a symbol whose frame is given by its absolute number. -/
def symTc (mu : Nat) (ecp : Bool) (frame : Int) (y : SymId) : Int := frame * 19660800 + symStartTc mu ecp y

/-- The PHC time, in units of 2^-32 ns, at which a symbol of timeline c starts: t_sym (R83). -/
def State.symFine (s : State) (c : Nat) (y : SymAbs) : Int :=
  tcToFine (symTc (s.mu c) (s.ecp c) y.frame { sfn := 0, subframe := y.subframe, slot := y.slot, symbol := y.symbol })
    + (315964819 * 1000000000 + s.alpha + s.fld Fld.TIM_AIR_BETA_BETA * 10000000 : Nat) * 2 ^ 32

/-- The length of a symbol of timeline c in units of 2^-32 ns: T_s. -/
def State.symFineLen (s : State) (c : Nat) (y : SymAbs) : Int :=
  tcToFine (symLenTc (s.mu c) (s.ecp c) { sfn := 0, subframe := y.subframe, slot := y.slot, symbol := y.symbol })

/-- The slot of a symbol, counted since the air epoch, on a timeline of numerology `mu`. -/
def symSlotNo (y : SymAbs) (mu : Nat) : Int := y.frame * (10 * 2 ^ mu) + y.subframe * 2 ^ mu + y.slot

/-- The PHC in units of 2^-32 ns. -/
def State.phcFine (s : State) : Int := s.time.phc.fine

/-- Microseconds in units of 2^-32 ns. -/
def usFine (n : Nat) : Int := n * 1000 * 2 ^ 32

/-- The instant at which the work list of a symbol is released (R89). -/
def State.relFine (s : State) (c : Nat) (dl : Bool) (y : SymAbs) : Int :=
  if dl then s.symFine c y - s.symFineLen c y - usFine 12 else s.symFine c y + s.symFineLen c y

/-- The weight deadline of a symbol (R150): 8 µs before its release. -/
def State.wtFine (s : State) (c : Nat) (dl : Bool) (y : SymAbs) : Int := s.relFine c dl y - usFine 8

/-- The PHC time in ns of the next 10 ms frame boundary of the air time after now (R48, R56). -/
def State.nextFrameNs (s : State) : Nat :=
  let t := s.airNsOf s.phcNs
  (s.phcNs + (10000000 - t % 10000000)).toNat

/-- The SFN of the frame that starts at a PHC time in ns. -/
def State.sfnAt (s : State) (phcNs : Nat) : Nat := (s.airNsOf phcNs / 10000000 % 1024).toNat

/-! ### Sample clock -/

/-- f_REF in Hz by the code REF_FREQ (R278). -/
def refHz (code : Nat) : Nat :=
  match code with
  | 0 => 122880000
  | 1 => 245760000
  | 2 => 491520000
  | _ => 122880000

/-- f_S of a tune-cache entry, in units of 2^-32 Hz (R276). -/
def State.entryFs (s : State) (e : Nat) : Nat :=
  refHz (s.fld (Fld.RCS_TC_CFG_REF e)) * (s.fld (Fld.RCS_TC_CFG_NINT e) * 2 ^ 32 + s.fld (Fld.RCS_TC_FREQ_NFRAC e))

/-- f_S in use, in units of 2^-32 Hz (R276): the entry in use, or EXTFS. -/
def State.fsFine (s : State) : Nat :=
  if s.on Fld.RCS_CTRL_SRC then s.fld Fld.RCS_EXT_CFG_FS_KHZ * 1000 * 2 ^ 32 else s.entryFs (s.fld Fld.RCS_STATUS_ENTRY)

/-- The facet clock in kHz (R8): f_S ÷ 16 in LOCKED, the CTRL clock otherwise. -/
def State.facetKhz (s : State) : Nat := if s.rcsLocked then s.fsFine / 2 ^ 32 / 16000 else 500000

end Sys2Proof.Machine
end

