-- ==== Sys2Proof/Machine/FltCmds.lean ====
section
/-! DEFINITION. Machine/FltCmds.lean: the commands of the Fault Hub: reports, recovery and lockout, clears, the log, the host
watchdog and the supervisors of temperature and core PLLs (R483 to R502, R573, R575). -/

namespace Sys2Proof.Machine

/-- A report to the Fault Hub (R485): a condition kind whose condition persists only refreshes its source (R573). -/
def reportKind (s : State) (kind unit : Nat) : State :=
  if conditionKind kind then reportCondition s kind unit else reportFault s kind unit

/-- FAULT_REPORT (R485). -/
def execFaultReport (kind : Fin 256) (unit : Fin 65536) (s : State) : Out := .next (reportKind s kind unit)

/-- One recovery of an entry (R494), or its lockout in place of a ninth within 600 s (R496). -/
def recoverSource (s : State) (i : Nat) : State :=
  let r := s.recentRecov i
  if 8 ≤ r.length then
    settle s (refreshHub ((s.setFld (Fld.FLT_SRC_STAT_STATE i) 2).bump Fld.FLT_CNT0_LATCHES))
  else
    let t := releaseSource s i
    let t := t.updSrc i (fun e => { e with recov := s.time.now :: r })
    settle s (t.bump Fld.FLT_CNT0_RECOVERIES)

/-- May an entry recover (R494, R495): ACTIVE, its condition ended, its quiet period over and no full reset in progress? -/
def State.mayRecover (s : State) (i : Nat) : Bool :=
  s.srcState i == 1 && !(s.flt.src.at i).cond && (s.flt.src.at i).last + s.quietPeriod ≤ s.time.now && !s.flt.fullReset

/-- SOURCE_RECOVER (R494, R496). -/
def execSourceRecover (i : Fin 64) (s : State) : Out :=
  if s.mayRecover i then .next (recoverSource s i) else .next s

/-- Clear one LATCHED entry (R497): its reactions end and its recovery history empties. -/
def clearSource (s : State) (i : Nat) : State :=
  if s.srcState i == 2 then (releaseSource s i).updSrc i (fun e => { e with recov := [] }) else s

/-- FLT_CLEAR.ONE (R497). -/
def execFltClearOne (i : Fin 64) (s : State) : Out := .next (settle s (clearSource s i))

/-- FLT_CLEAR.ALL (R483, R497): every LATCHED source, and the overflow reactions. -/
def execFltClearAll (s : State) : Out :=
  let t := (List.range 64).foldl clearSource s
  let t := { t with flt := { t.flt with overflow := [] } }
  .next (settle s (refreshHub t))

/-- Change the host watchdog's start. -/
def State.setHostFrom (s : State) (t : Option Nat) : State := { s with flt := { s.flt with hostFrom := t } }

/-- A write to FLT_HOST (R575): with EN at 1 the count restarts with the TO written; EN = 0 stops it and ends HOST_LOST. The
reactions of HOST_LOST follow QUIET (R490). -/
def execFltHostWrite (v : Word) (s : State) : Out :=
  let t := s.writeRw Reg.FLT_HOST v
  let t := if t.on Fld.FLT_HOST_EN then t.setHostFrom (some s.time.now) else (endCondition t 0x44 0).setHostFrom none
  .next (settle s (refreshHub t))

/-- A write to FLT_HOST_KICK (R575). -/
def execHostWatchdogKick (s : State) : Out :=
  let t := endCondition s 0x44 0
  .next (if t.on Fld.FLT_HOST_EN then t.setHostFrom (some s.time.now) else t)

/-- The timeout of the host watchdog in ticks. -/
def State.hostTimeout (s : State) : Nat := max 1 (s.fld Fld.FLT_HOST_TO) * ticksMs

/-- HOST_WATCHDOG_EXPIRE (R501, R575). -/
def execHostWatchdogExpire (s : State) : Out :=
  match s.flt.hostFrom with
  | some t => if t + s.hostTimeout ≤ s.time.now then .next (reportCondition (s.setHostFrom none) 0x44 0) else .next s
  | none => .next s

/-- A write to FLT_LOG_POP (R502). -/
def execFltLogPop (s : State) : Out := .next { s with flt := { s.flt with log := s.flt.log.drop 1 } }

/-- TJ_CRIT (R491). -/
def execTjCrit (n : Fin 12) (s : State) : Out := .next (reportCondition s 0x51 n)

/-- TJ_CRIT_CLEAR (R491): the condition of the sensor ends. -/
def execTjCritClear (n : Fin 12) (s : State) : Out := .next (endCondition s 0x51 n)

/-- CORE_PLL_LOSS (R491). -/
def execCorePllLoss (pllB : Bool) (s : State) : Out := .next (reportFault s 0x60 pllB.toNat)

end Sys2Proof.Machine
end

