-- ==== Sys2Proof/Machine/Time.lean ====
section
/-! DEFINITION. Machine/Time.lean: the hardware clock, steps and realignment, the servo and its time states, SyncE, PPS and
time of day, capture inputs and the carrier timelines (R23 to R59, R569 to R571). A command that the spec places in the next
tick is executed in that tick (assumption log 4). -/

namespace Sys2Proof.Machine

/-! ### The clock -/

/-- One tick of the TIME island (R23): the PHC takes the increment. -/
def tickPhc (s : State) : State := s.setPhc (Phc.ofFine (s.time.phc.fine + s.increment))

/-- The PHC moved by a signed number of 2^-32 ns. -/
def Phc.move (p : Phc) (d : Int) : Phc := Phc.ofFine (((p.fine : Int) + d) % (2 ^ 48 * 1000000000 * 2 ^ 32 : Int)).toNat

/-- SNAP (R26). -/
def execTimSnap (s : State) : Out :=
  let p := s.time.phc
  .next ((((s.wr Reg.TIM_SNAP_FRAC (BitVec.ofNat 32 p.frac)).wr Reg.TIM_SNAP_NS (BitVec.ofNat 32 p.ns)).wr
    Reg.TIM_SNAP_SEC_LO (BitVec.ofNat 32 p.sec)).wr Reg.TIM_SNAP_SEC_HI (BitVec.ofNat 32 (p.sec / 2 ^ 32 % 2 ^ 16)))

/-! ### Time states (R36) -/

/-- Take a time state: 0 FREERUN, 1 ACQUIRING, 2 LOCKED, 3 HOLDOVER; TIME_OK holds in LOCKED and HOLDOVER, which is entered
from LOCKED only. -/
def setTimeState (s : State) (n : Nat) : State :=
  let ok := n == 2 || n == 3
  let was := s.on Fld.TIM_STATUS_TIME_OK
  let s := (s.setFld Fld.TIM_STATUS_STATE n).flag Fld.TIM_STATUS_TIME_OK ok
  let s := { s with time := { s.time with
    lockRun := 0
    unlockRun := 0
    lockedSince := if n == 2 then s.time.now else s.time.lockedSince
    incrLog := if n == 2 then [(s.time.now, s.increment)] else s.time.incrLog } }
  if ok then { s with boot := { s.boot with timeLost := none } }
  else if was then { s with boot := { s.boot with timeLost := some s.time.now } }
  else s

def State.timeState (s : State) : Nat := s.fld Fld.TIM_STATUS_STATE

/-- A step takes LOCKED to ACQUIRING (R36). -/
def stepState (s : State) : State := if s.timeState == 2 then setTimeState s 1 else s

/-! ### Realignment (R53, R55 to R59) -/

/-- Send 0x800 to every enabled flow whose timeline is in a set (R59). -/
def notifyRealign (s : State) (lines : List Nat) (sfn : Nat) : State :=
  (List.range 256).foldl (fun s f =>
    if s.on (Fld.FPE_FLOW_CFG_EN f) && lines.contains (s.fld (Fld.FPE_FLOW_CFG_CAR f)) then
      notifyEvent s 0x800 sfn (some f) else s) s

/-- The enabled timelines of a set of facets. -/
def State.enabledLines (s : State) (ks : List Nat) : List Nat :=
  (List.range 32).filter (fun c => ks.contains (c / 8) && s.on (Fld.TIM_AIR_CFG_EN c))

/-- Realign a set of facets at the next frame boundary of the time in force (R53, R56): each timeline mutes at its next
realised boundary, and the re-anchor is due. A realignment in progress only moves its re-anchor (R57). -/
def realignFacets (s : State) (ks : List Nat) (alone : Bool) : State :=
  let due := s.nextFrameNs
  let already := ks.any (fun k => (s.facetT k).realigning)
  let s := ks.foldl (fun s k => s.updFacet k (fun f => { f with
    realigning := true, alone := alone && (!f.realigning || f.alone), reanchorNs := due })) s
  let s := (s.enabledLines ks).foldl (fun s c => s.updLine c (fun l => { l with muteDue := l.running && !l.muted })) s
  let s := s.flag Fld.TIM_STATUS_REALIGNED true
  let s := s.flag Fld.TIM_STATUS_REALIGNING true
  let s := if already then s else s.bump Fld.TIM_CNT_REALIGNS
  notifyRealign s (s.enabledLines ks) (s.sfnAt due)

/-- The anchored facets. -/
def State.anchoredFacets (s : State) : List Nat := (List.range 4).filter (fun k => (s.facetT k).anchored)

/-- A step of the air time by `d` units of 0.25 ns (R55 to R57): absorbed through TIM_AIR_PEND up to 100 ns in all, a
realignment beyond; while a realignment is in progress the re-anchor moves. -/
def airStep (s : State) (d : Int) : State :=
  let pend := s.sfld Fld.TIM_AIR_PEND_PEND + d
  if !s.anyAnchored then
    s.setFld Fld.TIM_AIR_PEND_PEND (if pend.natAbs ≤ 400 then unsigned 16 pend else 0)
  else if (List.range 4).any (fun k => (s.facetT k).realigning) || 400 < pend.natAbs then
    realignFacets (s.setFld Fld.TIM_AIR_PEND_PEND 0) s.anchoredFacets false
  else s.setFld Fld.TIM_AIR_PEND_PEND (unsigned 16 pend)

/-- A step of the PHC to a new time, triggers apart (R27, R55): STEPPED, STEPS, the air time and the time state. -/
def phcStep (s : State) (p : Phc) : State :=
  let d := ((p.fine : Int) - s.time.phc.fine) * 4 / 2 ^ 32
  let s := s.setPhc p
  let s := (s.flag Fld.TIM_STATUS_STEPPED true).bump Fld.TIM_CNT_STEPS
  stepState (airStep s d)

/-- The value LOAD takes (R27): TIM_SET with the nanoseconds limited and a fraction of 0. -/
def State.loadValue (s : State) : Phc :=
  { sec := s.fld Fld.TIM_SET_SEC_LO_SEC + 2 ^ 32 * s.fld Fld.TIM_SET_SEC_HI_SEC
    ns := min 999999999 (s.fld Fld.TIM_SET_NS_NS), frac := 0 }

/-- The signed TIM_ADJ in 2^-32 ns. -/
def State.adjFine (s : State) : Int := s.sfld Fld.TIM_ADJ_OFS * 2 ^ 32

/-- Does the servo own the PHC against this writer (R28)? -/
def State.servoOwns (s : State) (ce2 : Bool) : Bool := s.on Fld.TIM_CTRL_SERVO_EN && !ce2

/-- A write that changes TSRC takes the time state to FREERUN; a write of the same value does not (R569). -/
def execTsrcChange (v : Nat) (s : State) : Out :=
  if s.fld Fld.TIM_CTRL_TSRC = v then .next s
  else .next (setTimeState { (s.setFld Fld.TIM_CTRL_TSRC v) with
    time := { (s.setFld Fld.TIM_CTRL_TSRC v).time with slave := none } } 0)

/-! ### PTP -/

/-- The timestamp of the current tick in units of 2^-16 ns, a number of quarter nanoseconds into it (R29). -/
def State.stamp (s : State) (quarter : Nat) : Int := (s.time.phc.fine / 2 ^ 16 + quarter * 2 ^ 14 : Nat)

/-- Does PTP run on a port (R36)? -/
def State.ptpOn (s : State) (port : Nat) : Bool := s.on (Fld.TIM_PORT_CFG_PTP_EN port) && (s.fld Fld.FPE_STATUS_PORT_UP).testBit port

/-- Is a port a master port: the boundary clock's ports but the slave port (R34)? -/
def State.ptpMaster (s : State) (port : Nat) : Bool :=
  s.ptpOn port && s.on Fld.TIM_PTP_CFG_CLOCK_TYPE && s.time.slave != some port

/-- Change the tuple of a port and sequence number, making it if it is new. -/
def updTuple (s : State) (port seq : Nat) (f : PtpTuple → PtpTuple) : State :=
  let known := s.time.tuples.any (fun t => t.port == port && t.seq == seq)
  let l := if known then s.time.tuples else s.time.tuples ++ [{ port := port, seq := seq }]
  { s with time := { s.time with tuples := l.map (fun t => if t.port == port && t.seq == seq then f t else t) } }

/-- Is a tuple complete? -/
def PtpTuple.full (t : PtpTuple) : Bool := t.t1.isSome && t.t2.isSome && t.t3.isSome && t.t4.isSome

/-- The tuple of a port and sequence number. -/
def State.tuple (s : State) (port seq : Nat) : Option PtpTuple :=
  s.time.tuples.find? (fun t => t.port == port && t.seq == seq)

/-- A received PTP message is stamped, corrected by RX_LAT (R30) and matched by sequenceId (R34); a complete tuple sets CE2
event 8. -/
def execPtpEventRx (port : Nat) (kind : PtpKind) (seq quarter : Nat) (time corr : Int) (s : State) : Out :=
  if !s.ptpOn port then .next s
  else
    let rx := s.stamp quarter - s.fld (Fld.TIM_PORT_LAT_RX_LAT port) * 2 ^ 14
    let s := match kind with
      | .sync true => updTuple s port seq (fun t => { t with t1 := some time, t2 := some rx, corrSync := corr })
      | .sync false => updTuple s port seq (fun t => { t with t2 := some rx, corrSync := corr })
      | .followUp => updTuple s port seq (fun t => { t with t1 := some time, corrSync := t.corrSync + corr })
      | .delayReq => updTuple s port seq (fun t => { t with t4 := some rx })
      | .delayResp => updTuple s port seq (fun t => { t with t4 := some time, corrResp := corr })
    match s.tuple port seq with
    | some t => .next (if t.full then s.ceEvent 2 8 else s)
    | none => .next s

/-- A one-step Sync (R31, R33): the egress timestamp, TX_LAT added, as seconds and whole nanoseconds, the remainder in the
correction field in units of 2^-16 ns. -/
def execPtpSyncTx (port : Nat) (s : State) : Out :=
  if s.ptpMaster port then
    let t := (s.stamp 0).toNat + s.fld (Fld.TIM_PORT_LAT_TX_LAT port) * 2 ^ 14
    .next (s.emit (.ptp port 0 (t / 2 ^ 16 / 1000000000) (t / 2 ^ 16 % 1000000000) (t % 2 ^ 16)))
  else .next s

/-- An Announce of a master port (R33). -/
def execPtpAnnounceTx (port : Nat) (s : State) : Out :=
  if s.ptpMaster port then .next (s.emit (.ptp port 11 0 0 0)) else .next s

/-- A Delay_Req of the slave port: its egress timestamp is t3 of its tuple (R33, R34). -/
def execPtpDelayReqTx (port seq : Nat) (s : State) : Out :=
  if s.ptpOn port && s.time.slave == some port then
    let t := s.stamp 0 + s.fld (Fld.TIM_PORT_LAT_TX_LAT port) * 2 ^ 14
    let s := updTuple s port seq (fun u => { u with t3 := some t })
    let s := s.emit (.ptp port 1 (t.toNat / 2 ^ 16 / 1000000000) (t.toNat / 2 ^ 16 % 1000000000) (t.toNat % 2 ^ 16))
    match s.tuple port seq with
    | some u => .next (if u.full then s.ceEvent 2 8 else s)
    | none => .next s
  else .next s

/-! ### The servo -/

/-- The offset from master of a tuple in units of 2^-16 ns, corrected by ASYM (R34). -/
def State.tupleOffset (s : State) (t : PtpTuple) : Int :=
  ((t.t2.getD 0 - t.t1.getD 0 - t.corrSync) - (t.t4.getD 0 - t.t3.getD 0 - t.corrResp)) / 2
    - s.sfld (Fld.TIM_PORT_ASYM_ASYM t.port) * 2 ^ 14

/-- Write the 40-bit increment, recording it for the holdover mean (R37). -/
def setIncrement (s : State) (n : Nat) : State :=
  let s := (s.setFld Fld.TIM_INCR_LO_FRAC n).setFld Fld.TIM_INCR_HI_INT (n / 2 ^ 32)
  if s.timeState == 2 then
    { s with time := { s.time with incrLog := (s.time.now, s.increment) :: s.time.incrLog } }
  else s

/-- The loop filter's next increment: the spec states its bandwidth and its limits but no value, so it is a free value
within ±50 ppm of 1.25 ns (R24, R35; assumption log 2). -/
def State.slewIncrement (s : State) : Nat :=
  0x013FFBE76D + (s.free 40).toNat % (0x0140041893 - 0x013FFBE76D + 1)

/-- |offset| counts towards a change of state (R36). -/
def countUpdate (s : State) (offNs : Nat) : State :=
  let thr := s.fld Fld.TIM_SRV_LOCK_LOCK_THRESH
  let need := max 1 (s.fld Fld.TIM_SRV_LOCK_LOCK_COUNT)
  match s.timeState with
  | 0 => setTimeState s 1
  | 3 => setTimeState s 1
  | 1 =>
    if offNs < thr then
      if need ≤ s.time.lockRun + 1 then setTimeState s 2
      else { s with time := { s.time with lockRun := s.time.lockRun + 1 } }
    else { s with time := { s.time with lockRun := 0 } }
  | _ =>
    if 4 * thr < offNs then
      if need ≤ s.time.unlockRun + 1 then setTimeState s 1
      else { s with time := { s.time with unlockRun := s.time.unlockRun + 1 } }
    else { s with time := { s.time with unlockRun := 0 } }

/-- What the servo steps the PHC to, when |offset| exceeds STEP_THRESH while it owns the PHC (R35). -/
def State.servoSteps (s : State) (off : Int) : Bool :=
  s.on Fld.TIM_CTRL_SERVO_EN && s.fld Fld.TIM_SRV_CFG_STEP_THRESH * 2 ^ 16 < off.natAbs

/-- One servo update but for the step (R28, R35, R36): TIM_SRV_OFS, the time state, and the slew. -/
def servoUpdate (s : State) (off : Int) : State :=
  let s := s.setFld Fld.TIM_SRV_OFS_OFS (unsigned 32 (off / 2 ^ 16))
  let s := countUpdate s (off.natAbs / 2 ^ 16)
  if s.on Fld.TIM_CTRL_SERVO_EN && !s.servoSteps off then (setIncrement s s.slewIncrement).tookFree else s

/-- The mean of the increments applied in LOCKED operation within the last HOLD_AVG seconds (R37), weighted by the ticks each
was in force; with HOLD_AVG at 0, or nothing recorded, the increment in force. -/
def State.holdoverIncrement (s : State) : Nat :=
  let avg := s.fld Fld.TIM_HOLD_HOLD_AVG
  let now := s.time.now
  let from_ := max s.time.lockedSince (now - avg * 1000 * ticksMs)
  let spans := s.time.incrLog.foldl (fun (acc : Nat × Nat × Nat) e =>
    let until_ := acc.1
    let since := max from_ e.1
    let len := until_ - since
    (min until_ e.1, acc.2.1 + len * e.2, acc.2.2 + len)) (now, 0, 0)
  if avg = 0 || spans.2.2 = 0 then s.increment else spans.2.1 / spans.2.2

/-- The source is lost (R36, R37): LOCKED goes to HOLDOVER with its increment held, ACQUIRING to FREERUN. While SyncE is
LOCKED the servo follows its frequency, whose value is free. -/
def execSourceLost (s : State) : Out :=
  let s := { s with time := { s.time with slave := none } }
  match s.timeState with
  | 2 =>
    let held := s.holdoverIncrement
    let s := setTimeState s 3
    if !s.on Fld.TIM_CTRL_SERVO_EN then .next s
    else if s.fld Fld.TIM_SYNCE_STAT_STATE = 2 then .next (setIncrement s s.slewIncrement).tookFree
    else .next (setIncrement s held)
  | 1 => .next (setTimeState s 0)
  | _ => .next s

/-- HOLD_MAX seconds in HOLDOVER have passed (R36). -/
def execHoldoverExpire (s : State) : Out :=
  if s.timeState = 3 && s.fld Fld.TIM_HOLD_HOLD_MAX ≠ 0 then
    .next ((setTimeState s 0).flag Fld.TIM_STATUS_HOLD_EXPIRED true)
  else .next s

/-! ### SyncE (R38) -/

/-- The rank of an SSM code in the order of G.8264 option 1: a lower rank is a better clock. -/
def ssmRank (ql : Nat) : Nat :=
  match ql with
  | 0x2 => 0
  | 0x4 => 1
  | 0x8 => 2
  | 0xB => 3
  | _ => 4

/-- Take a SyncE state; a change sets CE2 event 11 (R394). -/
def setSynce (s : State) (n : Nat) : State :=
  if s.fld Fld.TIM_SYNCE_STAT_STATE = n then s else (s.setFld Fld.TIM_SYNCE_STAT_STATE n).ceEvent 2 11

/-- The SyncE source has failed or fallen below QL_MIN: change to the other of SRC and ALT, or fail when there is none. -/
def synceSwitch (s : State) : State :=
  let src := s.fld Fld.TIM_SYNCE_CFG_SRC
  let alt := s.fld Fld.TIM_SYNCE_CFG_ALT
  if src = alt then setSynce s 3
  else setSynce (s.setFld Fld.TIM_SYNCE_STAT_ACTIVE (if s.fld Fld.TIM_SYNCE_STAT_ACTIVE = src then alt else src)) 1

/-- An ESMC PDU (R38): CE2 event 10; from the lane in use it gives QL, and a level below QL_MIN gives the lane up. -/
def execEsmcPduRx (lane ql : Nat) (locked : Bool) (s : State) : Out :=
  let s := s.ceEvent 2 10
  if !s.on Fld.TIM_SYNCE_CFG_EN || lane ≠ s.fld Fld.TIM_SYNCE_STAT_ACTIVE then .next s
  else
    let s := s.setFld Fld.TIM_SYNCE_STAT_QL ql
    if ssmRank (s.fld Fld.TIM_SYNCE_CFG_QL_MIN) < ssmRank ql then .next (synceSwitch s)
    else .next (setSynce s (if locked then 2 else 1))

/-! ### PPS and time of day -/

/-- The whole second that the current tick contains, OUT_COMP ns later (R40). -/
def State.ppsDue (s : State) : Bool :=
  let m : Int := 1000000000 * 2 ^ 32
  let x := (s.time.phc.fine : Int) + s.sfld Fld.TIM_PPS_CFG_OUT_COMP * 2 ^ 32
  (-x) % m < s.increment

/-- PPS_OUT rises (R40). -/
def execPpsOutRise (s : State) : Out :=
  if s.on Fld.TIM_PPS_CFG_OUT_EN && s.ppsDue && !s.time.ppsOut then
    .next ({ s with time := { s.time with ppsOut := true, ppsRose := s.time.now } }.emit (.pps true))
  else .next s

/-- The width of the pulse in ms (R40). -/
def State.ppsWidth (s : State) : Nat := max 1 (min 999 (s.fld Fld.TIM_PPS_CFG_WIDTH_MS))

/-- PPS_OUT falls after WIDTH_MS (R40). -/
def execPpsOutFall (s : State) : Out :=
  if s.time.ppsOut && s.time.ppsRose + s.ppsWidth * ticksMs ≤ s.time.now then
    .next ({ s with time := { s.time with ppsOut := false } }.emit (.pps false))
  else .next s

/-- The bytes 1 to 14 of a time-of-day message (R41): the seconds of the next edge, UTC_OFS, clockClass and STATE. The
clockClass is that of the PTP data set, whose value the spec does not state: a free value (assumption log 2). -/
def State.todBody (s : State) : List Nat :=
  let x := s.time.phc.fine + (s.sfld Fld.TIM_PPS_CFG_OUT_COMP * 2 ^ 32) |>.toNat
  [0x01] ++ bytesOf (x / (1000000000 * 2 ^ 32) + 1) 6 ++ bytesOf (s.fld Fld.TIM_TOD_CFG_UTC_OFS) 2
    ++ [(s.free 8).toNat, s.timeState, 0, 0, 0]

/-- The time-of-day message (R41). -/
def execTodTxMessage (s : State) : Out :=
  if s.on Fld.TIM_TOD_CFG_TX_EN then
    .next (s.emit (.tod ([0x7E] ++ s.todBody ++ [crc8 s.todBody]))).tookFree
  else .next s

/-- A time-of-day message on TOD_RX, read when TSRC is 1 (R41): CE2 event 12, UTC_OFS overwritten; a bad CRC counts. -/
def execTodRxMessage (bytes : List (Fin 256)) (s : State) : Out :=
  let b := bytes.map (·.val)
  if s.fld Fld.TIM_CTRL_TSRC ≠ 1 then .next s
  else if b.length ≠ 16 || crc8 ((b.drop 1).take 14) ≠ (b.drop 15).headD 0 then .next (s.bump Fld.TIM_TOD_CFG_TOD_ERR)
  else
    let s := s.setFld Fld.TIM_TOD_CFG_UTC_OFS (ofBytes ((b.drop 8).take 2))
    .next ({ s with time := { s.time with todSec := ofBytes ((b.drop 2).take 6) } }.ceEvent 2 12)

/-- The offset at a PPS_IN edge in units of 2^-16 ns (R37): the PHC against the announced second. -/
def State.ppsOffset (s : State) : Int := s.stamp 0 - (s.time.todSec * 1000000000 * 2 ^ 16 : Nat)

/-! ### Capture inputs (R47) -/

/-- The timestamps an input holds, oldest first. -/
def State.capsOf (s : State) (ch : Nat) : List CapStamp := s.time.caps.filter (fun x => x.ch == ch)

/-- Does an input capture this edge of its source: EN, EDGE and a source that exists? -/
def State.captures (s : State) (ch : Nat) (rising : Bool) : Bool :=
  s.on (Fld.TIM_CAP_CFG_EN ch) && (s.fld (Fld.TIM_CAP_CFG_EDGE ch)).testBit (if rising then 0 else 1)
    && s.fld (Fld.TIM_CAP_CFG_SRC ch) ≤ 0x13

/-- An edge is timestamped into the 4-entry store or lost (R47). -/
def execCaptureEdge (ch : Nat) (rising : Bool) (s : State) : Out :=
  if !s.captures ch rising then .next s
  else if 4 ≤ (s.capsOf ch).length then .next (s.flag (Fld.TIM_CAP_STAT_OVF ch) true)
  else .next { s with time := { s.time with
    caps := s.time.caps ++ [{ ch, ns := s.time.phc.ns, sec := s.time.phc.sec % 2 ^ 32 }] } }

/-- Take the oldest timestamp of an input; nothing held gives 0 (R47). -/
def popCapture (s : State) (ch : Nat) : State × Word × Word :=
  match s.capsOf ch with
  | [] => (s, 0, 0)
  | x :: _ => ({ s with time := { s.time with caps := s.time.caps.erase x } }, BitVec.ofNat 32 x.ns, BitVec.ofNat 32 x.sec)

/-! ### Carrier timelines -/

/-- What uses timeline c (R49): an enabled flow, an enabled array carrier whose facets include it, or the committed plan. -/
def State.lineUsed (s : State) (c : Nat) : Bool :=
  (List.range 256).any (fun f => s.on (Fld.FPE_FLOW_CFG_EN f) && s.fld (Fld.FPE_FLOW_CFG_CAR f) == c)
    || (s.on (Fld.BFE_AC_CFG_EN (c % 8)) && (s.fld (Fld.BFE_AC_CFG_FACETS (c % 8))).testBit (c / 8))
    || (s.active (Fld.LPE_FACET_PLAN_DL_EN (c / 8))).testBit (c % 8)
    || (s.active (Fld.LPE_FACET_PLAN_UL_EN (c / 8))).testBit (c % 8)

/-- A write of EN = 1 (R48): the timeline starts at the next frame boundary. MU and ECP are taken only while EN was 0; MU 3,
and ECP with MU 1, are ignored. -/
def execAirTimelineEnable (c mu : Nat) (ecp : Bool) (s : State) : Out :=
  if s.on (Fld.TIM_AIR_CFG_EN c) then .next s
  else
    let s := if mu = 3 then s else s.setFld (Fld.TIM_AIR_CFG_MU c) mu
    let s := if ecp && s.mu c = 1 then s else s.flag (Fld.TIM_AIR_CFG_ECP c) ecp
    .next ((s.flag (Fld.TIM_AIR_CFG_EN c) true).updLine c (fun l => { l with startDue := true }))

/-- The frame boundary at which a timeline starts (R48). -/
def execAirTimelineStart (c : Nat) (s : State) : Out :=
  if s.on (Fld.TIM_AIR_CFG_EN c) && (s.line c).startDue then
    .next (s.updLine c (fun _ => { running := true }))
  else .next s

/-- A write of EN = 0 (R49). -/
def execAirTimelineDisable (c : Nat) (s : State) : Out :=
  if s.lineUsed c then .next (s.flag (Fld.TIM_AIR_CFG_REFUSED c) true)
  else .next ((s.flag (Fld.TIM_AIR_CFG_EN c) false).updLine c (fun _ => {}))

/-- A write to ALPHA or BETA (R570): the change of the air time is a step of it, in units of 0.25 ns. -/
def execAirOffsetWrite (beta : Bool) (v : Word) (s : State) : Out :=
  let t := if beta then s.setFld Fld.TIM_AIR_BETA_BETA v.toNat else s.wr Reg.TIM_AIR_ALPHA v
  let d := (t.airNsOf t.phcNs - s.airNsOf s.phcNs) * 4
  if !s.anyAnchored || d = 0 then .next t else .next (airStep t d)

/-! ### Boundaries of the air time -/

/-- TIM_AIR_LAG of a facet. -/
def lagFld (k : Nat) : Fld :=
  match k with
  | 0 => Fld.TIM_AIR_LAG_F0
  | 1 => Fld.TIM_AIR_LAG_F1
  | 2 => Fld.TIM_AIR_LAG_F2
  | _ => Fld.TIM_AIR_LAG_F3

/-- Whole f_S/4 samples of the pending offset that one boundary removes: at most 3 (R51); a sample lasts 16 × 10^9 ÷ f_S
quarter nanoseconds. -/
def State.pendSamples (s : State) : Nat :=
  min 3 ((s.sfld Fld.TIM_AIR_PEND_PEND).natAbs * (s.fsFine / 2 ^ 32) / 16000000000)

/-- What a 0.5 ms boundary leaves of a tracking error (R51, R53): `room` samples are removed, and the rest shows, within the
8 bits of the field. -/
def lagAfter (e : Int) (room : Nat) : Int :=
  let r := if 0 ≤ e then max 0 (e - room) else min 0 (e + room)
  max (-128) (min 127 r)

/-- One facet at a 0.5 ms boundary (R51 to R53, R571); SYNC_IN places it instead while the part follows (R295). -/
def halfMsFacet (room : Nat) (s : State) (k : Nat) (gain : Int) : State :=
  if !(s.facetT k).anchored || (s.facetT k).realigning || s.on Fld.RCS_SYNC_STAT_FOLLOWING then s
  else
    let lag := lagAfter (s.sfld (lagFld k) + gain) room
    let s := s.setFld (lagFld k) (unsigned 8 lag)
    let s :=
      if 32 ≤ lag.natAbs then
        reportCondition ((s.flag Fld.TIM_STATUS_AIR_DRIFT true).updFacet k (fun f => { f with drift := true })) 0x26 k
      else if lag.natAbs < 16 then
        (if (s.facetT k).drift then endCondition (s.updFacet k (fun f => { f with drift := false })) 0x26 k else s)
      else if (s.facetT k).drift then reportCondition s 0x26 k
      else s
    if 96 ≤ lag.natAbs then realignFacets s [k] true else s

/-- A 0.5 ms boundary of the air time: the same part of PEND at every anchored facet, once (R51, R55); each facet's tracking
error; and the RX trims of R258 take effect. -/
def execAirHalfMsBoundary (e0 e1 e2 e3 : Int) (s : State) : Out :=
  if !s.anyAnchored then .next s
  else
    let n := s.pendSamples
    let pend := s.sfld Fld.TIM_AIR_PEND_PEND
    let gone : Int := n * 16000000000 / (s.fsFine / 2 ^ 32)
    let s := s.setFld Fld.TIM_AIR_PEND_PEND (unsigned 16 (if 0 ≤ pend then pend - gone else pend + gone))
    let s := { s with cva := { s.cva with rxDly := (List.range 64).foldl (fun m p =>
      m.put p (s.fld (Fld.CVA_RX_DLY_INT p) * 256 + s.fld (Fld.CVA_RX_DLY_FRAC p))) s.cva.rxDly } }
    let s := halfMsFacet (40 - n) s 0 e0
    let s := halfMsFacet (40 - n) s 1 e1
    let s := halfMsFacet (40 - n) s 2 e2
    .next (halfMsFacet (40 - n) s 3 e3)

/-- The paths of facet k leave their release wait at a boundary that they resume at (R239). -/
def resumePaths (s : State) (k : Nat) : State :=
  { s with cva := { s.cva with relWait := (List.range 16).foldl (fun m i => m.put (16 * k + i) none) s.cva.relWait } }

/-- The re-anchor of a facet (R53, R56): its lag reads 0, its timelines run from symbol 0 of slot 0, its paths resume at this
boundary, since the realignment quiet ended 100 ns before it; after a step the strobes wait for their next pattern step. -/
def execRealignReanchor (k : Nat) (s : State) : Out :=
  if (s.facetT k).realigning && (s.facetT k).reanchorNs ≤ s.phcNs then
    let steps := !(s.facetT k).alone
    let t := s.updFacet k (fun f => { f with realigning := false, alone := false, reanchorNs := 0 })
    let t := t.setFld (lagFld k) 0
    let t := (List.range 8).foldl (fun t i => t.updLine (8 * k + i) (fun l => { l with muteDue := false, muted := false })) t
    let t := { t with cva := { t.cva with realignQuiet := t.cva.realignQuiet.put k false } }
    let t := t.flag Fld.TIM_STATUS_REALIGNING ((List.range 4).any (fun j => (t.facetT j).realigning))
    let t := if steps && !(List.range 4).any (fun j => (t.facetT j).realigning && !(t.facetT j).alone) then
      { t with mon := { t.mon with stepped := 0 } } else t
    .next (settleStrobes (resumePaths (settle s t) k))
  else .next s

end Sys2Proof.Machine
end

