-- ==== Sys2Proof/Machine/Ports.lean ====
section
/-! DEFINITION. Machine/Ports.lean: fronthaul ports, port groups and the placement of flows (R60, R63 to R69, R312), and the
serial lanes they run on: roles, training, Lane Quality Index, degradation and retirement, tests (R299 to R322). -/

namespace Sys2Proof.Machine

/-! ### Groups and loads -/

/-- The members a group keeps: those no lower-numbered group names (R63). -/
def State.groupMembers (s : State) (g : Nat) : Nat :=
  maskOf 8 (fun n => (s.fld (Fld.FPE_GRP_CFG_MEMBERS g)).testBit n
    && (List.range g).all (fun h => !(s.fld (Fld.FPE_GRP_CFG_MEMBERS h)).testBit n))

def State.portUp (s : State) (n : Nat) : Bool := s.on (Fld.FPE_PORT_STAT_UP n)

/-- Set UP of a port in both places that show it. -/
def setPortUp (s : State) (n : Nat) (b : Bool) : State :=
  let s := s.flag (Fld.FPE_PORT_STAT_UP n) b
  s.setFld Fld.FPE_STATUS_PORT_UP (putBit (s.fld Fld.FPE_STATUS_PORT_UP) n b)

/-- A flow's state (R82): 0 IDLE, 1 ARMED, 2 LIVE, 3 STARVED, 4 QUIESCENT. -/
def State.flowState (s : State) (f : Nat) : Nat := s.fld (Fld.FPE_FLOW_STAT_STATE f)

/-- The flows assigned to a port (R64). -/
def State.flowsOn (s : State) (n : Nat) : List Nat :=
  (List.range 256).filter (fun f =>
    s.flowState f != 0 && !s.on (Fld.FPE_FLOW_STAT_SHED f) && s.fld (Fld.FPE_FLOW_STAT_PORT f) == n)

/-- The load of a port without flow f, in 10 Mb/s (R65). -/
def State.portLoad (s : State) (n f : Nat) : Nat :=
  ((s.flowsOn n).filter (fun g => g != f)).foldl (fun l g => l + s.fld (Fld.FPE_FLOW_RATE_RATE g)) 0

/-- The usable capacity of a port, in 10 Mb/s (R65). -/
def State.portCapacity (s : State) (n : Nat) : Nat :=
  match s.fld (Fld.FPE_PORT_CFG_RATE n) with
  | 0 => 950
  | 1 => 2375
  | 2 => 4750
  | _ => 0

/-- The up ports of a flow's group. -/
def State.portsFor (s : State) (f : Nat) : List Nat :=
  (List.range 8).filter (fun n => (s.groupMembers (s.fld (Fld.FPE_FLOW_CFG_GROUP f))).testBit n && s.portUp n)

/-- Does a flow fit within the usable capacity of a port (R67)? -/
def State.fits (s : State) (f n : Nat) : Bool :=
  s.portLoad n f + s.fld (Fld.FPE_FLOW_RATE_RATE f) ≤ s.portCapacity n

/-- Of some ports the one with the lowest load, the lowest-numbered of equals (R66). -/
def State.leastLoaded (s : State) (f : Nat) (ports : List Nat) : Option Nat :=
  ports.foldl (fun best n =>
    match best with
    | none => some n
    | some m => if s.portLoad n f < s.portLoad m f then some n else some m) none

/-- Assign a flow to a port; the event of a shed flow ceases (R101). -/
def placeFlow (s : State) (f n : Nat) : State :=
  let s := (s.flag (Fld.FPE_FLOW_STAT_SHED f) false).setFld (Fld.FPE_FLOW_STAT_PORT f) n
  ceaseEvent s 0x802 f (some f)

/-- Leave a flow without a port (R66, R67). -/
def unplaceFlow (s : State) (f : Nat) : State :=
  (s.flag (Fld.FPE_FLOW_STAT_SHED f) true).setFld (Fld.FPE_FLOW_STAT_PORT f) 0

/-- The port of a flow at its arming (R66). -/
def assignFlow (s : State) (f : Nat) : State :=
  match s.leastLoaded f (s.portsFor f) with
  | some n => placeFlow s f n
  | none => unplaceFlow s f

/-- Move one flow to the survivor with the lowest load on which it fits, or shed it with event 0x802 (R67). -/
def moveFlow (s : State) (f : Nat) : State :=
  match s.leastLoaded f ((s.portsFor f).filter (s.fits f)) with
  | some n => placeFlow s f n
  | none => raiseEvent (unplaceFlow s f) 0x802 f (some f)

/-- Does flow f go before flow g when a port's flows move (R67): higher PRIO, then higher RATE, then lower index
(assumption log 8)? -/
def State.movesBefore (s : State) (f g : Nat) : Bool :=
  let pf := s.fld (Fld.FPE_FLOW_CFG_PRIO f)
  let pg := s.fld (Fld.FPE_FLOW_CFG_PRIO g)
  let rf := s.fld (Fld.FPE_FLOW_RATE_RATE f)
  let rg := s.fld (Fld.FPE_FLOW_RATE_RATE g)
  if pf != pg then pg < pf else if rf != rg then rg < rf else f ≤ g

/-- Insert in an order. -/
def insertBy {α : Type} (before : α → α → Bool) (x : α) : List α → List α
  | [] => [x]
  | y :: l => if before x y then x :: y :: l else y :: insertBy before x l

/-- Sort by an order, keeping the order of equals. -/
def sortBy {α : Type} (before : α → α → Bool) (l : List α) : List α := l.foldr (insertBy before) []

/-- Move the flows of a port that is down (R67). -/
def moveFlows (s : State) (n : Nat) : State :=
  (sortBy s.movesBefore (s.flowsOn n)).foldl moveFlow s

/-- Declare a port down (R67, R312): by its lane with DOWN_EVT and event 0x801, by a write without them, ceasing an event that
stands. -/
def portDown (s : State) (n : Nat) (write : Bool) : State :=
  if !s.portUp n then s
  else
    let s := setPortUp s n false
    if write then moveFlows (ceaseEvent s 0x801 n) n
    else raiseEvent (s.flag (Fld.FPE_PORT_STAT_DOWN_EVT n) true) 0x801 n

/-- Place the shed flows of a port's group, and mark its other flows for rebalancing (R69). -/
def placeShed (s : State) (n : Nat) : State :=
  let flows := (List.range 256).filter (fun f => s.flowState f != 0
    && (s.groupMembers (s.fld (Fld.FPE_FLOW_CFG_GROUP f))).testBit n)
  let shed := flows.filter (fun f => s.on (Fld.FPE_FLOW_STAT_SHED f))
  let t := shed.foldl assignFlow s
  if s.on Fld.FPE_CTRL_REBALANCE then
    t.updFpe (fun x => { x with rebal := x.rebal ++ (flows.filter (fun f => !shed.contains f && !x.rebal.contains f)) })
  else t

/-! ### Lanes -/

/-- A lane's state (R308): 0 OFF, 1 TRAINING, 2 LOCKED, 3 DEGRADED, 4 RETIRED, 5 TEST. -/
def State.laneState (s : State) (l : Nat) : Nat := s.fld (Fld.SRD_LANE_STAT_STATE l)

/-- Is a lane LOCKED or DEGRADED? -/
def State.inService (s : State) (l : Nat) : Bool := s.laneState l == 2 || s.laneState l == 3

def State.updLane (s : State) (l : Nat) (f : LaneDyn → LaneDyn) : State :=
  { s with srd := { s.srd with lanes := s.srd.lanes.upd l f } }

def State.laneDyn (s : State) (l : Nat) : LaneDyn := s.srd.lanes.at l

/-- Is the role written to a lane refused (R300)? -/
def State.badRole (s : State) (l : Nat) : Bool :=
  match s.fld (Fld.SRD_LANE_CFG_ROLE l) with
  | 2 => !s.persona || 4 ≤ l
  | 3 => l < 8 || (List.range 4).any (fun q => s.fld (Fld.SRD_LANE_CFG_ROLE (l / 4 * 4 + q)) != 3)
  | _ => false

/-- The role a lane acts in (R299, R300): 0 OFF, 1 FH, 2 CPRI, 3 STRAND. -/
def State.laneRole (s : State) (l : Nat) : Nat :=
  if s.badRole l then 0 else s.fld (Fld.SRD_LANE_CFG_ROLE l)

/-- Is a rate and FEC pair permitted (R60)? -/
def rateFecOk (rate fec : Nat) : Bool :=
  match rate with
  | 0 => fec ≤ 1
  | 1 => fec ≤ 2
  | 2 => fec == 3
  | _ => false

/-- The port that holds a lane (R60): of the enabled ports that name it, the one enabled earliest. -/
def State.holder (s : State) (l : Nat) : Option Nat :=
  s.fpe.portOrder.find? (fun n => s.fld (Fld.FPE_PORT_CFG_LANE n) == l)

/-- Is a port's configuration in force (R60, R301)? -/
def State.portOk (s : State) (n : Nat) : Bool :=
  let l := s.fld (Fld.FPE_PORT_CFG_LANE n)
  s.on (Fld.FPE_PORT_CFG_EN n) && s.holder l == some n && s.laneRole l == 1
    && rateFecOk (s.fld (Fld.FPE_PORT_CFG_RATE n)) (s.fld (Fld.FPE_PORT_CFG_FEC n))

/-- What a lane serves: its role, and for FH the port and the rate and FEC it runs at; none when it is powered down. -/
def State.laneUse (s : State) (l : Nat) : Option (Nat × Nat × Nat × Nat) :=
  match s.laneRole l with
  | 1 => match s.holder l with
    | some n => if s.portOk n then some (1, n, s.fld (Fld.FPE_PORT_CFG_RATE n), s.fld (Fld.FPE_PORT_CFG_FEC n)) else none
    | none => none
  | 2 => some (2, 0, 0, 0)
  | 3 => some (3, 0, 0, 0)
  | _ => none

/-- Is a generator, checker or loopback of a lane enabled (R320 to R322)? -/
def testBits (v : Word) : Bool := 1 ≤ v.toNat / 2 ^ 30 || (1 ≤ v.toNat / 2 ^ 26 % 8 && v.toNat / 2 ^ 26 % 8 ≤ 3)

/-- Are the test rate and modulation within their limits (R320)? -/
def State.testRateOk (s : State) (l : Nat) : Bool :=
  let r := s.fld (Fld.SRD_LANE_TRATE_TRATE l)
  if s.on (Fld.SRD_LANE_CFG_MOD l) then 20000000 ≤ r && r ≤ 56250000 else 1250000 ≤ r && r ≤ 28125000

/-- Does the pattern suit the modulation (R320)? -/
def State.patternOk (s : State) (l : Nat) : Bool :=
  let p := s.fld (Fld.SRD_LANE_PRBS_PATTERN l)
  (p == 5 || p == 6 || p == 7) == s.on (Fld.SRD_LANE_CFG_MOD l)

/-- The state in which a lane begins under its present configuration (R305, R308, R320). -/
def State.firstState (s : State) (l : Nat) : Nat :=
  if testBits (s.rd (Reg.SRD_LANE_PRBS l)) then (if s.testRateOk l then 5 else 0)
  else if (s.laneUse l).isSome then 1 else 0

/-- Set a bit of a summary field. -/
def setBit (s : State) (f : Fld) (l : Nat) (b : Bool) : State := s.setFld f (putBit (s.fld f) l b)

/-- A lane takes a state: the summary registers show it, and a port whose lane leaves LOCKED and DEGRADED goes down (R308,
R312). -/
def setLane (s : State) (l st : Nat) (write : Bool) : State :=
  let was := s.inService l
  let s := s.setFld (Fld.SRD_LANE_STAT_STATE l) st
  let s := setBit s Fld.SRD_STATUS_LOCKED l (st == 2 || st == 3)
  let s := setBit s Fld.SRD_STATUS_DEGRADED l (st == 3)
  let s := setBit s Fld.SRD_SERVICE_RETIRED l (st == 4)
  let s := setBit s Fld.SRD_SERVICE_TEST l (st == 5)
  let s := if st == 4 then s else s.flag (Fld.SRD_LANE_STAT_RLOCK l) false
  let now := s.inService l
  if now && !was then s.updLane l (fun d => { d with upSince := some s.time.now })
  else if was && !now then
    let s := s.updLane l (fun d => { d with upSince := none })
    (List.range 8).foldl (fun s n =>
      if s.fld (Fld.FPE_PORT_CFG_LANE n) == l then portDown s n write else s) s
  else s

/-- Return a source to IDLE as a clear does, without a recovery (R311). -/
def idleSource (s : State) (kind unit : Nat) : State :=
  match s.knownEntry (faultCode s kind unit) with
  | some i => if s.srcState i == 0 then s
              else settle s ((releaseSource s i).updSrc i (fun e => { e with recov := [] }))
  | none => s

/-- A write takes a lane out of service (R311): its sources return to IDLE and it starts again under its configuration. -/
def restartLane (s : State) (l : Nat) : State :=
  let st := s.laneState l
  let s := if st == 4 then idleSource s 0x31 l else if st == 3 then idleSource s 0x30 l else s
  let s := s.updLane l (fun d => { minSeen := d.minSeen })
  let s := s.setFld (Fld.SRD_LANE_LQI_LQI l) 0
  let s := setLane s l 0 true
  setLane s l (s.firstState l) true

/-- Judge ports and lanes again after a write (R60, R63, R300, R301): a lane whose use changed restarts, and a port that lost
its configuration goes down at the write. `force` names lanes that restart in any case. -/
def judge (old s : State) (force : List Nat) : State :=
  let s := (List.range 8).foldl (fun s n =>
    s.flag (Fld.FPE_PORT_STAT_BAD_CFG n) (s.on (Fld.FPE_PORT_CFG_EN n) && !s.portOk n)) s
  let s := (List.range 8).foldl (fun s n =>
    if s.portUp n && (!s.portOk n || old.rd (Reg.FPE_PORT_CFG n) != s.rd (Reg.FPE_PORT_CFG n)
        && (old.laneUse (s.fld (Fld.FPE_PORT_CFG_LANE n)) != s.laneUse (s.fld (Fld.FPE_PORT_CFG_LANE n)))) then
      portDown s n true else s) s
  (List.range 16).foldl (fun s l =>
    if force.contains l || old.laneUse l != s.laneUse l then restartLane s l else s) s

/-! ### Port commands -/

/-- A write to FPE_PORTn_CFG (R60, R67, R301, R311). -/
def execPortConfigWrite (n : Fin 8) (v : Word) (s : State) : Out :=
  let t := s.writeRw (Reg.FPE_PORT_CFG n) v
  let en := t.on (Fld.FPE_PORT_CFG_EN n)
  let order := if !en then s.fpe.portOrder.filter (fun m => m != n.val)
    else if s.fpe.portOrder.contains n.val then s.fpe.portOrder else s.fpe.portOrder ++ [n.val]
  .next (judge s (t.updFpe (fun x => { x with portOrder := order })) [])

/-- A write to FPE_GRPg_CFG (R63, R67, R69): ports that leave a group go down at the write, and the flows of a group leave
ports that no group names; a port that joins a group is placed as one that comes up. -/
def execPortGroupWrite (g : Fin 4) (v : Word) (s : State) : Out :=
  let t := s.writeRw (Reg.FPE_GRP_CFG g) v
  let t := (List.range 4).foldl (fun t h =>
    t.flag (Fld.FPE_GRP_CFG_BAD h) (t.groupMembers h != t.fld (Fld.FPE_GRP_CFG_MEMBERS h))) t
  let left (n : Nat) : Bool := (List.range 4).any (fun h => (s.groupMembers h).testBit n && !(t.groupMembers h).testBit n)
  let joined (n : Nat) : Bool := (List.range 4).any (fun h => (t.groupMembers h).testBit n && !(s.groupMembers h).testBit n)
  let t := (List.range 8).foldl (fun t n => if left n then portDown t n true else t) t
  .next ((List.range 8).foldl (fun t n => if joined n && t.portUp n then placeShed t n else t) t)

/-- PORT_DOWN (R67, R68, R312): a port whose lane is out of service is down, and its flows move. -/
def execPortDown (n : Fin 8) (s : State) : Out :=
  if s.inService (s.fld (Fld.FPE_PORT_CFG_LANE n)) && s.portUp n then .next s
  else .next (moveFlows (portDown s n false) n)

/-- Has the lane of a port been LOCKED or DEGRADED without a break for 1 ms (R312)? -/
def State.portReady (s : State) (n : Nat) : Bool :=
  let l := s.fld (Fld.FPE_PORT_CFG_LANE n)
  s.portOk n && s.inService l && match (s.laneDyn l).upSince with
    | some t => t + ticksMs ≤ s.time.now
    | none => false

/-- PORT_UP (R69, R312): event 0x801 ceases and shed flows are placed. -/
def execPortUp (n : Fin 8) (s : State) : Out :=
  if s.portReady n && !s.portUp n then .next (placeShed (ceaseEvent (setPortUp s n true) 0x801 n) n)
  else .next s

/-- FLOW_REBALANCE (R69): at a slot boundary a flow that waits, with no frame queued on its old port, is assigned again. -/
def execFlowRebalance (f : Fin 256) (s : State) : Out :=
  if s.on Fld.FPE_CTRL_REBALANCE && s.fpe.rebal.contains f.val && (s.fpe.flows.at f).ulQueue.isEmpty then
    .next (assignFlow (s.updFpe (fun x => { x with rebal := x.rebal.filter (fun g => g != f.val) })) f)
  else .next s

/-! ### Lane commands -/

/-- A write to SRD_LANEl_CFG or, with `trate`, to SRD_LANEl_TRATE (R300, R304, R311): a change restarts the lane; a refused
role sets BAD_CFG of every lane it makes act as OFF. In the persona the role of L0 to L3 is the image's. -/
def execLaneConfigWrite (l : Fin 16) (trate : Bool) (v : Word) (s : State) : Out :=
  let r := if trate then Reg.SRD_LANE_TRATE l else Reg.SRD_LANE_CFG l
  let v := if !trate && s.persona && l.val < 4 then setField 30 2 v (s.fld (Fld.SRD_LANE_CFG_ROLE l)) else v
  let t := s.writeRw r v
  let t := (List.range 16).foldl (fun t i =>
    if t.badRole i && (i == l.val && !trate || !s.badRole i) then t.flag (Fld.SRD_LANE_STAT_BAD_CFG i) true else t) t
  .next (judge s t (if s.rd r == t.rd r then [] else [l.val]))

/-- JTAG reaches only IDCODE, BYPASS, SAMPLE/PRELOAD and the challenge (R457): the Locket is sealed, not by this session over
JTAG, and no answer has passed. -/
def State.jtagLocked (s : State) : Bool :=
  s.on Fld.LKT_STAT_SEALED && !s.on Fld.LKT_STAT_JTAG_OPEN && !s.mon.sealJtag

/-- Is an EXTEST instruction in force (R323, R558)? No lane is in service then. -/
def State.extest (s : State) : Bool := [0x00, 0x09, 0x0A].contains s.acc.jtag.ir && !s.jtagLocked

/-- May a lane train: TRAINING, or RETIRED with the 1 ms of R310 over, and no EXTEST in force? -/
def State.trains (s : State) (l : Nat) : Bool :=
  !s.extest && (s.laneState l == 1 || (s.laneState l == 4 && (s.laneDyn l).retiredAt.isNone && !s.on (Fld.SRD_LANE_STAT_RLOCK l)))

/-- LANE_TRAINING_ATTEMPT (R305, R306): LOS shows the signal detector; with a signal the receiver tries all CTLE settings and
keeps the best, unless ADAPT_EN is 0. -/
def execLaneTrainingAttempt (l : Fin 16) (signal : Bool) (ctle : Fin 16) (h1 : Byte) (s : State) : Out :=
  let s := s.flag (Fld.SRD_LANE_STAT_LOS l) (!signal)
  if s.trains l && signal then
    let s := if s.on (Fld.SRD_LANE_RXEQ_ADAPT_EN l) then
      (s.setFld (Fld.SRD_LANE_RXEQ_CTLE l) ctle).setFld (Fld.SRD_LANE_RXEQ_DFE_H1 l) h1.toNat else s
    .next (s.updLane l (fun d => { d with attempt := true }))
  else .next s

/-- LANE_LOCK (R304, R305, R310): a lane in TRAINING becomes LOCKED; a RETIRED lane shows RLOCK. `inv` says that inverted
comma characters were found. -/
def execLaneLock (l : Fin 16) (inv : Bool) (s : State) : Out :=
  if s.trains l && (s.laneDyn l).attempt then
    let auto := s.on (Fld.SRD_LANE_CFG_AUTO_POL l) && 2 ≤ s.laneRole l && inv
    let s := s.flag (Fld.SRD_LANE_STAT_POL_INV l) (s.on (Fld.SRD_LANE_CFG_RX_INV l) != auto)
    let s := s.updLane l (fun d => { d with attempt := false, lowRun := 0, trialRun := 0, highRun := 0, trial := false })
    if s.laneState l = 1 then .next (setLane s l 2 false) else .next (s.flag (Fld.SRD_LANE_STAT_RLOCK l) true)
  else .next s

/-- LANE_TRAINING_TIMEOUT (R305): training starts again at once. -/
def execLaneTrainingTimeout (l : Fin 16) (s : State) : Out :=
  .next (s.updLane l (fun d => { d with attempt := false }))

/-- LANE_RETRAIN_START (R310). -/
def execLaneRetrainStart (l : Fin 16) (s : State) : Out :=
  match (s.laneDyn l).retiredAt with
  | some t => if s.laneState l = 4 && t + ticksMs ≤ s.time.now then
      .next (s.updLane l (fun d => { d with retiredAt := none })) else .next s
  | none => .next s

/-- LANE_LOCK_LOSS (R309, R310). -/
def execLaneLockLoss (l : Fin 16) (s : State) : Out :=
  if s.inService l then .next (s.bump (Fld.SRD_LANE_CNT_LOCK_LOSS l))
  else if s.laneState l = 4 then
    .next ((s.flag (Fld.SRD_LANE_STAT_RLOCK l) false).updLane l (fun d => { d with highRun := 0 }))
  else .next s

/-- q_eye of R307, rounded half up. -/
def qEye (h h0 : Nat) : Nat := if h0 = 0 then 0 else min 255 ((2 * 255 * h + h0) / (2 * h0))

/-- q_err of R307: the nearest whole number to -16 × log10 of the ratio of `err` to `bits`, by exact comparison: n is reached
when (bits ÷ err)^32 is at least 10^(2n - 1). -/
def qErr (err bits : Nat) : Nat :=
  if err = 0 then 255
  else ((List.range 255).filter (fun n => 10 ^ (2 * n + 1) * err ^ 32 ≤ bits ^ 32)).length

/-- LQI_RETIRE as it applies (R308): absent when no lane retires on its LQI. -/
def State.lqiRetire (s : State) : Option Nat :=
  let w := s.fld Fld.SRD_CTRL_LQI_WARN
  let r := s.fld Fld.SRD_CTRL_LQI_RETIRE
  if r < w then some r else if w = 0 then none else some (w - 1)

/-- A lane retires (R308, R310): kind LANE_RETIRED, and the DEGRADED condition ends. -/
def retireLane (s : State) (l : Nat) : State :=
  let s := if s.laneState l == 3 then endCondition s 0x30 l else s
  let s := setBit s Fld.SRD_EVT_RETIRE_EVT l true
  let s := s.bump (Fld.SRD_LANE_CNT_RETIRES l)
  let s := s.updLane l (fun d => { minSeen := d.minSeen, retiredAt := some s.time.now })
  reportCondition (setLane s l 4 false) 0x31 l

/-- Show a lane's LQI (R307). -/
def showLqi (s : State) (l eye err lqi : Nat) : State :=
  let d := s.laneDyn l
  let s := s.setFld (Fld.SRD_LANE_LQI_EYE l) eye
  let s := s.setFld (Fld.SRD_LANE_LQI_ERR l) err
  let s := pmonSample (s.setFld (Fld.SRD_LANE_LQI_LQI l) lqi) 9 (some l) lqi
  let s := s.setFld (Fld.SRD_LANE_LQI_LQI_MIN l) (if d.minSeen then min (s.fld (Fld.SRD_LANE_LQI_LQI_MIN l)) lqi else lqi)
  s.updLane l (fun d => { d with minSeen := true })

/-- Evaluations in QUIET_PERIOD: one every 10 µs. -/
def State.quietEvals (s : State) : Nat := s.quietPeriod / 8000

/-- A lane in service at an evaluation (R306 to R308). -/
def evalService (s : State) (l : Nat) (m : LaneMeas) (lqi : Nat) : State :=
  let d := s.laneDyn l
  let cpri := s.laneRole l == 2
  let low := lqi < s.fld Fld.SRD_CTRL_LQI_WARN
  let belowRetire := match s.lqiRetire with
    | some r => lqi < r
    | none => false
  if !cpri && (m.lost || (m.locked && !d.trial && belowRetire)) then retireLane s l
  else
    let s := s.updLane l (fun d => { d with
      lowRun := if low then d.lowRun + 1 else 0
      trialRun := if low && !d.trial then d.trialRun + 1 else 0
      highRun := if low then 0 else d.highRun + 1 })
    let d := s.laneDyn l
    let s := if 100 ≤ d.trialRun && s.on (Fld.SRD_LANE_RXEQ_ADAPT_EN l) then
      s.updLane l (fun d => { d with trial := true, trialRun := 0 }) else s
    if s.laneState l = 2 && 100 ≤ d.lowRun then
      reportCondition (setLane (setBit s Fld.SRD_EVT_DEGRADE_EVT l true) l 3 false) 0x30 l
    else if s.laneState l = 3 && 100 ≤ d.highRun then endCondition (setLane s l 2 false) 0x30 l
    else if s.laneState l = 3 then reportCondition s 0x30 l
    else s

/-- A RETIRED lane at an evaluation (R308, R310): once its LQI has held for QUIET_PERIOD it is LOCKED again and one recovery
counts (assumption log 9). -/
def evalRetired (s : State) (l : Nat) (m : LaneMeas) (lqi : Nat) : State :=
  let good := m.locked && s.on (Fld.SRD_LANE_STAT_RLOCK l) && s.fld Fld.SRD_CTRL_LQI_WARN ≤ lqi
  let s := if m.locked then s else s.flag (Fld.SRD_LANE_STAT_RLOCK l) false
  let s := s.updLane l (fun d => { d with highRun := if good then d.highRun + 1 else 0 })
  if good && s.quietEvals ≤ (s.laneDyn l).highRun then
    let s := endCondition (setLane s l 2 false) 0x31 l
    match s.knownEntry (faultCode s 0x31 l) with
    | some i => if s.srcState i = 1 then recoverSource s i else s
    | none => s
  else reportCondition s 0x31 l

/-- One lane at an evaluation. -/
def evalLane (s : State) (l : Nat) (m : LaneMeas) : State :=
  let eye := if m.locked then qEye m.eye m.eyeMax else 0
  let err := if m.locked then qErr m.err m.bits else 0
  let lqi := min eye err
  match s.laneState l with
  | 2 => evalService (showLqi s l eye err lqi) l m lqi
  | 3 => evalService (showLqi s l eye err lqi) l m lqi
  | 4 => evalRetired (showLqi s l eye err lqi) l m lqi
  | _ => s.setFld (Fld.SRD_LANE_LQI_LQI l) 0

/-- LQI_EVALUATE (R307, R308; R38): every lane in turn; a SyncE source whose lane left service is given up. -/
def execLqiEvaluate (meas : List LaneMeas) (s : State) : Out :=
  let t := (List.range 16).foldl (fun t l => evalLane t l (meas.getD l default)) s
  let a := s.fld Fld.TIM_SYNCE_STAT_ACTIVE
  if s.on Fld.TIM_SYNCE_CFG_EN && s.inService a && !t.inService a then .next (synceSwitch t) else .next t

/-- CTLE_TRIAL (R306): of the setting in force and its two neighbours the best is kept: 0 the lower, 1 the one in force, 2 the
higher. The count starts again. -/
def execCtleTrial (l : Fin 16) (best : Fin 3) (s : State) : Out :=
  if (s.laneDyn l).trial then
    let c := s.fld (Fld.SRD_LANE_RXEQ_CTLE l)
    let s := s.setFld (Fld.SRD_LANE_RXEQ_CTLE l) (min 15 (c + best - 1))
    .next (s.updLane l (fun d => { d with trial := false, trialRun := 0 }))
  else .next s

/-- A write to SRD_LANEl_PRBS (R320 to R322): a test enable takes the lane to TEST, its clearing back to TRAINING. -/
def writePrbs (s : State) (l : Nat) (v : Word) : State :=
  let t := s.writeRw (Reg.SRD_LANE_PRBS l) v
  let t := if t.on (Fld.SRD_LANE_PRBS_CHK_EN l) then t.wr64 (Reg.SRD_LANE_PRBS_BITS_LO l) 0
           else t.flag (Fld.SRD_LANE_PRBS_CHK_LOCK l) false
  let test := testBits (t.rd (Reg.SRD_LANE_PRBS l))
  let t := if test && (!t.testRateOk l || (t.on (Fld.SRD_LANE_PRBS_GEN_EN l) && !t.patternOk l)) then
    t.flag (Fld.SRD_LANE_STAT_BAD_CFG l) true else t
  if test != (s.laneState l == 5) then restartLane t l else t

/-- PRBS_TEST_ENABLE (R320). -/
def execPrbsTestEnable (l : Fin 16) (v : Word) (s : State) : Out := .next (writePrbs s l v)

/-- TEST_EXIT (R308). -/
def execTestExit (l : Fin 16) (v : Word) (s : State) : Out := .next (writePrbs s l v)

/-- PRBS_CHECKER_LOCK (R321): the checker locks or loses lock; `bits` and `errs` were compared and found wrong while it was
locked until now. -/
def execPrbsCheckerLock (l : Fin 16) (lock : Bool) (bits errs : Nat) (s : State) : Out :=
  if s.laneState l = 5 && s.on (Fld.SRD_LANE_PRBS_CHK_EN l) then
    let s := if s.on (Fld.SRD_LANE_PRBS_CHK_LOCK l) then
        (s.bump (Fld.SRD_LANE_PRBS_ERR_ERR l) errs).wr64 (Reg.SRD_LANE_PRBS_BITS_LO l)
          (min (2 ^ 64 - 1) (s.rd64 (Reg.SRD_LANE_PRBS_BITS_LO l) + bits))
      else s
    .next (s.flag (Fld.SRD_LANE_PRBS_CHK_LOCK l) lock)
  else .next s

end Sys2Proof.Machine
end

