-- ==== Sys2Proof/Machine/Weights.lean ====
section
/-! DEFINITION. Machine/Weights.lean: the weight store and the solver (R139 to R168): lookup, pins, locks and eviction, library
fetches, late weights, dynamic and channel sets, and the regularised zero-forcing solution. Bytes of memory are taken least
significant first (assumption log 6). -/

namespace Sys2Proof.Machine

/-! ### Number formats (R76, R111, R115, R154) -/

def sat16 (v : Int) : Int := max (-32768) (min 32767 v)
def sat18 (v : Int) : Int := max (-131072) (min 131071 v)

/-- Round half up after a shift right of n bits. -/
def rndHu (v : Int) (n : Nat) : Int := if n = 0 then v else (v + 2 ^ (n - 1)) / 2 ^ n

/-- Round by a mode: 1 convergent, 2 truncation, any other half up (R115). -/
def rndMode (mode : Nat) (v : Int) (n : Nat) : Int :=
  match mode with
  | 1 =>
    let q := v / 2 ^ n
    let r := v % 2 ^ n
    if 2 ^ n < 2 * r || (2 * r = 2 ^ n && q % 2 = 1) then q + 1 else q
  | 2 => v / 2 ^ n
  | _ => rndHu v n

/-- A decompressed component before saturation (R76, R154): methods 0 and 1 by the table; the others are defined by Annex A of
O-RAN.WG4.CUS.0, which the spec does not state: a free value of the operands (assumption log 2). -/
def decompRaw (meth iqw param : Nat) (x : Int) : Int :=
  let w := if iqw = 0 then 16 else iqw
  match meth with
  | 0 => x * 2 ^ (16 - w)
  | 1 => x * 2 ^ (param % 16)
  | _ => (Config.freeOf 20 [meth, w, param, unsigned 16 x]).toInt

/-- A decompressed component and whether it saturated. -/
def decompress (meth iqw param : Nat) (x : Int) : Int × Bool :=
  let v := decompRaw meth iqw param x
  (sat16 v, v != sat16 v)

/-- Two components as a word, I above Q (R140). -/
def packIq (i q : Int) : Word := BitVec.ofNat 32 (unsigned 16 i * 2 ^ 16 + unsigned 16 q)
def wordI (w : Word) : Int := signed 16 (w.toNat / 2 ^ 16)
def wordQ (w : Word) : Int := signed 16 w.toNat

/-- Pair up components, I before Q. -/
def pairs : List Int → List (Int × Int)
  | i :: q :: l => (i, q) :: pairs l
  | _ => []

/-! ### Bytes of memory -/

/-- A byte of DRAM by its data address. -/
def State.dramByte (s : State) (a : Nat) : Byte := s.mem.dram.at a

/-- A 32-bit word of DRAM. -/
def State.dramWord (s : State) (a : Nat) : Word :=
  BitVec.ofNat 32 ((s.dramByte a).toNat + 2 ^ 8 * (s.dramByte (a + 1)).toNat + 2 ^ 16 * (s.dramByte (a + 2)).toNat
    + 2 ^ 24 * (s.dramByte (a + 3)).toNat)

/-! ### The cache -/

def State.updWs (s : State) (f : WsState → WsState) : State := { s with ws := f s.ws }

def State.wset (s : State) (i : Nat) : WsSet := s.ws.sets.at i

def State.updSet (s : State) (i : Nat) (f : WsSet → WsSet) : State := s.updWs (fun w => { w with sets := w.sets.upd i f })

/-- The valid set that a test admits. -/
def State.findSet (s : State) (p : WsSet → Bool) : Option Nat :=
  (s.ws.sets.find? (fun e => e.2.valid && p e.2)).map (fun e => e.1)

/-- The keys of R139. -/
def libKey (lib b : Nat) (x : WsSet) : Bool := x.kind == 0 && x.lib == lib && x.id == b
def dynKey (a b : Nat) (x : WsSet) : Bool := x.kind == 1 && x.array == a && x.id == b
def solKey (a : Nat) (dl : Bool) (slot : Int) (g ue : Nat) (x : WsSet) : Bool :=
  x.kind == 2 && x.array == a && x.dl == dl && x.slot == slot && x.group == g && x.id == ue
def chanKey (a g ue : Nat) (x : WsSet) : Bool := x.kind == 3 && x.array == a && x.group == g && x.id == ue

/-- The set with the earliest stamp of those that a test admits. -/
def State.oldest (s : State) (limit : Nat) (p : WsSet → Bool) : Option Nat :=
  (s.ws.sets.foldl (fun (best : Option (Nat × Nat)) e =>
    if e.1 < limit && e.2.valid && e.2.refs == 0 && p e.2 then
      match best with
      | none => some (e.1, e.2.stamp)
      | some b => if e.2.stamp < b.2 then some (e.1, e.2.stamp) else some b
    else best) none).map (fun b => b.1)

/-- The set that an allocation takes (R144), below a limit: an invalid set that nothing pins, an unpinned dynamic or solver
set, the least recently used unpinned library set that is not locked, the unpinned channel set written longest ago. -/
def State.allocSet (s : State) (limit : Nat) : Option Nat :=
  match (List.range limit).find? (fun i => !(s.wset i).valid && (s.wset i).refs == 0) with
  | some i => some i
  | none =>
    match s.oldest limit (fun x => x.kind == 1 || x.kind == 2) with
    | some i => some i
    | none =>
      match s.oldest limit (fun x => x.kind == 0 && !x.locked) with
      | some i => some i
      | none => s.oldest limit (fun x => x.kind == 3)

/-- Pin a set (R143). -/
def pinSet (s : State) (i : Nat) : State := s.updSet i (fun x => { x with refs := x.refs + 1, stamp := s.time.now })

/-- Release one pin. -/
def unpinSet (s : State) (i : Nat) : State := s.updSet i (fun x => { x with refs := x.refs - 1 })

/-- Release the pins of a section. -/
def unpinSection (s : State) (c : Section) : State :=
  c.refs.foldl (fun s r => match r with
    | .set n => unpinSet s n
    | _ => s) s

/-- Remove a section from the store, its pins released. -/
def dropSection (s : State) (c : Section) : State :=
  (unpinSection s c).updFpe (fun x => { x with sections := x.sections.filter (fun d => d != c) })

/-- Release a section unprocessed, counted in SEC_DROP of its flow. -/
def dropUnprocessed (s : State) (c : Section) : State := (dropSection s c).bump (Fld.FPE_FLOW_CNT6_SEC_DROP c.flow)

/-- A pending section is released unprocessed, but for symbols already released (R82, R108, R110). -/
def stopSection (s : State) (c : Section) : State :=
  if c.out.isEmpty then dropUnprocessed s c
  else if c.todo.isEmpty then s
  else (s.updFpe (fun x => { x with sections := x.sections.map (fun d => if d == c then { d with todo := [] } else d) })).bump
    (Fld.FPE_FLOW_CNT6_SEC_DROP c.flow)

/-! ### Libraries -/

/-- Is a beamId usable in a library (R140, R141)? -/
def State.beamUsable (s : State) (lib b : Nat) : Bool :=
  s.on (Fld.BFE_WS_LIB_BASE_EN lib) && (s.dramByte (s.fld (Fld.BFE_WS_LIB_META_BASE lib) * 2 ^ 15 + b)).getLsbD 7

/-- The beam class of a library entry. -/
def State.beamCls (s : State) (lib b : Nat) : Nat :=
  (s.dramByte (s.fld (Fld.BFE_WS_LIB_META_BASE lib) * 2 ^ 15 + b)).toNat % 8

/-- The weights of a library entry (R140). -/
def State.beamWords (s : State) (lib b : Nat) : List Word :=
  (List.range 64).map (fun p => s.dramWord (s.fld (Fld.BFE_WS_LIB_BASE_BASE lib) * 2 ^ 23 + 256 * b + 4 * p))

/-- Put a fetch in the queue (R149): the first 32 are in flight, the others in the order of their weight deadlines. -/
def queueFetch (s : State) (f : WsFetch) : State :=
  let f := { f with since := s.time.now }
  let q := s.ws.fetches
  let q := if q.length < 32 then q ++ [f]
    else q.take 32 ++ insertBy (fun a b => a.deadline < b.deadline) f (q.drop 32)
  s.updWs (fun w => { w with fetches := q })

/-- Allocate a set for a library key and start its fetch (R144, R149). -/
def startFetch (s : State) (lib b limit : Nat) (deadline : Int) : State × Option Nat :=
  match s.allocSet limit with
  | some i =>
    let t := s.updSet i (fun _ => { valid := true, kind := 0, lib, id := b, stamp := s.time.now })
    (queueFetch t { lib, beam := b, set := some i, deadline }, some i)
  | none => (queueFetch (s.bump Fld.BFE_WS_CNT4_ALLOC_FAIL) { lib, beam := b, set := none, deadline }, none)

/-- Look a library key up (R149): a hit pins; a miss allocates, pins and fetches; one fetch serves all. -/
def lookupLib (s : State) (lib b : Nat) (deadline : Int) : State × WtRef :=
  match s.findSet (libKey lib b) with
  | some i => (pinSet s i, .set i)
  | none =>
    if s.ws.failed.contains (lib, b) then (s, .none)
    else if s.ws.fetches.any (fun f => f.lib == lib && f.beam == b) then (s, .await lib b)
    else match startFetch s lib b 4096 deadline with
      | (t, some i) => (pinSet t i, .set i)
      | (t, none) => (t, .await lib b)

/-- What a beamId resolves to (R141). While the store is off no lookup runs and every set is late. -/
def resolveBeam (s : State) (a lib b : Nat) (deadline : Int) : State × WtRef :=
  if b = 0 then (s, .path)
  else if !s.on Fld.BFE_WS_CTRL_EN then (s, .none)
  else match (if s.on Fld.BFE_WS_CTRL_DYN_REUSE then s.findSet (dynKey a b) else none) with
    | some i => (pinSet s i, .set i)
    | none => if s.beamUsable lib b then lookupLib s lib b deadline else (s.bump Fld.BFE_WS_CNT5_BAD_BEAM, .none)

/-! ### Dynamic and channel sets -/

/-- N of R155: how many parts' weights a vector holds. -/
def State.nTrx (s : State) : Nat :=
  match s.fld Fld.BFE_WS_CTRL_N_TRX with
  | 1 => 2
  | 2 => 4
  | _ => 1

/-- Has a weight vector the length of R155? -/
def State.vecOk (s : State) (v : BfVec) : Bool := v.comps.length == 128 * s.nTrx && v.meth ≤ 3

/-- The 64 weights of a vector from an index on, and how many components saturated (R154, R155). -/
def vecWords (v : BfVec) (first : Nat) : List Word × Nat :=
  let l := ((v.comps.drop (2 * first)).take 128).map (decompress v.meth v.iqw v.param)
  ((pairs (l.map (fun x => x.1))).map (fun p => packIq p.1 p.2), (l.filter (fun x => x.2)).length)

/-- Make a dynamic set (R156), pinned by its section; it replaces a valid one with its key. With beamId 0 it has no key. -/
def makeDynamic (s : State) (a b : Nat) (v : BfVec) : State × WtRef :=
  let (ws, sat) := vecWords v (64 * s.fld Fld.BFE_WS_CTRL_CASC_POS)
  let s := s.bump Fld.BFE_WS_CNT5_DYN_SAT sat
  let s := if b = 0 then s else match s.findSet (dynKey a b) with
    | some i => s.updSet i (fun x => { x with valid := false })
    | none => s
  if !s.on Fld.BFE_WS_CTRL_EN then (s, .none)
  else match s.allocSet 4096 with
    | some i => (s.updSet i (fun _ => { valid := b != 0, kind := 1, array := a, id := b, refs := 1, resident := true
                                        ready := s.time.now, cls := s.fld (Fld.BFE_WS_AC_CFG_DYN_CLASS a), stamp := s.time.now, w := ws }), .set i)
    | none => (s.bump Fld.BFE_WS_CNT4_ALLOC_FAIL, .none)

/-- Update a channel set (R159). -/
def makeChannel (s : State) (a g ue : Nat) (v : BfVec) : State :=
  let (ws, sat) := vecWords v 0
  let s := s.bump Fld.BFE_WS_CNT5_DYN_SAT sat
  let new : WsSet := { valid := true, kind := 3, array := a, group := g, id := ue, resident := true, stamp := s.time.now, ready := s.time.now, w := ws }
  match s.findSet (chanKey a g ue) with
  | some i => s.updSet i (fun x => { new with refs := x.refs })
  | none => match s.allocSet 4096 with
    | some i => s.updSet i (fun _ => new)
    | none => s.bump Fld.BFE_WS_CNT4_ALLOC_FAIL

/-- SOL_G of an array carrier in PRBs (R158). -/
def State.solG (s : State) (a : Nat) : Nat := 2 ^ min 4 (s.fld (Fld.BFE_WS_AC_CFG_SOL_G a))

/-! ### Late weights (R152) -/

/-- The set a flow applied to a PRB in its most recently processed symbol, if it is still valid. -/
def State.previousSet (s : State) (f prb : Nat) : Option Nat :=
  match (s.fpe.flows.at f).lastUse.find? (fun e => e.1 == prb) with
  | some e => if (s.wset e.2).valid && (s.wset e.2).resident then some e.2 else none
  | none => none

/-- The default beam of a flow, if its set is resident. -/
def State.defaultBeam (s : State) (f : Nat) : Option Nat :=
  let b := s.fld (Fld.BFE_WS_FLOW_CFG_DEF_BEAM f)
  if b = 0 then none
  else match s.findSet (libKey (s.fld (Fld.BFE_WS_FLOW_CFG_LIB f)) b) with
    | some i => if (s.wset i).resident then some i else none
    | none => none

/-- What the late-weight policy of a flow applies to a group that begins at a PRB. -/
def State.latePolicy (s : State) (f prb : Nat) : WtUse :=
  let dflt : WtUse := match s.defaultBeam f with
    | some i => .set i
    | none => .zero
  match s.fld (Fld.FPE_FLOW_CFG2_LATE_POL f) with
  | 0 => match s.previousSet f prb with
    | some i => .set i
    | none => dflt
  | 1 => dflt
  | _ => .zero

/-- What a reference gives now, if its set is on time. -/
def State.refUse (s : State) (r : WtRef) : Option WtUse :=
  match r with
  | .path => some .path
  | .set n => if (s.wset n).resident then some (.set n) else none
  | _ => none

/-- Decide the weights of a section for one symbol (R150, R152): a group whose set is not on time takes the policy, and counts
once. -/
def decideSection (s : State) (c : Section) (sym : Nat) : State :=
  if c.decided.any (fun d => d.1 == sym) || c.typ == 0 then s
  else
    let uses := c.refs.zipIdx.map (fun e => match s.refUse e.1 with
      | some u => (u, false)
      | none => (s.latePolicy c.flow (c.startPrb + e.2 * c.group), true))
    let late := (uses.filter (fun u => u.2)).length
    let s := s.bump (Fld.FPE_FLOW_CNT6_LATE_W c.flow) late
    let s := s.bump Fld.BFE_WS_CNT1_LATE late
    s.updFpe (fun x => { x with sections := x.sections.map (fun d =>
      if d == c then { d with decided := (sym, uses.map (fun u => u.1)) :: d.decided } else d) })

/-- The sets, each once, that some sections use (R451). -/
def setsOf (cs : List Section) : List Nat :=
  (cs.flatMap (fun d => d.refs.filterMap (fun r => match r with
    | .set n => some n
    | _ => none))).foldl (fun l n => if l.contains n then l else l ++ [n]) []

/-- Samples of quantity 4 for the resident sets of some sections at their deadline `tw` (R451). -/
def sampleResident (s : State) (cs : List Section) (tw : Int) : State :=
  ((setsOf cs).filter (fun n => (s.wset n).resident)).foldl (fun s n =>
    pmonSample s 4 none (nsOf (tw - (s.phcFine - ((s.time.now - (s.wset n).ready) * s.increment : Nat))))) s

/-- Samples of quantity 4 for a set that has just become resident, for the symbols of some sections that it was late for. -/
def sampleLate (s : State) (cs : List Section) : State :=
  cs.foldl (fun s d => ((d.decided.map (fun e => e.1)).filter (fun y => d.todo.contains y)).foldl (fun s y =>
    pmonSample s 4 none (nsOf (s.wtFine (s.fld (Fld.FPE_FLOW_CFG_CAR d.flow)) (s.on (Fld.FPE_FLOW_CFG_DIR d.flow))
      { d.start with symbol := y } - s.phcFine))) s) s

/-- The sections whose weights are decided at t_w of a symbol of timeline c. -/
def State.dueSections (s : State) (c : Nat) (y : SymAbs) : List Section :=
  s.fpe.sections.filter (fun d => s.fld (Fld.FPE_FLOW_CFG_CAR d.flow) == c && d.start.frame == y.frame
      && d.start.subframe == y.subframe && d.start.slot == y.slot && d.todo.contains y.symbol
      && s.wtFine c (s.on (Fld.FPE_FLOW_CFG_DIR d.flow)) y ≤ s.phcFine)

/-- WEIGHT_DEADLINE (R150, R152): t_w of a symbol of timeline c. -/
def execWeightDeadline (c : Fin 32) (y : SymAbs) (s : State) : Out :=
  let cs := s.dueSections c y
  let t := cs.foldl (fun t d => decideSection t d y.symbol) s
  let dl (b : Bool) : List Section := cs.filter (fun d => s.on (Fld.FPE_FLOW_CFG_DIR d.flow) == b)
  .next (sampleResident (sampleResident t (dl true) (s.wtFine c true y)) (dl false) (s.wtFine c false y))

/-! ### Commands of BFE_WS_CMD (R145) -/

def State.wsBusy (s : State) : Bool := s.ws.cmd.isSome

/-- A command is refused: ERR sets. -/
def wsErr (s : State) : State := s.flag Fld.BFE_WS_CMD_STAT_ERR true

/-- The sets that are locked. -/
def State.lockedCount (s : State) : Nat := (s.ws.sets.filter (fun e => e.2.locked)).length

/-- A command that waits for its fetch. -/
def wsWait (s : State) (lock : Bool) (lib b : Nat) : State :=
  (s.flag Fld.BFE_WS_CMD_STAT_BUSY true).updWs (fun w => { w with cmd := some { lock, lib, beam := b } })

/-- WS_LOAD. -/
def execWsLoad (lib : Fin 4) (b : Fin 32768) (s : State) : Out :=
  if s.wsBusy || b.val = 0 then .next (wsErr s)
  else if !s.beamUsable lib b then .next (wsErr (s.bump Fld.BFE_WS_CNT5_BAD_BEAM))
  else match s.findSet (libKey lib b) with
    | some i => .next (s.updSet i (fun x => { x with stamp := s.time.now }))
    | none => .next (wsWait (startFetch s lib b 4096 s.phcFine).1 false lib b)

/-- Lock a resident set: within sets 0 to 2,047, so a set above is copied to one of them (R145, R139). A pinned one keeps its
contents for the sections that hold it. -/
def lockSet (s : State) (i : Nat) : State :=
  if i < 2048 then s.updSet i (fun x => { x with locked := true })
  else match s.allocSet 2048 with
    | some j =>
      let x := s.wset i
      (s.updSet i (fun x => { x with valid := false })).updSet j (fun _ => { x with refs := 0, locked := true })
    | none => wsErr (s.bump Fld.BFE_WS_CNT4_ALLOC_FAIL)

/-- WS_LOCK. -/
def execWsLock (lib : Fin 4) (b : Fin 32768) (s : State) : Out :=
  if s.wsBusy || b.val = 0 then .next (wsErr s)
  else if !s.beamUsable lib b then .next (wsErr (s.bump Fld.BFE_WS_CNT5_BAD_BEAM))
  else match s.findSet (libKey lib b) with
    | some i =>
      if (s.wset i).locked then .next s
      else if 2048 ≤ s.lockedCount then .next (wsErr s)
      else if (s.wset i).resident then .next (lockSet s i) else .next (wsWait s true lib b)
    | none => if 2048 ≤ s.lockedCount then .next (wsErr s)
              else .next (wsWait (startFetch s lib b 2048 s.phcFine).1 true lib b)

/-- WS_UNLOCK. -/
def execWsUnlock (lib : Fin 4) (b : Fin 32768) (s : State) : Out :=
  if s.wsBusy || b.val = 0 then .next (wsErr s)
  else match s.findSet (libKey lib b) with
    | some i => .next (s.updSet i (fun x => { x with locked := false }))
    | none => .next s

/-- Invalidate a library set (R142): a pinned one keeps its contents for the sections that hold it; a locked one is fetched
again at once and stays locked. -/
def invalidateSet (s : State) (i : Nat) : State :=
  let x := s.wset i
  if x.locked then
    let s := if x.refs = 0 then s else s.updSet i (fun x => { x with valid := false, locked := false })
    let j := if x.refs = 0 then some i else s.allocSet 2048
    match j with
    | some j => queueFetch (s.updSet j (fun _ => { valid := true, locked := true, kind := 0, lib := x.lib, id := x.id
                                                   stamp := s.time.now }))
                  { lib := x.lib, beam := x.id, set := some j, deadline := s.phcFine }
    | none => s.bump Fld.BFE_WS_CNT4_ALLOC_FAIL
  else s.updSet i (fun x => { x with valid := false })

/-- WS_INVALIDATE (R142, R418). -/
def execWsInvalidate (lib : Fin 4) (b : Fin 32768) (s : State) : Out :=
  if s.wsBusy || b.val = 0 then .next (wsErr s)
  else
    let s := s.updWs (fun w => { w with failed := w.failed.filter (fun k => k != (lib.val, b.val)) })
    match s.findSet (libKey lib b) with
    | some i => .next (invalidateSet s i)
    | none => .next s

/-- WS_INVALIDATE_LIB (R142). -/
def execWsInvalidateLib (lib : Fin 4) (s : State) : Out :=
  if s.wsBusy then .next (wsErr s)
  else
    let t := s.updWs (fun w => { w with failed := w.failed.filter (fun k => k.1 != lib.val) })
    .next ((s.ws.sets.filter (fun e => e.2.valid && e.2.kind == 0 && e.2.lib == lib.val)).foldl
      (fun t e => invalidateSet t e.1) t)

/-- WS_CMD_BAD_OP: an OP of 0 or 6 to 15, or any command while BUSY, sets ERR and is ignored. -/
def execWsCmdBadOp (op : Fin 16) (s : State) : Out :=
  if s.wsBusy || op.val = 0 || 6 ≤ op.val then .next (wsErr s) else .next s

/-- The command in progress ends when its fetch does. -/
def endWsCmd (s : State) (lib b : Nat) (ok : Bool) : State :=
  match s.ws.cmd with
  | some c =>
    if c.lib = lib && c.beam = b then
      let s := (s.flag Fld.BFE_WS_CMD_STAT_BUSY false).updWs (fun w => { w with cmd := none })
      if !ok then wsErr s
      else if c.lock then match s.findSet (libKey lib b) with
        | some i => lockSet s i
        | none => wsErr s
      else s
    else s
  | none => s

/-- The sections that await a key take the set it now has, each pinning it. -/
def wakeAwaiting (s : State) (lib b i : Nat) : State :=
  let n := (s.fpe.sections.map (fun c => (c.refs.filter (fun r => r == .await lib b)).length)).foldl (· + ·) 0
  let s := s.updSet i (fun x => { x with refs := x.refs + n })
  s.updFpe (fun x => { x with sections := x.sections.map (fun c =>
    { c with refs := c.refs.map (fun r => if r == .await lib b then .set i else r) }) })

/-- WEIGHT_FETCH_COMPLETE (R149, R153, R418): one of the 32 fetches in flight ends. `errs` counts its uncorrectable DRAM reads:
after one it is repeated, after two its set is not resident and the key is not fetched again before an INVALIDATE. A fetch
that waited for a set takes the next free one. -/
def execWeightFetchComplete (lib : Fin 4) (b : Fin 32768) (errs : Fin 3) (s : State) : Out :=
  match (s.ws.fetches.take 32).find? (fun f => f.lib == lib.val && f.beam == b.val) with
  | none => .next s
  | some f =>
    if !s.on Fld.BFE_WS_CTRL_EN then .next s
    else
      let t := if errs.val = 0 then s else s.bump Fld.BFE_WS_CNT1_FETCH_ERR
      match (match f.set with
        | some i => some i
        | none => t.allocSet 4096) with
      | none => .next t
      | some i =>
        let t := t.updWs (fun w => { w with fetches := w.fetches.erase f })
        if errs.val = 2 then
          let t := t.updSet i (fun x => { x with valid := false, locked := false })
          let t := t.updWs (fun w => { w with failed := w.failed ++ [(lib.val, b.val)] })
          .next (endWsCmd t lib b false)
        else
          let t := t.updSet i (fun x => { x with valid := true, kind := 0, lib := lib.val, id := b.val, resident := true
                                                 ready := t.time.now
                                                 cls := t.beamCls lib b, w := t.beamWords lib b, stamp := t.time.now })
          let t := t.bump Fld.BFE_WS_CNT0_FETCHES
          let t := pmonSample t 3 none (tickNs (t.time.now - f.since))
          let t := sampleLate t (t.fpe.sections.filter (fun d => d.refs.contains (.set i)))
          .next (endWsCmd (wakeAwaiting t lib b i) lib b true)

/-! ### Solving (R158 to R164) -/

/-- CHANNEL_SET_AGE (R159): a channel set unused for CHI_AGE becomes invalid. -/
def execChannelSetAge (i : Fin 4096) (s : State) : Out :=
  let age := s.fld Fld.BFE_WS_TIMING_CHI_AGE
  let x := s.wset i
  if x.valid && x.kind = 3 && age ≠ 0 && x.stamp + age * ticksMs ≤ s.time.now then
    .next (s.updSet i (fun x => { x with valid := false }))
  else .next s

/-- SOL_HOLD in ticks. -/
def State.solHold (s : State) : Nat := max 1 (s.fld Fld.BFE_WS_TIMING_SOL_HOLD) * ticksUs

/-- The pending sections of type 5 of an array carrier, direction and slot (R160). -/
def State.ueSections (s : State) (a : Nat) (dl : Bool) (slot : Int) : List Section :=
  s.fpe.sections.filter (fun c => c.typ == 5 && s.fld (Fld.FPE_FLOW_CFG_CAR c.flow) % 8 == a
    && s.on (Fld.FPE_FLOW_CFG_DIR c.flow) == dl && symSlotNo c.start (s.mu (s.fld (Fld.FPE_FLOW_CFG_CAR c.flow))) == slot)

/-- The UE of a section in a group, if it covers the group. -/
def Section.ueOf (c : Section) (g : Nat) : Option Nat :=
  if g * c.group < c.startPrb then none
  else match c.refs[g - c.startPrb / c.group]? with
    | some (.ue u) => some u
    | _ => none

/-- The distinct UEs of a group in ascending LAYER of the first section that names each. -/
def State.groupUes (s : State) (cs : List Section) (g : Nat) : List Nat :=
  let named := cs.filterMap (fun c => (c.ueOf g).map (fun u => (s.fld (Fld.BFE_FLOW_BIND_LAYER c.flow), u)))
  let firsts := named.foldl (fun l e => if l.any (fun x => x.2 == e.2) then l else l ++ [e]) []
  (sortBy (fun a b => a.1 ≤ b.1) firsts).map (fun e => e.2)

/-- The job of one group, its excess UEs and those without a channel set counted (R160). -/
def addJob (a : Nat) (dl : Bool) (slot : Int) (cs : List Section) (s : State) (g : Nat) : State :=
  let ues := s.groupUes cs g
  if ues.isEmpty then s
  else
    let s := s.bump Fld.BFE_WS_CNT4_UE_EXCESS (ues.length - 32)
    let ues := ues.take 32
    let found := ues.filterMap (fun u => (s.findSet (chanKey a g u)).map (fun i => (u, i)))
    let s := s.bump Fld.BFE_WS_CNT3_NO_CHI (ues.length - found.length)
    let s := found.foldl (fun s e => s.updSet e.2 (fun x => { x with stamp := s.time.now })) s
    let cov := cs.filter (fun c => (c.ueOf g).isSome)
    let dls := cov.map (fun c => s.wtFine (s.fld (Fld.FPE_FLOW_CFG_CAR c.flow)) dl
      { c.start with symbol := (c.todo ++ c.out).foldl min c.start.symbol })
    match dls with
    | [] => s
    | d :: ds =>
      if found.isEmpty then s
      else
        let job : SolveJob :=
          { array := a, dl, slot, group := g, ues := found
            mask := s.rd64 (if dl then Reg.BFE_ELIDE_TX_LO else Reg.BFE_ELIDE_RX_LO), deadline := ds.foldl min d }
        s.updWs (fun w => { w with jobs := w.jobs ++ [job] })

/-- SOLVE_ISSUE (R160, R161): SOL_HOLD after the first section of type 5 of a slot. -/
def execSolveIssue (a : Fin 8) (dl : Bool) (slot : Int) (s : State) : Out :=
  if s.ws.slots.any (fun x => x.array == a.val && x.dl == dl && x.slot == slot && !x.issued
      && x.first + s.solHold ≤ s.time.now) then
    let t := s.updWs (fun w => { w with slots := w.slots.map (fun x =>
      if x.array == a.val && x.dl == dl && x.slot == slot then { x with issued := true } else x) })
    .next ((List.range 512).foldl (addJob a dl slot (s.ueSections a dl slot)) t)
  else .next s

/-- Does job x run before job y (R164)? -/
def jobBefore (x y : SolveJob) : Bool :=
  if x.deadline != y.deadline then x.deadline < y.deadline
  else if x.array != y.array then x.array < y.array
  else if x.dl != y.dl then x.dl
  else x.group ≤ y.group

/-- SOLVE_JOB_START (R164, R477): the next job in order, one every 2.5 µs, or 2, 4 or 8 times that under a throttle. -/
def execSolveJobStart (s : State) : Out :=
  let free := match s.ws.lastStart with
    | some t => t + 2000 * 2 ^ s.fld (Fld.PWS_CLIENT_LEVEL 8) ≤ s.time.now
    | none => true
  match sortBy jobBefore (s.ws.jobs.filter (fun j => j.started.isNone)) with
  | j :: _ =>
    if free && s.on Fld.BFE_WS_CTRL_EN then
      .next (s.updWs (fun w => { w with lastStart := some s.time.now, jobs := w.jobs.map (fun k =>
        if k == j then { k with started := some s.time.now } else k) }))
    else .next s
  | [] => .next s

/-- A matrix of complex binary32 numbers, sparse, by row and column below 64. -/
abbrev FpMat := SMap FpC
def FpMat.get (m : FpMat) (r c : Nat) : FpC := SMap.at m (64 * r + c)
def FpMat.set (m : FpMat) (r c : Nat) (v : FpC) : FpMat := SMap.put m (64 * r + c) v

/-- Sum of a list of terms subtracted in order. -/
def fpSubAll (v : FpC) (l : List FpC) : FpC := l.foldl fpCsub v

/-- The solution of R162: for the rows of H (channel codes, elided columns zero) and the regularisation factors, the codes of
each column; none where the Cholesky step fails. -/
def solveColumns (h : List (List (Int × Int))) (rf : List Int) : Option (List (List Word)) :=
  let n := h.length
  let us := List.range n
  let row (u : Nat) := h.getD u []
  let gramAt (u v : Nat) : FpC :=
    let z := (row u).zip (row v)
    (fpOfInt ((z.map (fun e => e.1.1 * e.2.1 + e.1.2 * e.2.2)).foldl (· + ·) 0) (-30),
     fpOfInt ((z.map (fun e => e.1.2 * e.2.1 - e.1.1 * e.2.2)).foldl (· + ·) 0) (-30))
  let g0 : FpMat := us.foldl (fun m u => us.foldl (fun m v => FpMat.set m u v (gramAt u v)) m) []
  let t := us.foldl (fun t u => (fpAdd t (FpMat.get g0 u u).1).1) 0
  -- division by U: the binary32 quotient nearest to t ÷ U
  let t := match fpOf t with
    | .fin neg m e => fpRound neg (m * 2 ^ 40 / n) (e - 40) (m * 2 ^ 40 % n != 0)
    | _ => t
  let g : FpMat := us.foldl (fun m u =>
    FpMat.set m u u ((fpAdd (FpMat.get m u u).1 (fpMul (fpOfInt (rf.getD u 0) (-15)) t).1).1, (FpMat.get m u u).2)) g0
  let eps := (fpMul t (fpOfInt 1 (-24))).1
  let chol := us.foldl (fun (acc : Option (FpMat × SMap Word)) j =>
    match acc with
    | none => none
    | some (c, r) =>
      let d := (List.range j).foldl (fun d k => (fpSub d (fpCsq (FpMat.get c j k))).1) (FpMat.get g j j).1
      if !fpLess eps d then none
      else
        let rj := (fpRsqrt d).1
        let c := FpMat.set c j j ((fpMul d rj).1, 0)
        let c := ((List.range n).drop (j + 1)).foldl (fun c i =>
          let v := fpSubAll (FpMat.get g i j) ((List.range j).map (fun k => fpCmul (FpMat.get c i k) (fpCconj (FpMat.get c j k))))
          FpMat.set c i j (fpCscale v rj)) c
        some (c, r.put j rj)) (some ([], []))
  match chol with
  | none => none
  | some (c, r) =>
    let x : FpMat := us.foldl (fun m col => us.foldl (fun m i =>
      let v := fpSubAll (if i = col then (0x3F800000, 0) else (0, 0))
        ((List.range i).map (fun k => fpCmul (FpMat.get c i k) (FpMat.get m k col)))
      FpMat.set m i col (fpCscale v (r.at i))) m) []
    let y : FpMat := us.foldl (fun m col => us.reverse.foldl (fun m i =>
      let v := fpSubAll (FpMat.get x i col)
        (((List.range n).drop (i + 1)).map (fun k => fpCmul (fpCconj (FpMat.get c k i)) (FpMat.get m k col)))
      FpMat.set m i col (fpCscale v (r.at i))) m) []
    some (us.map (fun l =>
      let ws := (List.range 64).map (fun p => us.foldl (fun a u =>
        let e := (row u).getD p (0, 0)
        fpCadd a (fpCmul (fpOfInt e.1 (-15), fpOfInt (-e.2) (-15)) (FpMat.get y u l))) ((0, 0) : FpC))
      let nn := ws.foldl (fun a w => (fpAdd a (fpCsq w)).1) 0
      let sc := (fpMul (fpRsqrt nn).1 (fpOfInt 1 15)).1
      ws.map (fun w => packIq (sat16 ((fpToInt (fpMul w.1 sc).1).getD 0)) (sat16 ((fpToInt (fpMul w.2 sc).1).getD 0)))))

/-- Store one solver set and give it to the sections that wait for it, each pinning it (R143, R144, R162). -/
def storeSolution (j : SolveJob) (s : State) (ue : Nat) (w : List Word) : State :=
  match s.allocSet 4096 with
  | none => s.bump Fld.BFE_WS_CNT4_ALLOC_FAIL
  | some i =>
    let cs := (s.ueSections j.array j.dl j.slot).filter (fun c => c.ueOf j.group == some ue)
    let new : WsSet :=
      { valid := true, kind := 2, cls := s.fld (Fld.BFE_WS_AC_CFG_SOL_CLASS j.array), id := ue
        array := j.array, dl := j.dl, par := (j.slot % 2).toNat, group := j.group, slot := j.slot, refs := cs.length
        resident := true, stamp := s.time.now, ready := s.time.now, w }
    let s := sampleLate (s.updSet i (fun _ => new)) cs
    s.updFpe (fun x => { x with sections := x.sections.map (fun c =>
      if cs.contains c then { c with refs := c.refs.set (j.group - c.startPrb / c.group) (.set i) } else c) })

/-- Has a job run for 5 µs (R164)? -/
def State.jobDue (s : State) (j : SolveJob) : Bool :=
  match j.started with
  | some t => t + 4000 ≤ s.time.now
  | none => false

/-- The channel matrix of a job: a row for each UE, elided columns zero (R162). -/
def State.jobRows (s : State) (j : SolveJob) : List (List (Int × Int)) :=
  j.ues.map (fun u => (s.wset u.2).w.zipIdx.map (fun e => if j.mask.testBit e.2 then (0, 0) else (wordI e.1, wordQ e.1)))

/-- The regularisation factors of a job's UEs. -/
def State.jobRegul (s : State) (j : SolveJob) : List Int := j.ues.map (fun u => s.ws.regul.at (65536 * j.array + u.1))

/-- SOLVE_JOB_DONE (R162 to R164): 5 µs after its start the earliest started job ends; older sets with its keys go. -/
def execSolveJobDone (s : State) : Out :=
  match s.ws.jobs.find? s.jobDue with
  | none => .next s
  | some j =>
    let s := pmonSample s 5 (some j.array) (nsOf (j.deadline - s.phcFine))
    let t := s.updWs (fun w => { w with jobs := w.jobs.erase j, sets := w.sets.map (fun e =>
      if e.2.kind == 2 && e.2.array == j.array && e.2.dl == j.dl && e.2.par == (j.slot % 2).toNat && e.2.group == j.group
        && e.2.slot != j.slot then (e.1, { e.2 with valid := false }) else e) })
    match solveColumns (s.jobRows j) (s.jobRegul j) with
    | none => .next (t.bump Fld.BFE_WS_CNT3_SOLVE_FAIL)
    | some cols =>
      .next (((j.ues.zip cols).foldl (fun t e => storeSolution j t e.1.1 e.2) t).bump Fld.BFE_WS_CNT2_SOLUTIONS)

end Sys2Proof.Machine
end

