-- ==== Sys2Proof/Machine/Spectral.lean ====
section
/-! DEFINITION. Machine/Spectral.lean: carrier grids, the NCO plan and its checks, and the commits of NCOPLAN and SYMCFG (R170
to R184, R195, R242, R453). -/

namespace Sys2Proof.Machine

/-! ### Grids (R171, R172) -/

/-- The channel bandwidths of R171, in MHz. -/
def bandwidths : List Nat := [5, 10, 15, 20, 25, 30, 40, 50, 60, 70, 80, 90, 100]

/-- A row of R171 from 5 MHz on; 0 where the combination is not valid. -/
def rbRow (lte : Bool) (mu : Nat) : List Nat :=
  if lte then (if mu = 0 then [25, 50, 75, 100] else [])
  else match mu with
    | 0 => [25, 52, 79, 106, 133, 160, 216, 270]
    | 1 => [11, 24, 38, 51, 65, 78, 106, 133, 162, 189, 217, 245, 273]
    | 2 => [0, 11, 18, 24, 31, 38, 51, 65, 79, 93, 107, 121, 135]
    | _ => []

/-- The largest N_RB of a combination, 0 for one that is not valid. -/
def maxRb (lte : Bool) (mu bw : Nat) : Nat :=
  match bandwidths.findIdx? (fun b => b == bw) with
  | some i => (rbRow lte mu).getD i 0
  | none => 0

/-- N_RB of a carrier (R171). -/
def State.nRb (s : State) (c : Nat) : Nat :=
  let n := s.fld (Fld.LPE_CAR_CFG_N_RB c)
  if n = 0 then maxRb (s.on (Fld.LPE_CAR_CFG_TYPE c)) (s.mu c) (s.fld (Fld.LPE_CAR_CFG_BW c)) else n

/-- The smallest size of R172, as its logarithm. -/
def autoLog (nrb : Nat) : Nat := ((List.range 16).find? (fun i => 128 ≤ 2 ^ i && 132 * nrb ≤ 10 * 2 ^ i)).getD 16

/-- log2 of the FFT size of a carrier. -/
def State.fftLog (s : State) (c : Nat) : Nat :=
  let n := s.fld (Fld.LPE_CAR_CFG_NFFT c)
  if n = 0 then autoLog (s.nRb c) else n

/-- Is a carrier's grid valid (R171, R172)? -/
def State.gridOk (s : State) (c : Nat) : Bool :=
  let lte := s.on (Fld.LPE_CAR_CFG_TYPE c)
  let m := maxRb lte (s.mu c) (s.fld (Fld.LPE_CAR_CFG_BW c))
  let n := s.fftLog c
  1 ≤ s.nRb c && s.nRb c ≤ m && !(lte && (s.mu c != 0 || s.ecp c))
    && 7 ≤ n && n ≤ 12 && autoLog (s.nRb c) ≤ n && 2 ^ n * 15000 * 2 ^ s.mu c ≤ 122880000

/-- The carrier rate f_c in Hz. -/
def State.carrierHz (s : State) (c : Nat) : Nat := 2 ^ s.fftLog c * 15000 * 2 ^ s.mu c

/-- Symbols per second of a numerology (R122, R184). -/
def symPerSec (mu : Nat) (ecp : Bool) : Nat := (if ecp then 12000 else 14000) * 2 ^ mu

/-! ### The NCO plan (R175 to R184) -/

/-- A candidate plan of facet k: the contents of its registers. -/
def planFld (m : SMap Word) (f : Fld) : Nat := genFld m f

/-- The carriers of facet k whose part of a direction a plan enables. -/
def planCars (m : SMap Word) (k : Nat) (dl : Bool) : List Nat :=
  ((List.range 8).filter (fun j =>
    (planFld m (if dl then Fld.LPE_FACET_PLAN_DL_EN k else Fld.LPE_FACET_PLAN_UL_EN k)).testBit j)).map (fun j => 8 * k + j)

/-- Hz in units of 2^-82 Hz: those of a 48-bit word over 2^50 of an f_S in units of 2^-32 Hz. -/
def hz82 (n : Int) : Int := n * 2 ^ 82

/-- The offset Δ of a carrier part (R175). -/
def State.planDelta (s : State) (m : SMap Word) (c : Nat) (dl : Bool) : Int :=
  let w := if dl then planFld m (Fld.LPE_CAR_DL_FTW_LO_FTW c) + 2 ^ 32 * planFld m (Fld.LPE_CAR_DL_FTW_HI_FTW c)
           else planFld m (Fld.LPE_CAR_UL_FTW_LO_FTW c) + 2 ^ 32 * planFld m (Fld.LPE_CAR_UL_FTW_HI_FTW c)
  signed 48 w * s.fsFine

/-- The window centre f_W or f_RX (R175). -/
def State.planWindow (s : State) (m : SMap Word) (k : Nat) (dl : Bool) : Int :=
  let w := if dl then planFld m (Fld.LPE_FACET_WTX_LO_FTW k) + 2 ^ 32 * planFld m (Fld.LPE_FACET_WTX_HI_FTW k)
           else planFld m (Fld.LPE_FACET_WRX_LO_FTW k) + 2 ^ 32 * planFld m (Fld.LPE_FACET_WRX_HI_FTW k)
  (w * s.fsFine * 4 : Nat)

/-- The bandwidth of a carrier in Hz. -/
def State.bwHz (s : State) (c : Nat) : Nat := s.fld (Fld.LPE_CAR_CFG_BW c) * 1000000

/-- f_S in units of 2^-82 Hz. -/
def State.fs82 (s : State) : Int := (s.fsFine : Int) * 2 ^ 50

/-- Does a window lie within one ADC Nyquist zone (checks 4 of R179 and R242)? -/
def State.inAdcZone (s : State) (f : Int) : Bool :=
  let fs := s.fs82
  (List.range 64).any (fun z => (z : Int) * fs / 4 + fs / 40 ≤ f - hz82 400000000
    && f + hz82 400000000 ≤ (z + 1 : Int) * fs / 4 - fs / 40)

/-- The zone rule of the DACs (R242). -/
def State.inDacZone (s : State) (k : Nat) (f : Int) : Bool :=
  let fs := s.fs82
  let lo := if s.on (Fld.CVA_FACET_CFG_TXMODE k) then fs / 2 + fs / 40 else fs / 40
  let hi := if s.on (Fld.CVA_FACET_CFG_TXMODE k) then fs - fs / 40 else fs / 2 - fs / 40
  lo ≤ f - hz82 400000000 && f + hz82 400000000 ≤ hi && s.inAdcZone f

/-- The rate rule of R181: R = f_S ÷ (4 f_c) is P × 2^h, P odd from 1 to 15, h from 0 to 9. -/
def State.rateOk (s : State) (c : Nat) : Bool :=
  let d := 4 * s.carrierHz c * 2 ^ 32
  s.fsFine % d = 0 && (List.range 10).any (fun h => (List.range 8).any (fun i => (2 * i + 1) * 2 ^ h * d == s.fsFine))

/-- The FFT load of some carriers in points per second (R184). -/
def State.fftLoad (s : State) (cs : List Nat) : Nat :=
  (cs.map (fun c => 16 * 2 ^ s.fftLog c * symPerSec (s.mu c) (s.ecp c))).foldl (· + ·) 0

/-- Does a band lie within one enabled range of the Locket (R453)? -/
def State.locketPermits (s : State) (lo hi : Int) : Bool :=
  (List.range 8).any (fun n => s.on (Fld.LKT_RNG_LO_EN n) && hz82 (s.fld (Fld.LKT_RNG_LO_F_KHZ n) * 1000) ≤ lo
    && hi ≤ hz82 (s.fld (Fld.LKT_RNG_HI_F_KHZ n) * 1000))

/-- The first check of R179 that a plan of facet k fails, 0 for none. -/
def State.planCause (s : State) (m : SMap Word) (k : Nat) : Nat :=
  let dl := planCars m k true
  let ul := planCars m k false
  let parts := dl.map (fun c => (c, true)) ++ ul.map (fun c => (c, false))
  if !parts.all (fun e => s.gridOk e.1 && s.on (Fld.TIM_AIR_CFG_EN e.1)) then 1
  else if !parts.all (fun e => ((s.planDelta m e.1 e.2).natAbs : Int) + hz82 (s.bwHz e.1) / 2 ≤ hz82 400000000) then 2
  else if 600000000 < (dl.map s.bwHz).foldl (· + ·) 0 || 600000000 < (ul.map s.bwHz).foldl (· + ·) 0 then 3
  else
    let window (isDl : Bool) : Bool :=
      let f := s.planWindow m k isDl
      hz82 400000000 ≤ f - hz82 400000000 && f + hz82 400000000 ≤ hz82 7200000000
        && if isDl then s.inDacZone k f else s.inAdcZone f
    if (!dl.isEmpty && !window true) || (!ul.isEmpty && !window false) then 4
    else if !parts.all (fun e => s.rateOk e.1) then 5
    else if 11010048000 < s.fftLoad dl || 11010048000 < s.fftLoad ul then 6
    else if !dl.all (fun c =>
        let f0 := s.planWindow m k true + s.planDelta m c true
        s.locketPermits (f0 - hz82 (s.bwHz c) / 2) (f0 + hz82 (s.bwHz c) / 2)) then 7
    else 0

/-- Change the spectral processing's own state. -/
def State.updLpe (s : State) (f : LpeState → LpeState) : State := { s with lpe := f s.lpe }

/-- Copy the committed values of some registers into effect. -/
def takeForce (s : State) (m : SMap Word) (regs : List Nat) : SMap Word :=
  regs.foldl (fun m a => mapSet regReset m a (mapGet regReset s.acc.active a)) m

/-- A field in effect in a direction. -/
def State.dlFld (s : State) (f : Fld) : Nat := genFld s.lpe.dlForce f
def State.ulFld (s : State) (f : Fld) : Nat := genFld s.lpe.ulForce f

/-- The window word in the DAC datapath of facet k (R180). -/
def State.wtxNow (s : State) (k : Nat) : Nat :=
  match s.lpe.wtxNext.at k with
  | some (t, w) => if t ≤ s.phcFine then w else s.lpe.wtx.at k
  | none => s.lpe.wtx.at k

/-- A DL work list of carrier c is released (R180, R195): its plan and SYMCFG values, and through the reference carrier the TX
window word from the symbol's start at the antenna. -/
def takeDlForce (s : State) (c : Nat) (y : SymAbs) : State :=
  let k := c / 8
  let m := takeForce s s.lpe.dlForce [Reg.LPE_CAR_SYM0 c, Reg.LPE_CAR_SYM1 c, Reg.LPE_CAR_DL_FTW_LO c, Reg.LPE_CAR_DL_FTW_HI c]
  -- the enable of this carrier's DL part only
  let en := putBit (genFld m (Fld.LPE_FACET_PLAN_DL_EN k)) (c % 8) ((s.active (Fld.LPE_FACET_PLAN_DL_EN k)).testBit (c % 8))
  let m := mapSet regReset m (Reg.LPE_FACET_PLAN k) (setField 24 8 (mapGet regReset m (Reg.LPE_FACET_PLAN k)) en)
  let s := s.updLpe (fun x => { x with dlForce := m })
  if s.active (Fld.LPE_FACET_PLAN_REF_CAR k) = c % 8 then
    let w := s.active (Fld.LPE_FACET_WTX_LO_FTW k) + 2 ^ 32 * s.active (Fld.LPE_FACET_WTX_HI_FTW k)
    let cur := s.wtxNow k
    if cur = w then s
    else s.updLpe (fun x => { x with wtx := x.wtx.put k cur, wtxNext := x.wtxNext.put k (some (s.symFine c y, w)) })
  else s

/-- A boundary of carrier c is realised (R180, R195): the UL values of its plan and SYMCFG group. -/
def takeUlForce (s : State) (c : Nat) : State :=
  let k := c / 8
  let m := takeForce s s.lpe.ulForce [Reg.LPE_CAR_SYM0 c, Reg.LPE_CAR_SYM1 c, Reg.LPE_CAR_UL_FTW_LO c, Reg.LPE_CAR_UL_FTW_HI c]
  let en := putBit (genFld m (Fld.LPE_FACET_PLAN_UL_EN k)) (c % 8) ((s.active (Fld.LPE_FACET_PLAN_UL_EN k)).testBit (c % 8))
  let m := mapSet regReset m (Reg.LPE_FACET_PLAN k) (setField 16 8 (mapGet regReset m (Reg.LPE_FACET_PLAN k)) en)
  s.updLpe (fun x => { x with ulForce := m })

/-- Show the committed FFT load of facet k (R184). -/
def showLoad (s : State) (k : Nat) : State :=
  let mega (n : Nat) : Nat := (n + 999999) / 1000000
  (s.setFld (Fld.LPE_FACET_LOAD_DL k) (mega (s.fftLoad (planCars s.acc.active k true)))).setFld
    (Fld.LPE_FACET_LOAD_UL k) (mega (s.fftLoad (planCars s.acc.active k false)))

/-- A commit of NCOPLAN at a boundary in cycle b (R178, R179): refused whole, or committed. -/
def commitPlan (s : State) (k b : Nat) : State :=
  let g : ShGroup := .ncoplan k
  let cause := s.planCause (s.candidate g b) k
  if cause = 0 then showLoad (commitGroup s g b) k
  else
    let t := disarm s g b
    let t := (t.flag (Fld.LPE_FACET_NCOCTL_REFUSED k) true).setFld (Fld.LPE_FACET_NCOCTL_CAUSE k) cause
    if cause = 7 then t.bump Fld.LKT_CNT_RANGE_REF else t

/-- SYMCFG_COMMIT (R195, R567). -/
def execSymcfgCommit (c : Fin 32) (s : State) : Out :=
  if s.realises (c / 8) && s.armedBefore (.symcfg c) s.cyc then .next (commitGroup s (.symcfg c) s.cyc) else .next s

/-- A write to LPE_CARc_CFG (R170): ignored while the committed plan has a part of the carrier enabled. -/
def writeCarCfg (s : State) (c : Nat) (v : Word) : State :=
  if (s.active (Fld.LPE_FACET_PLAN_DL_EN (c / 8))).testBit (c % 8) || (s.active (Fld.LPE_FACET_PLAN_UL_EN (c / 8))).testBit (c % 8)
  then s else s.writeRw (Reg.LPE_CAR_CFG c) v

end Sys2Proof.Machine
end

