-- ==== Sys2Proof/Machine/Legacy.lean ====
section
/-! DEFINITION. Machine/Legacy.lean: the frequency plans that the persona builds from LGC_CARj_FREQ, and the commit of NCOPLAN
with what the persona does after it (R178, R336, R344). -/

namespace Sys2Proof.Machine

/-- Change the persona's own state. -/
def State.updLgc (s : State) (f : LgcState → LgcState) : State := { s with lgc := f s.lgc }

/-- A frequency in kHz as a word of 2^-n of f_S, rounded half up (log 14); 0 while no f_S is set. -/
def State.freqWord (s : State) (kHz : Int) (n : Nat) : Int :=
  if s.fsFine = 0 then 0 else (2 * kHz * 1000 * 2 ^ (32 + n) + s.fsFine) / (2 * s.fsFine)

/-- The window centre in kHz (R344): carrier 0, or midway between two carriers. -/
def State.legacyCentre (s : State) : Int :=
  if s.lgc.cars.length = 2 then ((s.lgc.freq.at 0 + s.lgc.freq.at 1 : Nat) : Int) / 2 else s.lgc.freq.at 0

/-- Write the plan of facet k into its open generation, its carrier parts enabled or not, and arm it (R344). -/
def writePlan (s : State) (k : Nat) (enable : Bool) : State :=
  let n := min 2 s.lgc.cars.length
  let m := if enable then 2 ^ n - 1 else 0
  let w := (s.freqWord s.legacyCentre 48).toNat
  let put (s : State) (a v : Nat) : State := shWrite s a (BitVec.ofNat 32 v)
  let s := put (put s (Reg.LPE_FACET_WTX_LO k) w) (Reg.LPE_FACET_WTX_HI k) (w / 2 ^ 32 % 65536)
  let s := put (put s (Reg.LPE_FACET_WRX_LO k) w) (Reg.LPE_FACET_WRX_HI k) (w / 2 ^ 32 % 65536)
  let s := (List.range n).foldl (fun s j =>
    let d := unsigned 48 (s.freqWord ((s.lgc.freq.at j : Int) - s.legacyCentre) 50)
    let c := 8 * k + j
    let s := put (put s (Reg.LPE_CAR_DL_FTW_LO c) d) (Reg.LPE_CAR_DL_FTW_HI c) (d / 2 ^ 32)
    put (put s (Reg.LPE_CAR_UL_FTW_LO c) d) (Reg.LPE_CAR_UL_FTW_HI c) (d / 2 ^ 32)) s
  let s := put s (Reg.LPE_FACET_PLAN k) (m * 2 ^ 24 + m * 2 ^ 16)
  writeArm s (.ncoplan k) true

/-- The grid word of a legacy carrier (R170, R336), its other fields kept. -/
def gridWord (old : Word) (c : LegacyCar) : Word :=
  let f (d : Fld) (v : Word) (n : Nat) : Word := setField d.lo d.width v n
  f (Fld.LPE_CAR_CFG_N_RB 0) (f (Fld.LPE_CAR_CFG_NFFT 0) (f (Fld.LPE_CAR_CFG_BW 0) (f (Fld.LPE_CAR_CFG_TYPE 0) old c.lte.toNat) c.bw) 0) 0

/-- Does a carrier slot of facet k have the grid of its legacy carrier? -/
def State.gridsMatch (s : State) (k : Nat) : Bool :=
  (s.lgc.cars.zip (List.range 2)).all (fun e => gridWord (s.rd (Reg.LPE_CAR_CFG (8 * k + e.2))) e.1 == s.rd (Reg.LPE_CAR_CFG (8 * k + e.2)))

/-- Build the plan of every facet (R344): where a grid changes, a plan with the parts disabled comes first. -/
def buildPlans (s : State) : State :=
  (List.range 4).foldl (fun s k =>
    let same := s.gridsMatch k
    (writePlan s k same).updLgc (fun l => { l with regrid := l.regrid.put k (!same) })) s

/-- After a commit of NCOPLAN in the persona (R344): a facet that waits takes its grids and arms the new plan. -/
def afterPlan (s : State) (k : Nat) : State :=
  if s.lgc.regrid.at k then
    let s := (s.lgc.cars.zip (List.range 2)).foldl (fun s e =>
      s.wr (Reg.LPE_CAR_CFG (8 * k + e.2)) (gridWord (s.rd (Reg.LPE_CAR_CFG (8 * k + e.2))) e.1)) s
    (writePlan s k true).updLgc (fun l => { l with regrid := l.regrid.put k false })
  else s

/-- A commit of NCOPLAN at a boundary in cycle b; in the persona a refused one sets CFG_REFUSED, CAUSE and the CFG alarm
(R344). -/
def commitNco (s : State) (k b : Nat) : State :=
  let cause := s.planCause (s.candidate (.ncoplan k) b) k
  let t := commitPlan s k b
  if !s.persona then t
  else if cause = 0 then afterPlan t k
  else
    let t := (t.flag Fld.VP_STATUS_CFG_REFUSED true).setFld Fld.VP_STATUS_CAUSE cause
    refreshHub (setAlarm t 1)

/-- NCOPLAN_COMMIT (R178, R179, R567). -/
def execNcoplanCommit (k : Fin 4) (s : State) : Out :=
  if s.realises k && s.armedBefore (.ncoplan k) s.cyc then .next (commitNco s k s.cyc) else .next s

end Sys2Proof.Machine
end

