-- ==== Sys2Proof/Machine/Banks.lean ====
section
/-! DEFINITION. Machine/Banks.lean: the banks of the DPD actuator in use (R208 to R211), and the small updates of what the
linearisation, the converters, the memories and the cores keep. -/

namespace Sys2Proof.Machine

/-- Change the linearisation's own state, and that of one ORX and of one path. -/
def State.updLde (s : State) (f : LdeState → LdeState) : State := { s with lde := f s.lde }
def State.updOrx (s : State) (j : Nat) (f : OrxDyn → OrxDyn) : State := s.updLde (fun x => { x with orx := x.orx.upd j f })
def State.updLp (s : State) (p : Nat) (f : LdePath → LdePath) : State := s.updLde (fun x => { x with paths := x.paths.upd p f })

/-- Change the converters' own state. -/
def State.updCva (s : State) (f : CvaState → CvaState) : State := { s with cva := f s.cva }

/-- Change what the memories keep. -/
def State.updMem (s : State) (f : MemState → MemState) : State := { s with mem := f s.mem }

/-- Change a Yakea core. -/
def State.updCore (s : State) (n : Nat) (f : YCore → YCore) : State :=
  { s with dsp := { s.dsp with cores := s.dsp.cores.upd n f } }

/-- Latch an interrupt source of a core (R369). -/
def State.latchIrq (s : State) (n src : Nat) : State := s.updCore n (fun c => { c with irqPend := putBit c.irqPend src true })

/-- The reference timeline 8k + REF_CAR of facet k, by its committed plan. -/
def State.refTimeline (s : State) (k : Nat) : Nat := 8 * k + s.active (Fld.LPE_FACET_PLAN_REF_CAR k)

/-- A field of a path's DPDBANK values in effect (R211). -/
def State.bankFld (s : State) (f : Fld) : Nat := genFld s.lde.inForce f

/-- The class of a symbol for a path (R209), given the class handed to its facet. -/
def State.pathClass (s : State) (p handed : Nat) : Nat :=
  if s.bankFld (Fld.LDE_PATH_BANKSEL_FORCE p) = 1 then s.bankFld (Fld.LDE_PATH_BANKSEL_FCLASS p) else handed

/-- A DL work list of a facet's reference timeline is released: the DPDBANK values of its paths come into effect (R211), each
path has its class, and a class that names an invalid bank counts (R209, R210). -/
def useBanks (s : State) (c : Nat) (y : SymAbs) : State :=
  let k := c / 8
  if s.refTimeline k != c then s
  else
    let handed := s.ws.beamClass.at k
    let s := s.updLde (fun x => { x with syms := (x.syms.filter (fun e => e.1 != k || decide (e.2.1.frame + 1 ≥ y.frame))) ++ [(k, y, handed)] })
    (List.range 16).foldl (fun s i =>
      let p := 16 * k + i
      let s := s.updLde (fun x => { x with inForce := takeForce s x.inForce [Reg.LDE_PATH_BANKSEL p, Reg.LDE_PATH_PGAIN p] })
      let cl := s.pathClass p handed
      let s := s.setFld (Fld.LDE_PATH_STAT_CLASS p) cl
      if s.bankFld (Fld.LDE_PATH_BANKSEL_DPD_EN p) = 1 && !(s.fld (Fld.LDE_PATH_STAT_BANK_VALID p)).testBit cl then
        s.bump (Fld.LDE_PATH_CNT1_INVALID_BANK p)
      else s) s

end Sys2Proof.Machine
end

