-- ==== Sys2Proof/Machine/Fpe.lean ====
section
/-! DEFINITION. Machine/Fpe.lean: received frames and messages, windows, the U-plane buffer and the section store, flow states,
delay measurement, queued remote memory access, and event indications (R61, R62, R70 to R103, R119, R154 to R161, R190 to
R193). The commands for U-plane and C-plane messages stand for messages of frames that FRAME_RX has accepted (assumption log
10). -/

namespace Sys2Proof.Machine

/-! ### Sending frames -/

/-- Send one frame on a port (R71): MACsec takes the next PN of the slot in use, notifies 0x805 as it passes
0xC000_0000_0000_0000, and stops the port at the last PN. The flag says whether the frame goes out. -/
def sendFrame (s : State) (n : Nat) : State × Bool :=
  if !s.portUp n then (s, false)
  else if !s.on (Fld.FPE_MSEC_CFG_EN n) then (s.bump (Fld.FPE_PORT_CNT1_TX_FRAMES n), true)
  else
    let r := Reg.FPE_MSEC_TX_PN_LO n (s.fld (Fld.FPE_MSEC_CFG_TX_KEY n))
    let pn := s.rd64 r
    if pn = 2 ^ 64 - 1 then (s, false)
    else
      let s := s.wr64 r (pn + 1)
      let s := if pn < 0xC000000000000000 && 0xC000000000000000 ≤ pn + 1 then notifyEvent s 0x805 n else s
      (s.bump (Fld.FPE_PORT_CNT1_TX_FRAMES n), true)

/-- Send a frame and record what it carries. -/
def sendOn (s : State) (n : Nat) (o : Output) : State :=
  match sendFrame s n with
  | (t, true) => t.emit o
  | (t, false) => t

/-! ### Received frames -/

/-- MACsec on a received frame (R71): the frame goes on or is discarded. -/
def secCheck (s : State) (n : Nat) (f : Frame) : State × Bool :=
  if !s.on (Fld.FPE_MSEC_CFG_EN n) then (s, true)
  else match f.sec with
    | none => (s, !s.on (Fld.FPE_MSEC_CFG_STRICT n))
    | some t =>
      match (List.range 2).find? (fun k => s.fld (Fld.FPE_MSEC_RX_AN_AN n k) == t.an.val) with
      | none => (s.bump (Fld.FPE_MSEC_STAT_ICV_FAIL n), false)
      | some k =>
        let r := Reg.FPE_MSEC_RX_PN_LO n k
        let next := s.rd64 r
        let pn := t.pn.toNat
        if !t.icvOk then (s.bump (Fld.FPE_MSEC_STAT_ICV_FAIL n), false)
        else if pn + s.fld (Fld.FPE_MSEC_CFG_REPLAY_WIN n) + 1 < next then (s.bump (Fld.FPE_MSEC_STAT_REPLAY n), false)
        else (if next ≤ pn then s.wr64 r (pn + 1) else s, true)

/-- Event 0x400 for a message type, at most once a second (R73). -/
def unknownType (s : State) (t : Nat) : State :=
  let again : Bool := match s.fpe.unkAt with
    | some u => u + 1000 * ticksMs ≤ s.time.now
    | none => true
  if again then (raiseEvent s 0x400 (t % 256)).updFpe (fun x => { x with unkAt := some s.time.now }) else s

/-- One message of a frame: its type, revision and whether it fits (R73). The types the part knows are handled by the commands
of the messages. -/
def classify (s : State) (m : Nat × Nat × Bool) : State :=
  if m.2.1 != 1 || !m.2.2 then s.bump Fld.FPE_GLB_CNT0_BAD_MSG
  else if [0, 2, 4, 5, 7].contains m.1 then s
  else unknownType (s.bump Fld.FPE_GLB_CNT0_BAD_MSG) m.1

/-- The IPv6 address of the part, FPE_IPV6_0 highest (R62). -/
def State.ipv6 (s : State) : Nat := ofBytes ((List.range 4).flatMap (fun i => bytesOf (s.rd (Reg.FPE_IPV6 i)).toNat 4))

/-- What a frame carries, once accepted (R61, R62, R72, R73). -/
def frameBody (s : State) (n : Nat) (f : Frame) : State :=
  match f.kind with
  | .ecpri msgs ipBad =>
    if s.on (Fld.FPE_PORT_CFG_TAGGED n) && !f.tagged then s.bump Fld.FPE_GLB_CNT0_NO_FLOW
    else if s.on Fld.FPE_CTRL_UDP && ipBad then s.bump Fld.FPE_GLB_CNT0_BAD_MSG
    else msgs.foldl classify s
  | .ptp => s
  | .esmc => s
  | .arp target src =>
    if s.on Fld.FPE_CTRL_UDP && s.rd Reg.FPE_IPV4 == target then sendOn s n (.arp n false src) else s
  | .neighbour target src =>
    if s.on Fld.FPE_CTRL_UDP && s.ipv6 == target.toNat then sendOn s n (.arp n true src) else s
  | .other => if s.on (Fld.FPE_PORT_CFG_TAGGED n) && !f.tagged then s.bump Fld.FPE_GLB_CNT0_NO_FLOW else s

/-- FRAME_RX (R61, R71). -/
def execFrameRx (port : Fin 8) (frame : Frame) (s : State) : Out :=
  if !s.portUp port then .next s
  else if !frame.fcsOk then .next (s.bump (Fld.FPE_PORT_CNT2_FCS_ERR port))
  else
    let s := s.bump (Fld.FPE_PORT_CNT0_RX_FRAMES port)
    if frame.size < 64 || 9600 < frame.size then .next (s.bump (Fld.FPE_PORT_CNT2_SIZE_ERR port))
    else match secCheck s port frame with
      | (t, true) => .next (frameBody t port frame)
      | (t, false) => .next t

/-! ### Flows -/

def State.updFlow (s : State) (f : Nat) (g : FlowDyn → FlowDyn) : State :=
  s.updFpe (fun x => { x with flows := x.flows.upd f g })

def State.flowDyn (s : State) (f : Nat) : FlowDyn := s.fpe.flows.at f

/-- The carrier timeline of a flow. -/
def State.flowCar (s : State) (f : Nat) : Nat := s.fld (Fld.FPE_FLOW_CFG_CAR f)
def State.flowDl (s : State) (f : Nat) : Bool := s.on (Fld.FPE_FLOW_CFG_DIR f)

/-- An eAxC ID under the match mask (R79). -/
def State.masked (s : State) (e : Nat) : Nat := Nat.land e (s.fld Fld.FPE_CTRL_EAXC_MASK)

/-- The enabled flow of an eAxC ID and direction (R79). -/
def State.matchFlow (s : State) (eaxc : Nat) (dl : Bool) : Option Nat :=
  (List.range 256).find? (fun f => s.on (Fld.FPE_FLOW_CFG_EN f) && s.flowDl f == dl
    && s.masked (s.fld (Fld.FPE_FLOW_CFG_EAXC f)) == s.masked eaxc)

/-- The levels of the U-plane buffer in KiB and of the section store, and their peaks (R88, R91). -/
def refreshLevels (s : State) : State :=
  let kib := ((s.fpe.ubuf.map (fun m => m.units)).foldl (· + ·) 0 + 15) / 16
  let secs := s.fpe.sections.length
  let s := s.setFld Fld.FPE_UBUF_LVL_LEVEL kib
  let s := s.setFld Fld.FPE_UBUF_LVL_PEAK (max kib (s.fld Fld.FPE_UBUF_LVL_PEAK))
  let s := s.setFld Fld.FPE_SEC_LVL_LEVEL secs
  s.setFld Fld.FPE_SEC_LVL_PEAK (max secs (s.fld Fld.FPE_SEC_LVL_PEAK))

/-- The sections and buffered data of a flow are released (R81). -/
def releaseFlow (s : State) (f : Nat) : State :=
  let s := (s.fpe.sections.filter (fun c => c.flow == f)).foldl dropSection s
  refreshLevels (s.updFpe (fun x => { x with ubuf := x.ubuf.filter (fun m => m.flow != f) }))

/-- T2A_MIN_UP at least (R86), in register units, raised in a cascade (R133). -/
def State.minUp (s : State) (c : Nat) : Nat :=
  let base := match s.mu c, s.ecp c with
    | 0, false => 849
    | 1, false => 492
    | 2, false => 314
    | 0, true => 964
    | _, _ => 339
  base + if s.on (Fld.BFE_AC_CFG_CASC (c % 8)) && s.on Fld.BFE_STRD_CFG_EN then 20 * s.fld Fld.BFE_STRD_CFG_DEPTH else 0

/-- The window checks of R80. -/
def State.windowsOk (s : State) (f : Nat) : Bool :=
  if s.flowDl f then
    let mn := s.fld (Fld.FPE_FLOW_WIN_UP_T2A_MIN_UP f)
    let mx := s.fld (Fld.FPE_FLOW_WIN_UP_T2A_MAX_UP f)
    let adv := s.fld (Fld.FPE_FLOW_ADV_TCP_ADV_DL f)
    s.minUp (s.flowCar f) ≤ mn && mn < mx && 1000 ≤ mn + adv && mx + adv ≤ 20000
  else
    let mn := s.fld (Fld.FPE_FLOW_WIN_UL_T2A_MIN_CP_UL f)
    let mx := s.fld (Fld.FPE_FLOW_WIN_UL_T2A_MAX_CP_UL f)
    1000 ≤ mn && mn < mx && mx ≤ 20000

/-- METH and IQW allowed for a direction (R76). -/
def compOk (dl : Bool) (meth iqw : Nat) : Bool :=
  let w := if iqw = 0 then 16 else iqw
  if meth ≤ 3 then w ≤ 16 else meth == 4 && dl && w ≤ 5

/-- The checks of R80 on a flow as its registers stand. -/
def State.armOk (s : State) (f : Nat) : Bool :=
  (List.range 256).all (fun g => g == f || !(s.on (Fld.FPE_FLOW_CFG_EN g) && s.flowDl g == s.flowDl f
      && s.masked (s.fld (Fld.FPE_FLOW_CFG_EAXC g)) == s.masked (s.fld (Fld.FPE_FLOW_CFG_EAXC f))))
    && s.on (Fld.TIM_AIR_CFG_EN (s.flowCar f))
    && s.groupMembers (s.fld (Fld.FPE_FLOW_CFG_GROUP f)) != 0
    && compOk (s.flowDl f) (s.fld (Fld.FPE_FLOW_CFG2_METH f)) (s.fld (Fld.FPE_FLOW_CFG2_IQW f))
    && s.windowsOk f

/-- Set a flow's state. -/
def setFlowState (s : State) (f n : Nat) : State := s.setFld (Fld.FPE_FLOW_STAT_STATE f) n

/-- FLOW_ARM (R80, R82): the other fields of the write are taken; EN stands only when every check passes. -/
def execFlowArm (f : Fin 256) (v : Word) (s : State) : Out :=
  if s.on (Fld.FPE_FLOW_CFG_EN f) then .next s
  else
    let t := (s.writeRw (Reg.FPE_FLOW_CFG f) v).flag (Fld.FPE_FLOW_CFG_EN f) false
    if t.armOk f then
      let t := (t.flag (Fld.FPE_FLOW_CFG_EN f) true).updFlow f (fun x => { waiting := x.waiting })
      .next (assignFlow (setFlowState t f 1) f)
    else .next (t.flag (Fld.FPE_FLOW_STAT_BAD_CFG f) true)

/-- Take a flow's configuration writes that waited for a slot boundary (R81). -/
def takeWaiting (s : State) (f : Nat) : State :=
  ((s.flowDyn f).waiting.foldl (fun s w => s.writeRw w.1 w.2) s).updFlow f (fun x => { x with waiting := [] })

/-- A flow returns to IDLE (R81): sections and data released, its raised events ceased, and writes that waited take effect. -/
def disableFlow (s : State) (f : Nat) : State :=
  let s := (takeWaiting (releaseFlow (s.flag (Fld.FPE_FLOW_CFG_EN f) false) f) f).flag (Fld.FPE_FLOW_CFG_EN f) false
  let s := [0x401, 0x402, 0x403, 0x404, 0x802].foldl (fun s n => if n == 0x402 then s else ceaseEvent s n f (some f)) s
  let s := (setFlowState s f 0).flag (Fld.FPE_FLOW_STAT_SHED f) false
  let s := s.setFld (Fld.FPE_FLOW_STAT_PORT f) 0
  (s.updFlow f (fun _ => {})).updFpe (fun x => { x with rebal := x.rebal.filter (fun g => g != f) })

/-- FLOW_DISABLE (R81). -/
def execFlowDisable (f : Fin 256) (s : State) : Out :=
  if s.on (Fld.FPE_FLOW_CFG_EN f) then .next (disableFlow s f) else .next s

/-- A configuration write to a flow that is enabled (R81): EAXC, DIR, CAR and GROUP are ignored; the rest waits for the next
slot boundary; a window write that would fail R80 is ignored and sets BAD_CFG. -/
def writeFlowCfg (s : State) (f a : Nat) (v : Word) : State :=
  if !s.on (Fld.FPE_FLOW_CFG_EN f) then s.writeRw a v
  else
    let v := if a = Reg.FPE_FLOW_CFG f then setField 20 3 (s.rd a) (v.toNat / 2 ^ 20) else v
    let win := a = Reg.FPE_FLOW_WIN_UP f || a = Reg.FPE_FLOW_ADV f || a = Reg.FPE_FLOW_WIN_UL f
    let t := (s.flowDyn f).waiting.foldl (fun s w => s.writeRw w.1 w.2) s
    if win && !(t.writeRw a v).windowsOk f then s.flag (Fld.FPE_FLOW_STAT_BAD_CFG f) true
    else s.updFlow f (fun x => { x with waiting := x.waiting ++ [(a, v)] })

/-! ### Empty slots (R82) -/

/-- The slot a timeline is in, counted since the air epoch. -/
def State.slotNow (s : State) (c : Nat) : Int :=
  let y := s.pos c
  symSlotNo { frame := s.airTc / 19660800, subframe := y.subframe, slot := y.slot, symbol := 0 } (s.mu c)

/-- The current run of empty slots: the ended slots with pending sections, newest first, up to one with data. -/
def emptyRun (now : Int) (l : List SlotRec) : Nat :=
  ((l.filter (fun r => r.slot < now && r.pend)).reverse.takeWhile (fun r => !r.data)).length

/-- EMPTY of a flow. -/
def State.emptySlots (s : State) (f : Nat) : Nat :=
  if s.flowState f = 0 then 0 else min 255 (emptyRun (s.slotNow (s.flowCar f)) (s.flowDyn f).slots)

/-- Insert or change the record of a slot, in slot order; only the latest 32 slots are kept. -/
def noteSlot (l : List SlotRec) (slot : Int) (pend data : Bool) : List SlotRec :=
  let l := if l.any (fun r => r.slot == slot) then
      l.map (fun r => if r.slot == slot then { r with pend := r.pend || pend, data := r.data || data } else r)
    else insertBy (fun a b => a.slot < b.slot) { slot, pend, data } l
  l.drop (l.length - 32)

/-- FLOW_STARVED (R82). -/
def execFlowStarved (f : Fin 256) (s : State) : Out :=
  if s.flowState f = 2 && s.flowDl f && 8 ≤ s.emptySlots f then
    let t := (s.fpe.sections.filter (fun c => c.flow == f.val)).foldl stopSection s
    .next (raiseEvent (refreshLevels (setFlowState t f 3)) 0x401 f (some f.val))
  else .next s

/-- FLOW_AGE in ticks. -/
def State.flowAge (s : State) : Nat := max 1 (s.fld Fld.FPE_TIMING_FLOW_AGE) * 10 * ticksMs

/-- FLOW_QUIESCENT (R82). -/
def execFlowQuiescent (f : Fin 256) (s : State) : Out :=
  if (s.flowState f = 2 || s.flowState f = 3) && (s.flowDyn f).lastRx + s.flowAge ≤ s.time.now then
    .next (notifyEvent (setFlowState s f 4) 0x803 f (some f.val))
  else .next s

/-! ### Messages of types 0 and 2 -/

/-- May a message of a flow come on this port (R61, R64)? -/
def State.acceptsOn (s : State) (f n : Nat) (vid : Option Nat) : Bool :=
  s.portUp n && (s.groupMembers (s.fld (Fld.FPE_FLOW_CFG_GROUP f))).testBit n
    && (!s.on (Fld.FPE_PORT_CFG_TAGGED n) || vid == some (s.fld (Fld.FPE_FLOW_CFG2_VID f)))

/-- Is a position one of the carrier's numerology? -/
def State.posOk (s : State) (c : Nat) (h : MsgHdr) : Bool :=
  h.subframe < 10 && h.slot < 2 ^ s.mu c && h.symbol < perSlot (s.ecp c)

/-- The symbol a message concerns (R83). -/
def State.msgSym (s : State) (h : MsgHdr) : SymAbs :=
  { frame := s.frameStart h.frameId.toNat 8, subframe := h.subframe, slot := h.slot, symbol := h.symbol }

/-- A flow returns to LIVE (R96): event 0x401 ceases and its stale U-plane data is discarded. -/
def resumeFlow (s : State) (f : Nat) : State :=
  let stale := (s.fpe.ubuf.filter (fun m => m.flow == f && s.relFine (s.flowCar f) true m.sym ≤ s.phcFine)).length
  let s := (ceaseEvent s 0x401 f (some f)).bump (Fld.FPE_FLOW_CNT3_STALE f) stale
  let now := s.phcFine
  let c := s.flowCar f
  let late (m : UMsg) : Bool := m.flow == f && s.relFine c true m.sym ≤ now
  refreshLevels (s.updFpe (fun x => { x with ubuf := x.ubuf.filter (fun m => !late m) }))

/-- A valid message (R82, R95, R96): RX_MSG, EXP_SEQ and the flow's state. A message in the cycle in which the 8th empty slot
ends wins over it. -/
def validMsg (s : State) (f : Nat) (h : MsgHdr) (cplane : Bool) : State :=
  let st := s.flowState f
  let s := s.bump (Fld.FPE_FLOW_CNT0_RX_MSG f)
  let s := if st = 2 && s.fld (Fld.FPE_FLOW_STAT_EXP_SEQ f) != h.seq.toNat then s.bump (Fld.FPE_FLOW_CNT3_SEQ_GAP f) else s
  let s := s.setFld (Fld.FPE_FLOW_STAT_EXP_SEQ f) (h.seq.toNat + 1)
  let full := 8 ≤ s.emptySlots f
  let now := s.slotNow (s.flowCar f)
  let s := s.updFlow f (fun x => { x with
    lastRx := s.time.now
    cSrc := if cplane then some h.src else x.cSrc
    slots := if full || st != 2 then x.slots.filter (fun r => now ≤ r.slot) else x.slots })
  let s := if cplane then s.updFpe (fun x => { x with evAddr := some h.src }) else s
  let s := if st = 3 || st = 4 then resumeFlow s f else s
  setFlowState s f 2

/-- A window of R84 in units of 2^-32 ns: opening and closing. -/
def State.window (s : State) (f : Nat) (cplane : Bool) (y : SymAbs) : Int × Int :=
  let t := s.symFine (s.flowCar f) y
  let u (n : Nat) : Int := n * 100 * 2 ^ 32
  let mx := s.fld (Fld.FPE_FLOW_WIN_UP_T2A_MAX_UP f)
  let mn := s.fld (Fld.FPE_FLOW_WIN_UP_T2A_MIN_UP f)
  let adv := s.fld (Fld.FPE_FLOW_ADV_TCP_ADV_DL f)
  if !cplane then (t - u mx, t - u mn)
  else if s.flowDl f then (t - u (mx + adv), t - u (mn + adv))
  else (t - u (s.fld (Fld.FPE_FLOW_WIN_UL_T2A_MAX_CP_UL f)), t - u (s.fld (Fld.FPE_FLOW_WIN_UL_T2A_MIN_CP_UL f)))

/-- A message before or after its window is counted, with its event (R85). The flag says whether it is on time. -/
def checkWindow (s : State) (f : Nat) (cplane : Bool) (y : SymAbs) : State × Bool :=
  let w := s.window f cplane y
  let s := if cplane then pmonSample s 2 (some f) (nsOf (s.symFine (s.flowCar f) y - s.phcFine))
           else pmonSample s 1 (some f) (nsOf (w.2 - s.phcFine))
  if s.phcFine + s.increment ≤ w.1 then
    (raiseEvent ((s.bump (Fld.FPE_FLOW_CNT1_EARLY f)).updFlow f (fun x => { x with earlyAt := s.time.now })) 0x403 f (some f), false)
  else if w.2 < s.phcFine then
    (raiseEvent ((s.bump (Fld.FPE_FLOW_CNT1_LATE f)).updFlow f (fun x => { x with lateAt := s.time.now })) 0x404 f (some f), false)
  else (s, true)

/-- WINDOW_EVENT_CEASE (R85). -/
def execWindowEventCease (f : Fin 256) (late : Bool) (s : State) : Out :=
  let d := s.flowDyn f
  if (if late then d.lateAt else d.earlyAt) + 1000 * ticksMs ≤ s.time.now then
    .next (ceaseEvent s (if late then 0x404 else 0x403) f (some f.val))
  else .next s

/-- Is a symbol of timeline c in the interval that a realignment mutes (R59)? -/
def State.inMute (s : State) (c : Nat) (y : SymAbs) : Bool :=
  let r := s.facetT (c / 8)
  r.realigning && ((s.line c).muted || (s.line c).muteDue) && s.symFine c y < (r.reanchorNs : Int) * 2 ^ 32

/-- A U-plane section of R75: a compression method that DL allows and a whole PRB in every entry. -/
def State.uSecOk (s : State) (f : Nat) (x : USec) : Bool :=
  let st := s.on (Fld.FPE_FLOW_CFG2_COMP_STATIC f)
  compOk true (if st then s.fld (Fld.FPE_FLOW_CFG2_METH f) else x.meth) (if st then s.fld (Fld.FPE_FLOW_CFG2_IQW f) else x.iqw)
    && x.prbs.all (fun p => p.comps.length == 24)

/-- The compression a DL U-plane section is read with (R77). -/
def State.withComp (s : State) (f : Nat) (x : USec) : USec :=
  if s.on (Fld.FPE_FLOW_CFG2_COMP_STATIC f) then
    { x with meth := s.fld (Fld.FPE_FLOW_CFG2_METH f), iqw := s.fld (Fld.FPE_FLOW_CFG2_IQW f) }
  else x

/-- Units of the U-plane buffer (R91): 12 MiB in 64 bytes. -/
abbrev ubufUnits : Nat := 196608

/-- Store a U-plane message (R91), or refuse it. -/
def storeUMsg (s : State) (f : Nat) (y : SymAbs) (h : MsgHdr) (secs : List USec) : State :=
  let units := (h.bytes + 63) / 64
  let used := (s.fpe.ubuf.map (fun m => m.units)).foldl (· + ·) 0
  if ubufUnits < used + units then raiseEvent (s.bump Fld.FPE_GLB_CNT1_UBUF_FULL) 0x402 0
  else
    let s := ceaseEvent s 0x402 0
    refreshLevels (s.updFpe (fun x => { x with ubuf := x.ubuf ++ [{ flow := f, sym := y, secs, units }] }))

/-- Forward something down the Strand links of a cascaded array carrier (R131). -/
def forwardDown (s : State) (f : Nat) (ctl : Bool) (item : Nat) : State :=
  let a := s.flowCar f % 8
  if !(s.on (Fld.BFE_AC_CFG_CASC a) && s.on Fld.BFE_STRD_CFG_EN) || (s.flowDl f && s.on (Fld.BFE_FLOW_STAT_FALLBACK f)) then s
  else
    let down (x : Nat) : Bool := s.fld (if x = 0 then Fld.BFE_STRD_CFG_S0_DIR else Fld.BFE_STRD_CFG_S1_DIR) == 2
    let serves (x : Nat) : Bool := !s.on Fld.BFE_STRD_CFG_PAIR || s.fld (Fld.BFE_AC_CFG_SLINK a) == x
    [0, 1].foldl (fun s x => if down x && serves x then s.emit (.strand x ctl item) else s) s

/-- UPLANE_MSG_RX (R73 to R85, R91, R95, R96). -/
def execUplaneMsgRx (port : Fin 8) (hdr : MsgHdr) (secs : List USec) (s : State) : Out :=
  if !hdr.ebit || hdr.subseq != 0 then .next (s.bump Fld.FPE_GLB_CNT0_BAD_MSG)
  else match s.matchFlow hdr.eaxc.toNat hdr.dl with
    | none => .next (s.bump Fld.FPE_GLB_CNT0_NO_FLOW)
    | some f =>
      let c := s.flowCar f
      if !s.acceptsOn f port hdr.vid then .next (s.bump Fld.FPE_GLB_CNT0_NO_FLOW)
      else if hdr.version != 1 || !s.flowDl f || !s.posOk c hdr then .next (s.bump Fld.FPE_GLB_CNT0_BAD_MSG)
      else
        let good := secs.filter (s.uSecOk f)
        let s := s.bump (Fld.FPE_FLOW_CNT7_BAD_SEC f) (secs.length - good.length)
        if good.isEmpty then .next s
        else
          let s := validMsg s f hdr false
          let y := s.msgSym hdr
          let s := s.updFlow f (fun x => { x with slots := noteSlot x.slots (symSlotNo y (s.mu c)) false true })
          if s.inMute c y then .next (s.bump (Fld.FPE_FLOW_CNT4_REALIGN_DROP f))
          else match checkWindow s f false y with
            | (t, false) => .next t
            | (t, true) => .next (storeUMsg (forwardDown t f false hdr.seq.toNat) f y hdr (good.map (t.withComp f)))

/-! ### Sections of the C-plane -/

/-- Is the bfwCompMeth of a vector one that R154 supports? -/
def vecMeth (v : BfVec) : Bool := v.meth ≤ 3

/-- May a section stand (R75, R154 to R158, R190 to R193)? -/
def State.cSecOk (s : State) (f : Nat) (x : CSec) : Bool :=
  let c := s.flowCar f
  let a := c % 8
  let st := s.on (Fld.FPE_FLOW_CFG2_COMP_STATIC f)
  let vecs : Bool := match x.wts with
    | .ext1 _ v => vecMeth v && s.vecOk v
    | .ext11 rad n bs => !rad && 0 < n && bs.all (fun b => match b.vec with
      | some v => vecMeth v && s.vecOk v
      | none => true)
    | _ => true
  !x.bad && vecs && (st || s.flowDl f || x.typ == 0 || x.typ == 6 || compOk false x.meth x.iqw) && match x.typ with
    | 0 => true
    | 1 => true
    | 3 =>
      if x.filter = 0 then x.fftSize == 2 ^ s.fftLog c && x.dfHz == 15000 * 2 ^ s.mu c
      else !s.flowDl f && s.on (Fld.LPE_CAR_PRACH_EN c) && x.numPrb * 12 ≤ x.fftSize
        && ((x.fftSize == 1024 && (x.dfHz == 1250 || x.dfHz == 5000)) || (x.fftSize == 256 && (x.dfHz == 15000 || x.dfHz == 30000)))
        && s.carrierHz c % (x.fftSize * x.dfHz) == 0
    | 5 => s.on (Fld.BFE_WS_AC_CFG_SOL_EN a) && !s.on (Fld.BFE_AC_CFG_CASC a) && x.startPrb % s.solG a == 0
    | 6 => s.on (Fld.BFE_WS_AC_CFG_SOL_EN a) && !s.on (Fld.BFE_AC_CFG_CASC a)
        && x.chi.all (fun e => vecMeth e.2 && e.2.comps.length == 128)
    | _ => false

/-- The PRBs of a section and whether any fell outside the carrier (R92). -/
def secPrbs (nrb : Nat) (x : CSec) : List Nat × Bool :=
  let l := match x.prbs with
    | some l => l
    | none => if x.numPrb = 0 then (List.range (nrb - x.startPrb)).map (· + x.startPrb)
              else (List.range x.numPrb).map (· + x.startPrb)
  (l.filter (fun r => r < nrb), l.any (fun r => nrb ≤ r))

/-- The symbols of a section within its slot (R88, R92). -/
def secSyms (per start : Nat) (x : CSec) : List Nat :=
  (match x.syms with
    | some l => l
    | none => (List.range x.numSym).map (· + start)).filter (fun i => i < per)

/-- The weights of a section for one flow (R117, R118, R141, R149, R156, R157, R160, R121): references by group and the group
size. -/
def takeWeights (s : State) (f : Nat) (x : CSec) (given : Option Nat) (deadline : Int) : State × Nat × List WtRef :=
  let a := s.flowCar f % 8
  let lib := s.fld (Fld.BFE_WS_FLOW_CFG_LIB f)
  if x.typ == 0 then (s, 1024, [])
  else if s.on (Fld.BFE_AC_CFG_CAT a) then (s, 1024, [.path])
  else match given with
    | some b => match resolveBeam s a lib b deadline with
      | (t, r) => (t, 1024, [r])
    | none => match x.wts with
      | .beam b => match resolveBeam s a lib b deadline with
        | (t, r) => (t, 1024, [r])
      | .ext1 b v => match makeDynamic s a b v with
        | (t, r) => (t, 1024, [r])
      | .ext11 _ n bs =>
        let (t, rs) := bs.foldl (fun (acc : State × List WtRef) b =>
          match (match b.vec with
            | some v => makeDynamic acc.1 a b.beam v
            | none => resolveBeam acc.1 a lib b.beam deadline) with
          | (t, r) => (t, acc.2 ++ [r])) (s, [])
        (t, n, rs)
      | .ue u => (s, s.solG a, (List.range ((s.nRb (s.flowCar f) - x.startPrb + s.solG a - 1) / s.solG a)).map (fun _ => .ue u))

/-- A section of type 5 (R160, R161): it joins the jobs of its slot, or comes after their issue. -/
def noteUe (s : State) (f : Nat) (y : SymAbs) : State :=
  let a := s.flowCar f % 8
  let dl := s.flowDl f
  let slot := symSlotNo y (s.mu (s.flowCar f))
  match s.ws.slots.find? (fun x => x.array == a && x.dl == dl && x.slot == slot) with
  | some x => if x.issued then s.bump Fld.BFE_WS_CNT6_SOL_MISSED else s
  | none => s.updWs (fun w => { w with slots := w.slots ++ [{ array := a, dl, slot, first := s.time.now }] })

/-- After the issue, a layer uses its ueId's solution for each group whose sets already exist (R161). -/
def lateUe (s : State) (c : Section) : Section × List Nat :=
  let a := s.flowCar c.flow % 8
  let slot := symSlotNo c.start (s.mu (s.flowCar c.flow))
  let found := c.refs.zipIdx.map (fun e => match e.1 with
    | .ue u => match s.findSet (solKey a (s.flowDl c.flow) slot (c.startPrb / c.group + e.2) u) with
      | some i => (WtRef.set i, some i)
      | none => (e.1, none)
    | r => (r, none))
  ({ c with refs := found.map (fun e => e.1) }, found.filterMap (fun e => e.2))

/-- Entries of the section store. -/
abbrev storeEntries : Nat := 8192

/-- Put one section into the store for a flow (R88, R90, R92): it replaces a pending one with its key; a full store refuses
it. -/
def storeSection (s : State) (f : Nat) (y : SymAbs) (x : CSec) (given : Option Nat) : State :=
  let c := s.flowCar f
  let old := s.fpe.sections.filter (fun d => d.flow == f && d.secId == x.secId && d.start == y)
  let s := old.foldl dropSection s
  if storeEntries ≤ s.fpe.sections.length then raiseEvent (s.bump Fld.FPE_GLB_CNT1_SEC_FULL) 0x402 1
  else
    let s := ceaseEvent s 0x402 1
    let (prbs, excess) := secPrbs (s.nRb c) x
    let s := if excess && !(x.typ == 3 && x.filter != 0) then s.bump (Fld.FPE_FLOW_CNT7_EXCESS f) else s
    let prach := x.typ == 3 && x.filter != 0
    let prbs := if prach then (List.range x.numPrb).map (· + x.startPrb) else prbs
    let (s, group, refs) := takeWeights s f x given (s.wtFine c (s.flowDl f) y)
    let st := s.on (Fld.FPE_FLOW_CFG2_COMP_STATIC f)
    let t0 := symTc (s.mu c) (s.ecp c) y.frame { sfn := 0, subframe := y.subframe, slot := y.slot, symbol := 0 } + x.timeTc
    let sec : Section :=
      { flow := f, typ := if x.typ == 3 && x.filter == 0 then 1 else x.typ, secId := x.secId, start := y
        todo := if prach then List.range x.numSym else secSyms (perSlot (s.ecp c)) y.symbol x
        out := [], startPrb := x.startPrb, prbs, group, refs, decided := []
        meth := if st then s.fld (Fld.FPE_FLOW_CFG2_METH f) else x.meth
        iqw := if st then s.fld (Fld.FPE_FLOW_CFG2_IQW f) else x.iqw
        fftSize := x.fftSize
        span := if prach then some (t0, t0 + x.cpTc + x.numSym * (1966080000 / x.dfHz)) else none }
    let s := if x.typ == 5 then noteUe s f y else s
    let (sec, sets) := if x.typ == 5 then lateUe s sec else (sec, [])
    let s := sets.foldl pinSet s
    let s := s.updFpe (fun z => { z with sections := z.sections ++ [sec] })
    s.updFlow f (fun z => { z with slots := noteSlot z.slots (symSlotNo y (s.mu c)) (s.flowDl f) false })

/-- A section of type 6 (R159): a channel set for each group whose first PRB it covers, and the regularisation factor of each UE.
The factor of a UE follows its ueId, which is the section's. -/
def takeChannel (s : State) (f : Nat) (x : CSec) : State :=
  let a := s.flowCar f % 8
  let g := s.solG a
  let ue := match x.wts with
    | .ue u => u
    | _ => 0
  let s := x.chi.foldl (fun s e => if e.1 % g = 0 then makeChannel s a (e.1 / g) ue e.2 else s) s
  s.updWs (fun w => { w with regul := w.regul.put (65536 * a + ue) (max 0 x.regul) })

/-- Do two occasions overlap in time? -/
def spansMeet (p q : Int × Int) : Bool := p.1 < q.2 && q.1 < p.2

/-- Would a PRACH section make a ninth overlapping occasion on its carrier (R192)? -/
def State.prachFull (s : State) (f : Nat) (y : SymAbs) (x : CSec) : Bool :=
  let c := s.flowCar f
  let t0 := symTc (s.mu c) (s.ecp c) y.frame { sfn := 0, subframe := y.subframe, slot := y.slot, symbol := 0 } + x.timeTc
  let sp : Int × Int := (t0, t0 + x.cpTc + x.numSym * (1966080000 / max 1 x.dfHz))
  8 ≤ (s.fpe.sections.filter (fun d => s.flowCar d.flow == c && match d.span with
    | some q => spansMeet sp q
    | none => false)).length

/-- One accepted section (R88 to R92, R119, R159, R192). -/
def takeSection (s : State) (f : Nat) (y : SymAbs) (x : CSec) : State :=
  let c := s.flowCar f
  if x.typ == 6 then takeChannel s f x
  else if s.relFine c (s.flowDl f) y ≤ s.phcFine then
    raiseEvent ((s.bump (Fld.FPE_FLOW_CNT1_LATE f)).updFlow f (fun z => { z with lateAt := s.time.now })) 0x404 f (some f)
  else if x.typ == 3 && x.filter != 0 && s.prachFull f y x then s.bump (Fld.LPE_CAR_CNT1_PRACH_DROP c)
  else
    let s := storeSection s f y x none
    x.ports.foldl (fun s e =>
      match s.matchFlow e.1 (s.flowDl f) with
      | some g => if s.on (Fld.BFE_FLOW_BIND_EN g) then storeSection s g y x (some e.2)
                  else s.bump (Fld.FPE_FLOW_CNT7_BAD_SEC f)
      | none => s.bump (Fld.FPE_FLOW_CNT7_BAD_SEC f)) s

/-- CPLANE_MSG_RX (R73 to R75, R79 to R90, R95, R96). -/
def execCplaneMsgRx (port : Fin 8) (hdr : MsgHdr) (secs : List CSec) (s : State) : Out :=
  if !hdr.ebit || hdr.subseq != 0 then .next (s.bump Fld.FPE_GLB_CNT0_BAD_MSG)
  else match s.matchFlow hdr.eaxc.toNat hdr.dl with
    | none => .next (s.bump Fld.FPE_GLB_CNT0_NO_FLOW)
    | some f =>
      let c := s.flowCar f
      if !s.acceptsOn f port hdr.vid then .next (s.bump Fld.FPE_GLB_CNT0_NO_FLOW)
      else if !s.posOk c hdr then .next (s.bump Fld.FPE_GLB_CNT0_BAD_MSG)
      else
        let good := secs.filter (s.cSecOk f)
        let s := s.bump (Fld.FPE_FLOW_CNT7_BAD_SEC f) (secs.length - good.length)
        if good.isEmpty then .next s
        else
          let s := validMsg s f hdr true
          let y := s.msgSym hdr
          match checkWindow s f true y with
          | (t, false) => .next t
          | (t, true) => .next (refreshLevels (good.foldl (fun t x => takeSection t f y x) (forwardDown t f true hdr.seq.toNat)))

/-! ### UL messages (R87) -/

/-- The PRBs that fit a UL frame of flow f on port p (R87): 18 bytes of Ethernet with FCS, the VLAN tag, the IP and UDP headers in
UDP mode, 16 bytes of eCPRI, application and section headers, and 2 of udCompHdr where the flow has it; a PRB takes its 24
samples and its udCompParam (assumption log 11). -/
def State.ulPrbs (s : State) (f p meth iqw : Nat) : Nat :=
  let lim := max 256 (min 9600 (s.fld Fld.FPE_UDP_CFG_UL_MAX))
  let ip := if s.on Fld.FPE_CTRL_UDP then (if s.on Fld.FPE_CTRL_IPV6 then 48 else 28) else 0
  let tag := if s.on (Fld.FPE_PORT_CFG_TAGGED p) then 4 else 0
  let hdr := if s.on (Fld.FPE_FLOW_CFG2_COMP_STATIC f) then 0 else 2
  let w := if iqw = 0 then 16 else iqw
  let prb := 3 * w + if meth = 0 then 0 else 1
  (lim - 18 - tag - ip - 16 - hdr) / prb

/-- The range of a mantissa of a width. -/
def fitsWidth (w : Nat) (x : Int) : Bool := -(2 ^ (w - 1) : Int) ≤ x && x < 2 ^ (w - 1)

/-- The exponent of a PRB (R78). -/
def bfpExp (w : Nat) (comps : List Int) : Nat :=
  ((List.range 16).find? (fun e => comps.all (fun x => fitsWidth w (rndHu x e)))).getD 15

/-- Limit to a width. -/
def satWidth (w : Nat) (x : Int) : Int := max (-(2 ^ (w - 1) : Int)) (min (2 ^ (w - 1) - 1) x)

/-- Compress a PRB (R76, R78): none, block floating point, or a method of Annex A, whose values the spec does not state
(assumption log 2). -/
def compress (meth iqw : Nat) (comps : List Int) : PrbData :=
  let w := if iqw = 0 then 16 else iqw
  match meth with
  | 0 => { param := 0, comps := comps.map (fun x => satWidth w (rndHu x (16 - w))) }
  | 1 =>
    let e := bfpExp w comps
    { param := e, comps := comps.map (fun x => satWidth w (rndHu x e)) }
  | _ =>
    let args := [meth, w] ++ comps.map (unsigned 16)
    { param := (Config.freeOf 8 args).toNat
      comps := comps.zipIdx.map (fun e => (Config.freeOf w (e.2 :: args)).toInt) }

/-- The 24 components of a PRB in a UL result; an RE with no value is 0. -/
def prbComps (res : List ReVal) (r : Nat) : List Int :=
  (List.range 12).flatMap (fun sc => match res.find? (fun v => v.prb == r && v.sc == sc) with
    | some v => [v.i, v.q]
    | none => [0, 0])

/-- UL_UPLANE_TX (R87, R78): the next message of the flow's oldest data, from Ta3_min on. A flow that is shed or without a port
sends nothing and its data is let go. -/
def execUlUplaneTx (f : Fin 256) (s : State) : Out :=
  match (s.flowDyn f).ulQueue with
  | [] => .next s
  | d :: rest =>
    if s.phcFine < d.ready then .next s
    else
      let n := max 1 (s.ulPrbs f (s.fld (Fld.FPE_FLOW_STAT_PORT f)) d.meth d.iqw)
      let now := d.prbs.take n
      let left := d.prbs.drop n
      let queue := if left.isEmpty then rest else { d with prbs := left } :: rest
      let dyn := s.flowDyn f
      let t := s.updFlow f (fun x => { x with ulQueue := queue })
      let p := t.fld (Fld.FPE_FLOW_STAT_PORT f)
      if t.on (Fld.FPE_FLOW_STAT_SHED f) || t.flowState f = 0 then .next t
      else match sendFrame t p with
        | (u, false) => .next u
        | (u, true) =>
          let u := pmonSample u 6 (some f.val) (nsOf (u.phcFine - u.symFine (u.flowCar f) d.sym))
          let u := (u.bump (Fld.FPE_FLOW_CNT0_TX_MSG f)).updFlow f (fun x => { x with ulSeq := (x.ulSeq + 1) % 256 })
          .next (u.emit (.uplane p dyn.cSrc f dyn.ulSeq d.sym d.secId (now.headD 0)
            (now.map (fun r => compress d.meth d.iqw (prbComps d.res r)))))

/-! ### Delay measurement (R97) -/

/-- An answer of eCPRI type 5 (R31, R97): the egress timestamp with TX_LAT added, and as compensation value TX_LAT and the part's
own latency, whose value the spec does not state (assumption log 2), in units of 2^-16 ns. -/
def answerDelay (s : State) (port action id src : Nat) : State :=
  let lat := s.fld (Fld.TIM_PORT_LAT_TX_LAT port) * 2 ^ 14
  let t := (s.stamp 0).toNat + lat
  (sendOn s port (.delay port action id src (t / 2 ^ 16 / 1000000000) (t / 2 ^ 16 % 1000000000) (lat + (s.free 32).toNat))).tookFree

/-- DM_REQUEST. -/
def execDmRequest (port : Fin 8) (id : Byte) (src : Nat) (s : State) : Out := .next (answerDelay s port 2 id.toNat src)

/-- DM_REQUEST_FOLLOW_UP. -/
def execDmRequestFollowUp (port : Fin 8) (id : Byte) (src : Nat) (s : State) : Out := .next (answerDelay s port 2 id.toNat src)

/-- DM_REMOTE_REQUEST: answered by a request of action type 0x00, whether or not it asks for a follow-up. -/
def execDmRemoteRequest (port : Fin 8) (_followUp : Bool) (id : Byte) (src : Nat) (s : State) : Out :=
  .next (answerDelay s port 0 id.toNat src)

/-- DM_FOLLOW_UP: discarded, nothing counted. -/
def execDmFollowUp (_port : Fin 8) (_id : Byte) (s : State) : Out := .next s

/-- DM_RESPONSE: discarded, nothing counted. -/
def execDmResponse (_port : Fin 8) (_id : Byte) (s : State) : Out := .next s

/-! ### Remote memory access: the queue (R100) -/

/-- Show the queue's length. -/
def showRmaQueue (s : State) : State := s.setFld Fld.FPE_RMA_STAT_QUEUED s.fpe.rmaQ.length

/-- RMA_REQUEST_RX (R100, R102): 16 requests at most; the requester is the source events go to. -/
def execRmaRequestRx (port : Fin 8) (prot : Bool) (src : Nat) (id : Byte) (kind : Fin 3) (elem : Half) (addr : BitVec 48)
    (len : Nat) (words : List Word) (s : State) : Out :=
  if !s.portUp port then .next s
  else
    let s := s.updFpe (fun x => { x with evAddr := some src })
    if 16 ≤ s.fpe.rmaQ.length then .next (s.bump Fld.FPE_GLB_CNT2_RMA_DROP)
    else
      let r : RmaReq :=
        { port := port.val, prot, src, id := id.toNat, kind := kind.val, elem := elem.toNat, addr := addr.toNat, len, words, since := s.time.now }
      .next (showRmaQueue (s.updFpe (fun x => { x with rmaQ := x.rmaQ ++ [r] })))

/-! ### Event indications (R101 to R103) -/

/-- The port for the events of the whole part (R102). -/
def State.partPort (s : State) : Option Nat :=
  let up (g : Nat) : Option Nat := (List.range 8).find? (fun n => (s.groupMembers g).testBit n && s.portUp n)
  match up 0 with
  | some n => some n
  | none => match up 1 with
    | some n => some n
    | none => match up 2 with
      | some n => some n
      | none => up 3

/-- The port an event goes out on (R102): a flow's assigned port unless it is shed or not assigned. -/
def State.eventPort (s : State) (e : EvElem) : Option Nat :=
  match e.flow with
  | some f => if s.flowState f = 0 || s.on (Fld.FPE_FLOW_STAT_SHED f) then s.partPort else some (s.fld (Fld.FPE_FLOW_STAT_PORT f))
  | none => s.partPort

/-- Is an event a notification (R101)? -/
def EvElem.notification (e : EvElem) : Bool := [0x800, 0x803, 0x805, 0x810, 0x811].contains e.num

/-- ACK_TO in ticks. -/
def State.ackTicks (s : State) : Nat := max 1 (s.fld Fld.FPE_EVT_CFG_ACK_TO) * ticksMs

/-- What a message shows of an element. -/
def EvElem.shown (e : EvElem) : Nat × Bool × Nat × Nat := (e.elem, e.cease, e.num, e.info)

/-- EVENT_INDICATION_TX (R101, R102): the oldest pending event and, up to 64 in all, those of its microsecond and kind that go
out on its port. With EN at 0 nothing is sent; without a port or a destination they count in EVT_LOST. -/
def execEventIndicationTx (s : State) : Out :=
  match s.fpe.evPend with
  | [] => .next s
  | e :: _ =>
    let same (x : EvElem) : Bool := x.us == e.us && x.notification == e.notification && s.eventPort x == s.eventPort e
    let batch := (s.fpe.evPend.filter same).take 64
    let t := s.updFpe (fun x => { x with evPend := batch.foldl (fun l b => l.erase b) x.evPend })
    if !s.on Fld.FPE_EVT_CFG_EN then .next t
    else match s.eventPort e, s.fpe.evAddr with
      | some p, some _ =>
        let u := t.updFpe (fun x => { x with evSeq := (x.evSeq + 1) % 256 })
        let u := sendOn u p (.event p (if e.notification then 2 else 0) s.fpe.evSeq (batch.map EvElem.shown))
        if e.notification then .next u
        else .next (u.updFpe (fun x => { x with
          await := x.await ++ [{ seq := s.fpe.evSeq, port := p, elems := batch, sends := 0, due := s.time.now + s.ackTicks }] }))
      | _, _ => .next (t.bump Fld.FPE_GLB_CNT2_EVT_LOST)

/-- FAULTS_INDICATION_ACK (R103). -/
def execFaultsIndicationAck (seq : Byte) (s : State) : Out :=
  .next (s.updFpe (fun x => { x with await := x.await.filter (fun w => w.seq != seq.toNat) }))

/-- EVENT_ACK_TIMEOUT (R103). -/
def execEventAckTimeout (seq : Byte) (s : State) : Out :=
  match s.fpe.await.find? (fun w => w.seq == seq.toNat) with
  | none => .next s
  | some w =>
    if s.time.now < w.due then .next s
    else if w.sends < s.fld Fld.FPE_EVT_CFG_RETRY then
      let p := if s.portUp w.port then w.port else s.partPort.getD w.port
      let t := sendOn s p (.event p 0 w.seq (w.elems.map EvElem.shown))
      .next (t.updFpe (fun x => { x with await := x.await.map (fun v =>
        if v == w then { v with sends := v.sends + 1, due := s.time.now + s.ackTicks, port := p } else v) }))
    else .next ((s.updFpe (fun x => { x with await := x.await.erase w })).bump Fld.FPE_GLB_CNT2_EVT_LOST)

/-- SYNCHRONIZATION_REQUEST (R103): the full answer, whether EN is set or not, on the port of the request. -/
def execSynchronizationRequest (port : Fin 8) (_src : Nat) (s : State) : Out :=
  if !s.portUp port then .next s
  else
    let n := s.fpe.evSeq
    let t := s.updFpe (fun x => { x with evSeq := (x.evSeq + 3) % 256 })
    let t := sendOn t port (.event port 4 n [])
    let t := sendOn t port (.event port 0 ((n + 1) % 256) (s.fpe.raised.map EvElem.shown))
    .next (sendOn t port (.event port 5 ((n + 2) % 256) []))

end Sys2Proof.Machine
end

