-- ==== Sys2Proof/Machine/Bfe.lean ====
section
/-! DEFINITION. Machine/Bfe.lean: array carriers and bindings, the work lists and the numeric path, elision and renormalisation,
and the cascade over Strand links (R89, R94, R104 to R138, R152, R167, R284, R285, R317 to R319). The FFT's results are an
operand of the commands (assumption log 12). -/

namespace Sys2Proof.Machine

/-- Change the beamforming engine's own state. -/
def State.updBfe (s : State) (f : BfeState → BfeState) : State := { s with bfe := f s.bfe }

/-! ### Loads (R122, R136) -/

/-- The unit of load: layer-REs per second in one layer·MHz (R122). -/
abbrev layerMhz : Nat := 917280

/-- The first timeline of an array carrier: that of its lowest facet. -/
def State.acLine (s : State) (a : Nat) : Nat :=
  8 * ((List.range 4).find? (fun k => (s.fld (Fld.BFE_AC_CFG_FACETS a)).testBit k)).getD 0 + a

/-- Layer-REs per second of one layer of an array carrier. -/
def State.layerRate (s : State) (a : Nat) : Nat :=
  s.nRb (s.acLine a) * 12 * symPerSec (s.mu (s.acLine a)) (s.ecp (s.acLine a))

/-- MAX_L of a direction, or 1 in element mode (R122). -/
def State.acLayers (s : State) (a : Nat) (dl : Bool) : Nat :=
  if s.on (Fld.BFE_AC_CFG_CAT a) then 1 else s.fld (if dl then Fld.BFE_AC_CFG_MAX_L_DL a else Fld.BFE_AC_CFG_MAX_L_UL a)

/-- The load of slice k in a direction, in layer-REs per second (R122). -/
def State.sliceLoad (s : State) (k : Nat) (dl : Bool) : Nat :=
  ((List.range 8).filter (fun a => s.on (Fld.BFE_AC_CFG_EN a) && (s.fld (Fld.BFE_AC_CFG_FACETS a)).testBit k)).foldl
    (fun l a => l + s.acLayers a dl * s.layerRate a) 0

/-- Show the slice loads, rounded up. -/
def showSlices (s : State) : State :=
  (List.range 4).foldl (fun s k =>
    let up (n : Nat) : Nat := min 65535 ((n + layerMhz - 1) / layerMhz)
    (s.setFld (Fld.BFE_SLICE_LOAD_DL k) (up (s.sliceLoad k true))).setFld (Fld.BFE_SLICE_LOAD_UL k) (up (s.sliceLoad k false))) s

/-- Does link x serve an array carrier (R130, R136)? -/
def State.linkServes (s : State) (x a : Nat) : Bool :=
  s.on (Fld.BFE_AC_CFG_EN a) && s.on (Fld.BFE_AC_CFG_CASC a)
    && (!s.on Fld.BFE_STRD_CFG_PAIR || s.fld (Fld.BFE_AC_CFG_SLINK a) == x)

/-- The load of link x in a direction without its fallen-back layers, in layer-REs per second (R136, R137). -/
def State.linkLoad (s : State) (x : Nat) (dl : Bool) : Nat :=
  let full := ((List.range 8).filter (s.linkServes x)).foldl (fun l a => l + s.acLayers a dl * s.layerRate a) 0
  full - ((s.bfe.fallen.filter (fun f => s.flowDl f == dl && s.linkServes x (s.flowCar f % 8))).foldl
    (fun l f => l + s.layerRate (s.flowCar f % 8)) 0)

/-- Active lanes of a mode (R319). -/
def modeLanes (m : Nat) : Nat := if m = 3 then 4 else if m = 0 then 0 else 2

/-- The capacity of link x in layer·MHz (R136). -/
def State.linkCapacity (s : State) (x : Nat) : Nat :=
  let four := match s.fld (Fld.SRD_S_CFG_RATE x) with
    | 1 => 2740
    | 2 => 2140
    | _ => 4400
  four * modeLanes (s.srd.links.at x).mode / 4

/-- Show lanes and capacities of the links. -/
def showLinks (s : State) : State :=
  let s := (s.setFld Fld.BFE_STRD_STAT_S0_LANES (modeLanes (s.srd.links.at 0).mode)).setFld
    Fld.BFE_STRD_STAT_S1_LANES (modeLanes (s.srd.links.at 1).mode)
  (s.setFld Fld.BFE_STRD_CAP_S0 (s.linkCapacity 0)).setFld Fld.BFE_STRD_CAP_S1 (s.linkCapacity 1)

/-! ### Array carriers (R107, R108) -/

/-- The checks of R107 on array carrier a as its registers stand with EN at 1. -/
def State.acOk (s : State) (a : Nat) : Bool :=
  let ks := bitsOf 4 (s.fld (Fld.BFE_AC_CFG_FACETS a))
  let c0 := s.acLine a
  let ls (dl : Bool) : Nat := s.fld (if dl then Fld.BFE_AC_CFG_MAX_L_DL a else Fld.BFE_AC_CFG_MAX_L_UL a)
  let casc := s.on (Fld.BFE_AC_CFG_CASC a)
  !ks.isEmpty
    && ks.all (fun k => s.on (Fld.TIM_AIR_CFG_EN (8 * k + a)) && s.mu (8 * k + a) == s.mu c0 && s.ecp (8 * k + a) == s.ecp c0
      && s.fld (Fld.LPE_CAR_CFG_BW (8 * k + a)) == s.fld (Fld.LPE_CAR_CFG_BW c0) && s.nRb (8 * k + a) == s.nRb c0)
    && 1 ≤ ls true && ls true ≤ 32 && 1 ≤ ls false && ls false ≤ 32
    && (List.range 4).all (fun k => s.sliceLoad k true ≤ 6400 * layerMhz && s.sliceLoad k false ≤ 6400 * layerMhz)
    && (!casc || (!s.on (Fld.BFE_AC_CFG_CAT a) && s.on Fld.BFE_STRD_CFG_EN
      && [0, 1].all (fun x => !s.linkServes x a || (s.linkLoad x true ≤ s.linkCapacity x * layerMhz
        && s.linkLoad x false ≤ s.linkCapacity x * layerMhz))))

/-- AC_ENABLE (R107, R108). -/
def execAcEnable (a : Fin 8) (v : Word) (s : State) : Out :=
  if s.on (Fld.BFE_AC_CFG_EN a) || s.on (Fld.BFE_AC_STAT_ACTIVE a) then .next s
  else
    let t := (s.writeRw (Reg.BFE_AC_CFG a) v).flag (Fld.BFE_AC_CFG_EN a) true
    if t.acOk a then .next (showSlices (t.flag (Fld.BFE_AC_STAT_ACTIVE a) true))
    else .next ((t.flag (Fld.BFE_AC_CFG_EN a) false).flag (Fld.BFE_AC_STAT_BAD_CFG a) true)

/-- The stop of an array carrier (R108, R159). -/
def stopAc (s : State) (a : Nat) : State :=
  let s := (s.fpe.sections.filter (fun c => s.flowCar c.flow % 8 == a)).foldl stopSection s
  let s := s.updWs (fun w => { w with sets := w.sets.map (fun e =>
    if e.2.kind == 3 && e.2.array == a then (e.1, { e.2 with valid := false }) else e) })
  let s := s.updBfe (fun b => { b with stopping := b.stopping.filter (fun x => x != a) })
  refreshLevels (showSlices (s.flag (Fld.BFE_AC_STAT_ACTIVE a) false))

/-- Will a timeline of the array carrier realise a boundary (R108)? -/
def State.acRealises (s : State) (a : Nat) : Bool :=
  (bitsOf 4 (s.fld (Fld.BFE_AC_CFG_FACETS a))).any (fun k => s.on (Fld.TIM_AIR_CFG_EN (8 * k + a)) && (s.facetT k).anchored)

/-- AC_DISABLE (R108). -/
def execAcDisable (a : Fin 8) (s : State) : Out :=
  if !s.on (Fld.BFE_AC_CFG_EN a) then .next s
  else
    let t := s.flag (Fld.BFE_AC_CFG_EN a) false
    if s.acRealises a then .next (showSlices (t.updBfe (fun b => { b with stopping := b.stopping ++ [a.val] })))
    else .next (stopAc t a)

/-- AC_STOP (R108). -/
def execAcStop (a : Fin 8) (s : State) : Out :=
  if s.bfe.stopping.contains a.val then .next (stopAc s a) else .next s

/-! ### Bindings (R109, R110) -/

/-- The checks of R109 on the binding of flow f as its registers stand. -/
def State.bindOk (s : State) (f : Nat) : Bool :=
  let a := s.flowCar f % 8
  let dl := s.flowDl f
  let cat := s.on (Fld.BFE_AC_CFG_CAT a)
  let others := (List.range 256).filter (fun g => g != f && s.on (Fld.BFE_FLOW_BIND_EN g) && s.flowCar g % 8 == a && s.flowDl g == dl)
  let layer := s.fld (Fld.BFE_FLOW_BIND_LAYER f)
  let path := s.fld (Fld.BFE_FLOW_BIND_PATH f)
  s.on (Fld.BFE_AC_CFG_EN a) && (s.fld (Fld.BFE_AC_CFG_FACETS a)).testBit (path / 16)
    && if cat then others.all (fun g => s.fld (Fld.BFE_FLOW_BIND_PATH g) != path)
       else layer < s.fld (if dl then Fld.BFE_AC_CFG_MAX_L_DL a else Fld.BFE_AC_CFG_MAX_L_UL a)
         && others.all (fun g => s.fld (Fld.BFE_FLOW_BIND_LAYER g) != layer)

/-- FLOW_BIND (R109, R110). -/
def execFlowBind (f : Fin 256) (v : Word) (s : State) : Out :=
  if s.on (Fld.FPE_FLOW_CFG_EN f) then .next s
  else
    let t := s.writeRw (Reg.BFE_FLOW_BIND f) v
    if !t.on (Fld.BFE_FLOW_BIND_EN f) || t.bindOk f then .next t
    else .next ((t.flag (Fld.BFE_FLOW_BIND_EN f) false).flag (Fld.BFE_FLOW_STAT_BAD_BIND f) true)

/-- Does a mask keep within the limits of R492: 4 in a facet, 8 in the part? -/
def maskWithin (m : Nat) : Bool := popCount 64 m ≤ 8 && (List.range 4).all (fun k => popCount 16 (m / 2 ^ (16 * k)) ≤ 4)

/-- BFE_FORCE_WRITE (R124). -/
def execBfeForceWrite (rx : Bool) (mask : BitVec 64) (s : State) : Out :=
  let hub := s.rd64 (if rx then Reg.FLT_HUB_RX_LO else Reg.FLT_HUB_TX_LO)
  if maskWithin (Nat.lor hub mask.toNat) then
    .next (refreshElided (s.wr64 (if rx then Reg.BFE_FORCE_RX_LO else Reg.BFE_FORCE_TX_LO) mask.toNat))
  else .next (s.flag Fld.BFE_STATUS_BAD_FORCE true)

/-- A write to BFE_STRD_CFG (R130): EN = 1 stands only for a permitted topology. In a pair the two upstream links of a member go
to one neighbour and count as one. -/
def writeStrdCfg (s : State) (v : Word) : State :=
  let t := s.writeRw Reg.BFE_STRD_CFG v
  let up := ([Fld.BFE_STRD_CFG_S0_DIR, Fld.BFE_STRD_CFG_S1_DIR].filter (fun f => t.fld f == 1)).length
  let up := if t.on Fld.BFE_STRD_CFG_PAIR then min up 1 else up
  let d := t.fld Fld.BFE_STRD_CFG_DEPTH
  let bad := match t.fld Fld.BFE_STRD_CFG_ROLE with
    | 1 => up != 0 || d == 0 || d == 3
    | 2 => up != 1 || d == 0 || d == 3
    | _ => d == 0 || d == 3
  if t.on Fld.BFE_STRD_CFG_EN && bad then (t.flag Fld.BFE_STRD_CFG_EN false).flag Fld.BFE_STRD_STAT_BAD_CFG true else t

/-! ### The weight conditioner (R112, R116, R125) -/

/-- A gain or calibration in effect for an array carrier (R116). -/
def State.forceReg (s : State) (a reg : Nat) : Word := mapGet (fun k => regReset (k % 2 ^ 32)) s.bfe.inForce (a * 2 ^ 32 + reg)

/-- A slot boundary of array carrier a (R116): the gains and calibrations written take effect. -/
def takeGains (s : State) (a : Nat) : State :=
  let ps := (bitsOf 4 (s.fld (Fld.BFE_AC_CFG_FACETS a))).flatMap (fun k => (List.range 16).map (fun i => 16 * k + i))
  let regs := Reg.BFE_AC_GAIN a :: ps.flatMap (fun p => [Reg.BFE_PATH_CAL_TX p, Reg.BFE_PATH_CAL_RX p])
  s.updBfe (fun b => { b with inForce := regs.foldl (fun m r =>
    mapSet (fun k => regReset (k % 2 ^ 32)) m (a * 2 ^ 32 + r) (s.rd r)) b.inForce })

/-- The paths of an array carrier. -/
def State.acPaths (s : State) (a : Nat) : List Nat :=
  (bitsOf 4 (s.fld (Fld.BFE_AC_CFG_FACETS a))).flatMap (fun k => (List.range 16).map (fun i => 16 * k + i))

/-- The weight w(set, p) before conditioning: (32,767, 0) on the flow's PATH for no beam (R118, R121). -/
def State.rawWeight (s : State) (f : Nat) (u : WtUse) (p : Nat) : Int × Int :=
  match u with
  | .path => if s.fld (Fld.BFE_FLOW_BIND_PATH f) = p then (32767, 0) else (0, 0)
  | .set n => let w := (s.wset n).w.getD p 0; (wordI w, wordQ w)
  | .zero => (0, 0)

/-- |w|². -/
def normSq (w : Int × Int) : Nat := (w.1 * w.1 + w.2 * w.2).toNat

/-- ρ of R125: 16,384 with nothing elided, none when E_rem is 0. -/
def rhoOf (all rem : Nat) : Option Nat :=
  if all = rem then some 16384
  else if rem = 0 then none
  else some (min 0x7FFF ((isqrt (2 ^ 30 * all / rem) + 1) / 2))

/-- The renormalisation of one set (R125, R128): none when the set contributes nothing. -/
def State.rho (s : State) (a f : Nat) (u : WtUse) (mask : Nat) : Option Nat :=
  if u == .zero then some 16384
  else if s.on (Fld.BFE_AC_CFG_CAT a) then some 16384
  else
    let ps := s.acPaths a
    let e (l : List Nat) : Nat := (l.map (fun p => normSq (s.rawWeight f u p))).foldl (· + ·) 0
    rhoOf (e ps) (e (ps.filter (fun p => !mask.testBit p)))

/-- The conditioned weight w_eff (R112). -/
def condition (w k : Int × Int) (rho : Nat) : Int × Int :=
  (sat18 (rndHu ((w.1 * k.1 - w.2 * k.2) * rho) 28), sat18 (rndHu ((w.1 * k.2 + w.2 * k.1) * rho) 28))

/-- w_eff of a set on a path. -/
def State.weff (s : State) (a f : Nat) (u : WtUse) (rho : Option Nat) (mask : Nat) (dl : Bool) (p : Nat) : Int × Int :=
  match rho with
  | none => (0, 0)
  | some r =>
    if mask.testBit p then (0, 0)
    else
      let k := s.forceReg a (if dl then Reg.BFE_PATH_CAL_TX p else Reg.BFE_PATH_CAL_RX p)
      condition (s.rawWeight f u p) (wordI k, wordQ k) r

/-- A complex product. -/
def cmul (x y : Int × Int) : Int × Int := (x.1 * y.1 - x.2 * y.2, x.1 * y.2 + x.2 * y.1)

/-- The shift of R113 and R114. -/
def State.outShift (s : State) (a : Nat) (dl : Bool) : Nat :=
  (15 - signed 4 (fieldOf (if dl then 28 else 24) 4 (s.forceReg a (Reg.BFE_AC_GAIN a)))).toNat

/-! ### Sections of a symbol -/

/-- The array carrier, or the single timeline, whose flows a work list of timeline c serves (R106). -/
def State.wlServes (s : State) (c f : Nat) : Bool :=
  let a := c % 8
  s.flowCar f == c || (s.flowCar f % 8 == a && s.on (Fld.BFE_AC_STAT_ACTIVE a) && (s.fld (Fld.BFE_AC_CFG_FACETS a)).testBit (c / 8))

/-- Is a section in the slot of a symbol? -/
def sameSlot (c : Section) (y : SymAbs) : Bool :=
  c.start.frame == y.frame && c.start.subframe == y.subframe && c.start.slot == y.slot

/-- The sections of a symbol's work list, earlier in the store first; PRACH has its own commands. -/
def State.wlSections (s : State) (c : Nat) (dl : Bool) (y : SymAbs) : List Section :=
  s.fpe.sections.filter (fun d => s.wlServes c d.flow && s.flowDl d.flow == dl && d.typ != 3 && sameSlot d y && d.todo.contains y.symbol)

/-- What a section applies to a PRB of a symbol (R117, R152). -/
def Section.useAt (c : Section) (sym r : Nat) : WtUse :=
  match c.decided.find? (fun d => d.1 == sym) with
  | some d => if c.typ == 5 then d.2.getD (r / c.group - c.startPrb / c.group) .zero else d.2.getD ((r - c.startPrb) / c.group) .zero
  | none => .zero

/-- The section of a flow that takes a PRB: the later of those that cover it (R120). -/
def takerOf (cs : List Section) (f r : Nat) : Option Section :=
  cs.reverse.find? (fun d => d.flow == f && d.prbs.contains r)

/-- PRBs that sections of one flow lose to later ones (R120). -/
def overlaps (cs : List Section) : Nat :=
  (cs.map (fun d => (d.prbs.filter (fun r => takerOf cs d.flow r != some d)).length)).foldl (· + ·) 0

/-- Move a symbol of a section from waiting to released. -/
def releaseSym (s : State) (cs : List Section) (sym : Nat) : State :=
  s.updFpe (fun x => { x with sections := x.sections.map (fun d =>
    if cs.any (fun c => c.flow == d.flow && c.secId == d.secId && c.start == d.start) then
      { d with todo := d.todo.filter (fun i => i != sym), out := d.out ++ [sym] } else d) })

/-- The distinct flows of some sections. -/
def flowsOf (cs : List Section) : List Nat := cs.foldl (fun l d => if l.contains d.flow then l else l ++ [d.flow]) []

/-! ### Symbols that are dropped (R59, R285, R488) -/

/-- The PHC time from which facet k transmits and receives (R283, R284): its anchor, or the next 0.5 ms boundary of the air time at
least 2 µs from now. -/
def State.anchorTime (s : State) (k : Nat) : Int :=
  if (s.facetT k).anchored then (s.facetT k).anchorFine
  else
    let half : Int := 500000 * 2 ^ 32
    let e := s.airFine + usFine 2
    s.phcFine + usFine 2 + (-e) % half

/-- Is a symbol of array carrier a dropped because the radio is not ready (R285, R488)? -/
def State.rfDrops (s : State) (a c : Nat) (dl : Bool) (y : SymAbs) : Bool :=
  let margin : Int := if dl then 100 * 2 ^ 32 else 0
  (bitsOf 4 (s.fld (Fld.BFE_AC_CFG_FACETS a))).any (fun k =>
    (dl && !s.rcsLocked) || (s.fld Fld.FLT_QUIET_SHUT).testBit k || s.symFine c y < s.anchorTime k + margin)

/-- Free the U-plane data of a symbol (R285, R59). -/
def freeUData (s : State) (c : Nat) (y : SymAbs) : State :=
  refreshLevels (s.updFpe (fun x => { x with ubuf := x.ubuf.filter (fun m => !(s.wlServes c m.flow && m.sym == y)) }))

/-! ### The DL work list -/

/-- The U-plane data of a PRB of a flow's section: its first component list, decompressed, and what saturated (R76). -/
def State.uPrb (s : State) (f : Nat) (y : SymAbs) (secId r : Nat) : Option (List Int × Nat) :=
  let secs := (s.fpe.ubuf.filter (fun m => m.flow == f && m.sym == y)).flatMap (fun m => m.secs)
  match secs.find? (fun u => u.secId == secId && u.startPrb ≤ r && r < u.startPrb + u.prbs.length) with
  | some u =>
    let d := u.prbs.getD (r - u.startPrb) default
    let l := d.comps.map (decompress u.meth u.iqw d.param)
    some (l.map (fun e => e.1), (l.filter (fun e => e.2)).length)
  | none => none

/-- One layer's part of a work list: the PRB, the conditioned weights by path and the 12 values. -/
structure LayerPrb where
  prb : Nat
  w : List (Int × Int)
  x : List (Int × Int)
deriving DecidableEq, Repr, Inhabited

/-- The layers of one section: counts of MISSING_U, SAT_U and NULL_SET, and what each PRB with data contributes (R94, R112,
R125). -/
def sectionLayers (a : Nat) (cs : List Section) (y : SymAbs) (mask : Nat) (s : State) (d : Section) : State × List LayerPrb :=
  let cat := s.on (Fld.BFE_AC_CFG_CAT a)
  let uses := d.prbs.map (fun r => d.useAt y.symbol r)
  let distinct := uses.foldl (fun (l : List WtUse) u => if l.contains u then l else l ++ [u]) []
  let null := (distinct.filter (fun u => (s.rho a d.flow u mask).isNone)).length
  let s := s.bump Fld.BFE_CNT1_NULL_SET null
  let table := distinct.map (fun u =>
    let r := s.rho a d.flow u mask
    (u, (List.range 64).map (fun p => if (s.fld (Fld.BFE_AC_CFG_FACETS a)).testBit (p / 16) then s.weff a d.flow u r mask true p else (0, 0))))
  d.prbs.foldl (fun (acc : State × List LayerPrb) r =>
    if takerOf cs d.flow r != some d then acc
    else match acc.1.uPrb d.flow y d.secId r with
      | none => (acc.1.bump (Fld.FPE_FLOW_CNT2_MISSING_U d.flow), acc.2)
      | some (comps, sat) =>
        let u := if cat then WtUse.path else d.useAt y.symbol r
        let w := match table.find? (fun e => e.1 == u) with
          | some e => e.2
          | none => []
        (acc.1.bump (Fld.FPE_FLOW_CNT5_SAT_U d.flow) sat, acc.2 ++ [{ prb := r, w, x := pairs comps }])) (s, [])

/-- The element REs of a symbol on one path (R113): the non-zero ones, and how many components sat16 limited. -/
def State.pathRes (s : State) (a : Nat) (ls : List LayerPrb) (zero : List Nat) (p : Nat) : List BfeRe × Nat :=
  let sh := s.outShift a true
  let mode := s.fld Fld.BFE_CTRL_ROUND
  let rs := (ls.map (fun l => l.prb)).foldl (fun (l : List Nat) r => if l.contains r || zero.contains r then l else l ++ [r]) []
  let all := rs.flatMap (fun r => (List.range 12).map (fun sc =>
    let acc := (ls.filter (fun l => l.prb == r)).foldl (fun (t : Int × Int) l =>
      let m := cmul (l.w.getD p (0, 0)) (l.x.getD sc (0, 0))
      (t.1 + m.1, t.2 + m.2)) (0, 0)
    (r, sc, rndMode mode acc.1 sh, rndMode mode acc.2 sh)))
  ((all.filter (fun e => e.2.2.1 != 0 || e.2.2.2 != 0)).map (fun e =>
      { idx := p, prb := e.1, sc := e.2.1, i := sat16 e.2.2.1, q := sat16 e.2.2.2 }),
   (all.map (fun e => (if sat16 e.2.2.1 = e.2.2.1 then 0 else 1) + (if sat16 e.2.2.2 = e.2.2.2 then 0 else 1))).foldl (· + ·) 0)

/-- The classes of the PRB-layers of some sections in facet k (R167): those of sets that are not all zero. -/
def State.layerClasses (s : State) (cs : List Section) (y : SymAbs) (k : Nat) : List Nat :=
  (cs.filter (fun d => (s.fld (Fld.BFE_AC_CFG_FACETS (s.flowCar d.flow % 8))).testBit k)).flatMap (fun d =>
    d.prbs.filterMap (fun r => match d.useAt y.symbol r with
      | .set n => if (s.wset n).w.any (fun w => w != 0) then some (s.wset n).cls else none
      | _ => none))

/-- Count them for the symbol and hand the facet the class that has the most (R167); with none it keeps its class. -/
def countClasses (s : State) (cs : List Section) (y : SymAbs) (k : Nat) : State :=
  let s := if s.ws.classSym.at k == some y then s
    else
      let zeroed := (List.range 8).foldl (fun m i => m.put (8 * k + i) 0) s.ws.classCnt
      s.updWs (fun w => { w with classSym := w.classSym.put k (some y), classCnt := zeroed })
  let counted := (s.layerClasses cs y k).foldl (fun m cl => m.upd (8 * k + cl) (fun n => n + 1)) s.ws.classCnt
  let s := s.updWs (fun w => { w with classCnt := counted })
  let count (i : Nat) : Nat := s.ws.classCnt.at (8 * k + i)
  let best := (List.range 8).foldl (fun (b : Option Nat) i =>
    match b with
    | none => if count i = 0 then none else some i
    | some j => if count j < count i then some i else some j) none
  match best with
  | some cl => s.updWs (fun w => { w with beamClass := w.beamClass.put k cl })
  | none => s

/-- The paths that a symbol uses in facet k (R460). -/
def usedPaths (out : List BfeRe) (k : Nat) : Nat := maskOf 64 (fun p => p / 16 == k && out.any (fun e => e.idx == p))

/-- The sections of a symbol whose weights are not decided yet are decided (R152). -/
def decideAll (s : State) (cs : List Section) (sym : Nat) : State := cs.foldl (fun s d => decideSection s d sym) s

/-- The mean DUC output level of a symbol of facet k for the slots that sample it (R451): the spec does not state the level, so it
is a free value (assumption log 2). -/
def sampleDuc (s : State) (k : Nat) : State :=
  (List.range 64).foldl (fun s m =>
    if s.pmonTakes m 13 none && s.fld (Fld.PMON_CFG_ARG m) / 16 == k then (pmonAdd s m (s.free 32).toInt).tookFree else s) s

/-- Process a DL symbol of array carrier a (R94, R113, R115, R120, R126, R167). -/
def processDl (s : State) (a c : Nat) (y : SymAbs) : State :=
  let s := decideAll s (s.wlSections c true y) y.symbol
  let cs0 := s.wlSections c true y
  -- sections of unbound flows are released unprocessed, and fallen-back flows contribute nothing (R110, R137)
  let bound (d : Section) : Bool := s.on (Fld.BFE_FLOW_BIND_EN d.flow)
  let s := (cs0.filter (fun d => !bound d)).foldl stopSection s
  let cs0 := cs0.filter bound
  let member := s.on Fld.BFE_STRD_CFG_EN && s.fld Fld.BFE_STRD_CFG_ROLE == 2 && s.on (Fld.BFE_AC_CFG_CASC a)
  let cs := cs0.filter (fun d => bound d && !(member && s.on (Fld.BFE_FLOW_STAT_FALLBACK d.flow)))
  let data := cs.filter (fun d => d.typ != 0)
  let zero := (cs.filter (fun d => d.typ == 0)).flatMap (fun d => d.prbs)
  let s := s.bump Fld.BFE_CNT1_OVERLAP (overlaps data)
  let mask := s.rd64 Reg.BFE_ELIDE_TX_LO
  let (s, ls) := data.foldl (fun (acc : State × List LayerPrb) d =>
    let r := sectionLayers a data y mask acc.1 d
    (r.1, acc.2 ++ r.2)) (s, [])
  -- U-plane sections with no matching section (R91)
  let s := (s.fpe.ubuf.filter (fun m => s.wlServes c m.flow && m.sym == y && !m.released)).foldl (fun s m =>
    m.secs.foldl (fun s u => if data.any (fun d => d.flow == m.flow && d.secId == u.secId) then s
      else s.bump (Fld.FPE_FLOW_CNT2_NO_SECTION m.flow)) s) s
  let en (p : Nat) : Bool := (s.dlFld (Fld.LPE_FACET_PLAN_DL_EN (p / 16))).testBit a
  let res := (s.acPaths a).map (fun p => (p, s.pathRes a ls zero p))
  let s := res.foldl (fun s e => s.bump (Fld.BFE_PATH_CNT_SAT_DL e.1) e.2.2) s
  let out := res.flatMap (fun e => if en e.1 then e.2.1 else [])
  let s := s.updBfe (fun b => { b with dlOut := out })
  let s := if s.refTimeline (c / 8) = c then sampleDuc s (c / 8) else s
  let s := (bitsOf 4 (s.fld (Fld.BFE_AC_CFG_FACETS a))).foldl (fun s k =>
    let s := countClasses s data y k
    { s with pws := { s.pws with used := s.pws.used ++ [(k, y, usedPaths out k)] } }) s
  let s := s.updFpe (fun x => { x with ubuf := x.ubuf.map (fun m =>
    if s.wlServes c m.flow && m.sym == y then { m with released := true } else m) })
  refreshLevels (releaseSym s cs0 y.symbol)

/-- Drop a symbol of a work list, counted by Graulo (R21): its U-plane data is freed, and its sections go as processed ones do. -/
def dropSymbol (s : State) (c : Nat) (dl : Bool) (y : SymAbs) : State :=
  let s := s.bump Fld.GRL_CNT1_WL_DROP
  let cs := s.wlSections c dl y
  releaseSym (if dl then freeUData s c y else s) cs y.symbol

/-- The U-plane messages of a symbol that a realignment mutes are counted (R59). -/
def countMuted (s : State) (c : Nat) (y : SymAbs) : State :=
  (s.fpe.ubuf.filter (fun m => s.wlServes c m.flow && m.sym == y)).foldl (fun s m => s.bump (Fld.FPE_FLOW_CNT4_REALIGN_DROP m.flow)) s

/-- The release of a DL work list, before the pre-distortion banks take their values (R89, R94, R113, R285). -/
def releaseDl (s : State) (c : Nat) (y : SymAbs) : State :=
  let s := takeDlForce s c y
  let a := c % 8
  let cs := s.wlSections c true y
  if !(s.on (Fld.BFE_AC_STAT_ACTIVE a) && (s.fld (Fld.BFE_AC_CFG_FACETS a)).testBit (c / 8)) then
    refreshLevels (cs.foldl stopSection (freeUData s c y))
  else if s.rfDrops a c true y then
    let fs := flowsOf cs
    let fs := (s.fpe.ubuf.filter (fun m => s.wlServes c m.flow && m.sym == y)).foldl
      (fun l m => if l.contains m.flow then l else l ++ [m.flow]) fs
    dropSymbol (fs.foldl (fun s f => s.bump (Fld.FPE_FLOW_CNT4_RF_NOT_READY f)) s) c true y
  else if s.inMute c y then dropSymbol (countMuted s c y) c true y
  else processDl s a c y

/-- WORK_LIST_RELEASE_DL (R89, R209). -/
def execWorkListReleaseDl (c : Fin 32) (y : SymAbs) (s : State) : Out :=
  if s.phcFine + s.increment ≤ s.relFine c true y then .next s
  else .next (useBanks (releaseDl (s.bump Fld.GRL_CNT0_WL_DL) c y) c y)

/-! ### The UL work list -/

/-- One layer's UL sum of an RE over some paths, before rounding (R114). -/
def ulAcc (conj : Bool) (w : List (Int × Int)) (en : Nat → Bool) (res : List PathRe) (r sc : Nat) : Int × Int :=
  (res.filter (fun v => v.prb == r && v.sc == sc && en v.path)).foldl (fun (t : Int × Int) v =>
    let x := w.getD v.path (0, 0)
    let m := cmul (if conj then (x.1, -x.2) else x) (v.i, v.q)
    (t.1 + m.1, t.2 + m.2)) (0, 0)

/-- The combined REs of one section in one symbol (R114, R128), rounded, before sat16. -/
def State.ulValues (s : State) (a : Nat) (cs : List Section) (sym : Nat) (mask : Nat) (res : List PathRe) (d : Section) :
    List ReVal × List Nat :=
  let conj := s.on (Fld.BFE_FLOW_BIND_UL_CONJ d.flow)
  let en (p : Nat) : Bool := (s.fld (Fld.BFE_AC_CFG_FACETS a)).testBit (p / 16)
    && (s.ulFld (Fld.LPE_FACET_PLAN_UL_EN (p / 16))).testBit a
  let sh := s.outShift a false
  let mode := s.fld Fld.BFE_CTRL_ROUND
  let prbs := d.prbs.filter (fun r => takerOf cs d.flow r == some d)
  (prbs.flatMap (fun r =>
    let u := if s.on (Fld.BFE_AC_CFG_CAT a) then WtUse.path else d.useAt sym r
    let rho := s.rho a d.flow u mask
    let w := (List.range 64).map (fun p => s.weff a d.flow u rho mask false p)
    (List.range 12).map (fun sc =>
      let t := ulAcc conj w en res r sc
      { prb := r, sc, i := rndMode mode t.1 sh, q := rndMode mode t.2 sh })), prbs)

/-- The PHC time of Ta3_min of a symbol (R87, R133, R194). -/
def State.ta3Min (s : State) (a c : Nat) (y : SymAbs) : Int :=
  let casc := if s.on (Fld.BFE_AC_CFG_CASC a) && s.on Fld.BFE_STRD_CFG_EN then 2 * s.fld Fld.BFE_STRD_CFG_DEPTH else 0
  s.symFine c y + s.symFineLen c y + usFine (15 + casc)

/-- Saturate UL values, counted in SAT_UL of the flow (R115), and queue them to be sent. -/
def queueUl (s : State) (f : Nat) (ready : Int) (y : SymAbs) (secId meth iqw : Nat) (prbs : List Nat) (vals : List ReVal) : State :=
  let sat := (vals.map (fun v => (if sat16 v.i = v.i then 0 else 1) + (if sat16 v.q = v.q then 0 else 1))).foldl (· + ·) 0
  let s := s.bump (Fld.BFE_FLOW_STAT_SAT_UL f) sat
  let d : UlData :=
    { ready, sym := y, secId, meth, iqw, prbs, res := vals.map (fun v => { v with i := sat16 v.i, q := sat16 v.q }) }
  s.updFlow f (fun x => { x with ulQueue := x.ulQueue ++ [d] })

/-- Count the sets of a section with E_rem of 0 (R125). -/
def countNull (s : State) (a mask sym : Nat) (d : Section) : State :=
  let uses := (d.prbs.map (fun r => d.useAt sym r)).foldl (fun (l : List WtUse) u => if l.contains u then l else l ++ [u]) []
  s.bump Fld.BFE_CNT1_NULL_SET (uses.filter (fun u => (s.rho a d.flow u mask).isNone)).length

/-- Process a UL symbol of array carrier a (R114, R128, R134): a cascaded layer that has not fallen back waits for its partial
sums. -/
def processUl (s : State) (a c : Nat) (y : SymAbs) (res : List PathRe) : State :=
  let s := decideAll s (s.wlSections c false y) y.symbol
  let cs0 := s.wlSections c false y
  let bound (d : Section) : Bool := s.on (Fld.BFE_FLOW_BIND_EN d.flow)
  let s := (cs0.filter (fun d => !bound d)).foldl stopSection s
  let cs0 := cs0.filter bound
  let cs := cs0.filter (fun d => bound d && d.typ != 0)
  let mask := s.rd64 Reg.BFE_ELIDE_RX_LO
  let casc := s.on (Fld.BFE_AC_CFG_CASC a) && s.on Fld.BFE_STRD_CFG_EN
  let live := (bitsOf 4 (s.fld (Fld.BFE_AC_CFG_FACETS a))).any (fun k => (s.ulFld (Fld.LPE_FACET_PLAN_UL_EN k)).testBit a)
  let s := s.bump Fld.BFE_CNT1_OVERLAP (overlaps cs)
  let s := cs.foldl (fun s d =>
    let s := countNull s a mask y.symbol d
    let (vals, prbs) := s.ulValues a cs y.symbol mask res d
    if !live then s
    else if casc && !(s.on (Fld.BFE_FLOW_STAT_FALLBACK d.flow) && s.fld Fld.BFE_STRD_CFG_ROLE == 1) then
      let u : UlSum := { flow := d.flow, sym := y, secId := d.secId, meth := d.meth, iqw := d.iqw, prbs, res := vals }
      s.updBfe (fun b => { b with sums := b.sums ++ [u] })
    else queueUl s d.flow (s.ta3Min a c y) y d.secId d.meth d.iqw prbs vals) s
  refreshLevels (releaseSym s cs0 y.symbol)

/-- WORK_LIST_RELEASE_UL (R89, R114, R285). -/
def execWorkListReleaseUl (c : Fin 32) (y : SymAbs) (res : List PathRe) (s : State) : Out :=
  if s.phcFine + s.increment ≤ s.relFine c false y then .next s
  else
    let a := c.val % 8
    let s := s.bump Fld.GRL_CNT0_WL_UL
    let cs := s.wlSections c false y
    let s := if s.facetAsleep (c / 8) && !cs.isEmpty then s.bump (Fld.PWS_FACET_CNT_SLEEP_DROP (c / 8)) else s
    if !(s.on (Fld.BFE_AC_STAT_ACTIVE a) && (s.fld (Fld.BFE_AC_CFG_FACETS a)).testBit (c / 8)) then
      .next (refreshLevels (cs.foldl stopSection s))
    else if s.rfDrops a c false y then
      .next (dropSymbol ((flowsOf cs).foldl (fun s f => s.bump (Fld.FPE_FLOW_CNT4_RF_NOT_READY f)) s) c false y)
    else if s.inMute c y then .next (dropSymbol s c false y)
    else .next (processUl s a c y res)

/-! ### The end of a work list -/

/-- Add values with the same PRB and subcarrier. -/
def addRes (x y : List ReVal) : List ReVal :=
  x.map (fun v => y.foldl (fun t u => if u.prb == v.prb && u.sc == v.sc then { t with i := t.i + u.i, q := t.q + u.q } else t) v)

/-- The links on which partial sums of an array carrier arrive: its downstream links that serve it. -/
def State.downLinks (s : State) (a : Nat) : List Nat :=
  [0, 1].filter (fun x => s.fld (if x = 0 then Fld.BFE_STRD_CFG_S0_DIR else Fld.BFE_STRD_CFG_S1_DIR) == 2
    && (!s.on Fld.BFE_STRD_CFG_PAIR || s.fld (Fld.BFE_AC_CFG_SLINK a) == x))

/-- Finish one cascaded UL sum (R134, R135): partial sums that have not arrived count as zero and in PSUM_LATE; the root saturates
and sends, a member passes the sum upstream as 9-bit block floating point. -/
def finishSum (s : State) (u : UlSum) : State :=
  let a := s.flowCar u.flow % 8
  let links := if s.on (Fld.BFE_FLOW_STAT_FALLBACK u.flow) then [] else s.downLinks a
  let here := s.bfe.psums.filter (fun p => p.flow == u.flow && p.sym == u.sym && links.contains p.link)
  let missing := (links.filter (fun x => !here.any (fun p => p.link == x))).length
  let s := s.bump Fld.BFE_CNT0_PSUM_LATE (if missing = 0 then 0 else 1)
  let vals := here.foldl (fun v p => addRes v p.res) u.res
  let s := s.updBfe (fun b => { b with sums := b.sums.erase u })
  if s.fld Fld.BFE_STRD_CFG_ROLE == 2 then
    let up := [0, 1].find? (fun x => s.fld (if x = 0 then Fld.BFE_STRD_CFG_S0_DIR else Fld.BFE_STRD_CFG_S1_DIR) == 1
      && (!s.on Fld.BFE_STRD_CFG_PAIR || s.fld (Fld.BFE_AC_CFG_SLINK a) == x))
    match up with
    | some x =>
      if s.on (Fld.BFE_FLOW_STAT_FALLBACK u.flow) then s
      else s.emit (.psum x u.flow u.sym (u.prbs.headD 0) (u.prbs.map (fun r => compress 1 9 (prbComps vals r))))
    | none => s
  else queueUl s u.flow (s.ta3Min a (s.flowCar u.flow) u.sym) u.sym u.secId u.meth u.iqw u.prbs vals

/-- A section whose work list of a symbol has been processed: what its flow applied (R152); gone from the store after its last
symbol (R88, R143). -/
def sectionDone (sym : Nat) (s : State) (d : Section) : State :=
  let uses := d.prbs.filterMap (fun r => match d.useAt sym r with
    | .set n => some (r, n)
    | _ => none)
  let s := s.updFlow d.flow (fun x => { x with lastUse :=
    uses ++ (x.lastUse.filter (fun e => !d.prbs.contains e.1)) })
  let d' := { d with out := d.out.filter (fun i => i != sym) }
  let s := s.updFpe (fun x => { x with sections := x.sections.map (fun e => if e == d then d' else e) })
  if d'.out.isEmpty && d'.todo.isEmpty then dropSection s d' else s

/-- WORK_LIST_PROCESSED (R91, R135, R143, R152, R186, R187). -/
def execWorkListProcessed (c : Fin 32) (dl : Bool) (y : SymAbs) (sat : Nat) (pathSat : List (Fin 64 × Nat)) (s : State) : Out :=
  let cs := s.fpe.sections.filter (fun d => s.wlServes c d.flow && s.flowDl d.flow == dl && d.typ != 3 && sameSlot d y
    && d.out.contains y.symbol)
  let s := s.bump (if dl then Fld.LPE_CAR_CNT0_SAT_IFFT c else Fld.LPE_CAR_CNT0_SAT_FFT c) sat
  let s := pathSat.foldl (fun s e => s.bump (if dl then Fld.LPE_PATH_CNT_SAT_DUC e.1 else Fld.LPE_PATH_CNT_SAT_DDC e.1) e.2) s
  let s := (s.bfe.sums.filter (fun u => !dl && s.wlServes c u.flow && u.sym == y)).foldl finishSum s
  let s := s.updBfe (fun b => { b with psums := if dl then b.psums else b.psums.filter (fun p => !(s.wlServes c p.flow && p.sym == y)) })
  let s := cs.foldl (sectionDone y.symbol) s
  let s := if dl then s.updFpe (fun x => { x with ubuf := x.ubuf.filter (fun m => !(s.wlServes c m.flow && m.sym == y && m.released)) }) else s
  let now := s.slotNow c
  .next (refreshLevels (s.updWs (fun w => { w with slots := w.slots.filter (fun x =>
    !(x.array == c.val % 8 && x.dl == dl && x.slot + 1 < now)) })))

/-! ### PRACH (R190 to R193, R123) -/

/-- PRACH_EXTRACT: one repetition of an occasion, once it has ended, with the bins of each path. -/
def execPrachExtract (f : Fin 256) (secId rep : Nat) (res : List PathRe) (sat : Nat) (s : State) : Out :=
  match s.fpe.sections.find? (fun d => d.flow == f.val && d.secId == secId && d.typ == 3 && d.todo.contains rep) with
  | none => .next s
  | some d =>
    let c := s.flowCar f
    let a := c % 8
    let sp := d.span.getD (0, 0)
    let n := max 1 (d.todo.length + d.out.length)
    let len := (sp.2 - sp.1) / n
    let ends := tcToFine (sp.1 + len * (rep + 1)) + (315964819 * 1000000000 + s.alpha + s.fld Fld.TIM_AIR_BETA_BETA * 10000000 : Nat) * 2 ^ 32
    if s.phcFine < ends then .next s
    else
      let s := s.bump (Fld.LPE_CAR_CNT1_SAT_PRACH c) sat
      let s := decideSection s d 0
      let d := { d with decided := match s.fpe.sections.find? (fun e => e.flow == d.flow && e.secId == d.secId && e.start == d.start) with
        | some e => e.decided
        | none => d.decided }
      let mask := s.rd64 Reg.BFE_ELIDE_RX_LO
      let (vals, prbs) := s.ulValues a [d] 0 mask res d
      let left := d.todo.filter (fun i => i != rep)
      let s' := if s.rfDrops a c false d.start then s.bump (Fld.FPE_FLOW_CNT4_RF_NOT_READY f)
        else if !s.on (Fld.BFE_FLOW_BIND_EN f) then s.bump (Fld.FPE_FLOW_CNT6_SEC_DROP f)
        else queueUl s f (ends + usFine 15) d.start d.secId d.meth d.iqw prbs vals
      let d' := { d with todo := left, out := d.out ++ [rep] }
      let t := s'.updFpe (fun x => { x with sections := x.sections.map (fun e =>
        if e.flow == d.flow && e.secId == d.secId && e.start == d.start then d' else e) })
      .next (refreshLevels (if left.isEmpty then dropSection t d' else t))

/-! ### The cascade (R130 to R137, R317 to R319) -/

/-- Decode a partial sum (R134): 9-bit block floating point. -/
def decodeSum (first : Nat) (prbs : List PrbData) : List ReVal :=
  prbs.zipIdx.flatMap (fun e => (pairs (e.1.comps.map (fun x => x * 2 ^ (e.1.param % 16)))).zipIdx.map (fun v =>
    { prb := first + e.2, sc := v.2, i := v.1.1, q := v.1.2 }))

/-- A forwarded message on a member (R131, R132): its own flow takes it, on time by the root's verdict, and it goes further
down. -/
def forwardedU (s : State) (h : MsgHdr) (secs : List USec) : State :=
  match s.matchFlow h.eaxc.toNat h.dl with
  | none => s.bump Fld.FPE_GLB_CNT0_NO_FLOW
  | some f =>
    let good := secs.filter (s.uSecOk f)
    if good.isEmpty || !s.posOk (s.flowCar f) h then s
    else
      let s := validMsg s f h false
      let y := s.msgSym h
      let s := s.updFlow f (fun x => { x with slots := noteSlot x.slots (symSlotNo y (s.mu (s.flowCar f))) false true })
      if s.inMute (s.flowCar f) y then s.bump (Fld.FPE_FLOW_CNT4_REALIGN_DROP f)
      else storeUMsg (forwardDown s f false h.seq.toNat) f y h (good.map (s.withComp f))

/-- A forwarded C-plane message on a member. -/
def forwardedC (s : State) (h : MsgHdr) (secs : List CSec) : State :=
  match s.matchFlow h.eaxc.toNat h.dl with
  | none => s.bump Fld.FPE_GLB_CNT0_NO_FLOW
  | some f =>
    let good := secs.filter (s.cSecOk f)
    if good.isEmpty || !s.posOk (s.flowCar f) h then s
    else
      let s := validMsg s f h true
      let y := s.msgSym h
      refreshLevels (good.foldl (fun t x => takeSection t f y x) (forwardDown s f true h.seq.toNat))

/-- One item of a frame. -/
def takeItem (x : Nat) (s : State) (i : StrandItem) : State :=
  match i with
  | .sum f y first prbs => s.updBfe (fun b => { b with psums := b.psums ++ [{ link := x, flow := f.val, sym := y, res := decodeSum first prbs }] })
  | .uplane h secs => forwardedU s h secs
  | .cplane h secs => forwardedC s h secs

/-- Change a Strand link. -/
def State.updLink (s : State) (x : Nat) (f : LinkDyn → LinkDyn) : State :=
  { s with srd := { s.srd with links := s.srd.links.upd x f } }

/-- STRAND_FRAME_RX (R318). -/
def execStrandFrameRx (x : Fin 2) (crcOk : Bool) (ctl : List Nat) (items : List StrandItem) (s : State) : Out :=
  if (s.srd.links.at x).mode = 0 then .next s
  else if crcOk then
    .next (items.foldl (takeItem x) (s.updLink x (fun l => { l with resend := l.resend.filter (fun m => !ctl.contains m) })))
  else
    let again := (s.srd.links.at x).resend
    let dropped := (ctl.filter (fun m => again.contains m)).length
    let s := (s.bump (Fld.SRD_S_CNT0_CRC_ERR x)).bump (Fld.SRD_S_CNT1_CTL_DROP x) dropped
    .next (s.updLink x (fun l => { l with
      resend := l.resend.filter (fun m => !ctl.contains m) ++ ctl.filter (fun m => !again.contains m) }))

/-- The physical lanes of link x. -/
def linkLane (x q : Nat) : Nat := 8 + 4 * x + q

/-- Is a lane of the link in service at this end, with the STRAND role? -/
def State.linkLaneUp (s : State) (x q : Nat) : Bool := s.inService (linkLane x q) && s.laneRole (linkLane x q) == 3

/-- The physical lane that carries a logical lane. -/
def State.logicalUp (s : State) (x i : Nat) : Bool :=
  (List.range 4).any (fun q => s.fld (Fld.SRD_S_STAT_MAP x) / 4 ^ q % 4 == i && s.linkLaneUp x q)

/-- The mode this end advertises (R319). -/
def State.advert (s : State) (x : Nat) : Nat :=
  let a := s.logicalUp x 0 && s.logicalUp x 1
  let b := s.logicalUp x 2 && s.logicalUp x 3
  if a && b then 3 else if a then 1 else if b then 2 else 0

/-- Take a lane mode: STATE, IN_LINK, and what the beamforming engine shows. -/
def setMode (s : State) (x m : Nat) : State :=
  let s := s.updLink x (fun l => { l with mode := m })
  let s := s.setFld (Fld.SRD_S_STAT_STATE x) (if m = 0 then 0 else if m = 3 then 2 else 3)
  let carries (q : Nat) : Bool :=
    let i := s.fld (Fld.SRD_S_STAT_MAP x) / 4 ^ q % 4
    m == 3 || (m == 1 && i < 2) || (m == 2 && 2 ≤ i)
  showLinks (s.setFld (Fld.SRD_S_STAT_IN_LINK x) (maskOf 4 carries))

/-- STRAND_ALIGN (R317): with all four lanes locked and at most 32 characters of skew the link reaches UP4. -/
def execStrandAlign (x : Fin 2) (map : Byte) (inv : Fin 16) (skew : Byte) (s : State) : Out :=
  if !(List.range 4).all (s.linkLaneUp x) then .next s
  else
    let s := (s.setFld (Fld.SRD_S_STAT_MAP x) map.toNat).setFld (Fld.SRD_S_STAT_INV x) inv
    let s := s.setFld (Fld.SRD_S_STAT_SKEW x) skew.toNat
    let s := (List.range 4).foldl (fun s q => s.flag (Fld.SRD_LANE_STAT_POL_INV (linkLane x q))
      (s.on (Fld.SRD_LANE_CFG_RX_INV (linkLane x q)) != inv.val.testBit q)) s
    if 32 < skew.toNat then
      .next ((setMode s x 0).setFld (Fld.SRD_S_STAT_STATE x) 1 |>.flag (Fld.SRD_S_STAT_SKEW_ERR x) true)
    else if s.advert x = 3 then .next (setMode s x 3) else .next (s.setFld (Fld.SRD_S_STAT_STATE x) 1)

/-- STRAND_MODE_CHANGE (R319): both ends switch when their advertisements match; with no whole pair the link goes DOWN. -/
def execStrandModeChange (x : Fin 2) (peer : Fin 4) (s : State) : Out :=
  let m := s.advert x
  let old := (s.srd.links.at x).mode
  let new := if m = 0 || peer.val = 0 then 0 else m
  if new = old || (m != 0 && peer.val != 0 && m != peer.val) || old = 0 then .next s
  else
    let s := setMode s x new
    if modeLanes new < modeLanes old then .next (s.bump (Fld.SRD_S_CNT0_DOWNGRADES x))
    else if modeLanes old < modeLanes new then .next (s.bump (Fld.SRD_S_CNT1_UPGRADES x))
    else .next s

/-- The candidates to fall back on a link, first to fall first (R137): ascending PRIO, descending array carrier, descending
LAYER. -/
def State.fallOrder (s : State) (x : Nat) (dl : Bool) : List Nat :=
  let fs := (List.range 256).filter (fun f => s.on (Fld.BFE_FLOW_BIND_EN f) && s.on (Fld.FPE_FLOW_CFG_EN f) && s.flowDl f == dl
    && s.linkServes x (s.flowCar f % 8) && !s.bfe.fallen.contains f)
  sortBy (fun f g =>
    let pf := s.fld (Fld.FPE_FLOW_CFG_PRIO f)
    let pg := s.fld (Fld.FPE_FLOW_CFG_PRIO g)
    if pf != pg then pf < pg
    else if s.flowCar f % 8 != s.flowCar g % 8 then s.flowCar g % 8 < s.flowCar f % 8
    else s.fld (Fld.BFE_FLOW_BIND_LAYER g) ≤ s.fld (Fld.BFE_FLOW_BIND_LAYER f)) fs

/-- Show which layers have fallen back. -/
def showFallback (s : State) : State := s.flag Fld.BFE_STRD_STAT_FALLBACK (!s.bfe.fallen.isEmpty)

/-- One layer falls back. -/
def fallBack (s : State) (f : Nat) : State :=
  let s := (s.flag (Fld.BFE_FLOW_STAT_FALLBACK f) true).updBfe (fun b => { b with fallen := b.fallen ++ [f] })
  showFallback (s.bump Fld.BFE_CNT0_FALLBACK_EVT)

/-- STRAND_FALLBACK (R137): layer by layer until the load fits; the change is reported as the condition of the link. -/
def execStrandFallback (x : Fin 2) (dl : Bool) (s : State) : Out :=
  if s.linkLoad x dl ≤ s.linkCapacity x * layerMhz then .next s
  else
    let t := (s.fallOrder x dl).foldl (fun t f => if t.linkLoad x dl ≤ t.linkCapacity x * layerMhz then t else fallBack t f) s
    if t.bfe.fallen == s.bfe.fallen then .next s else .next (reportFault t 0x32 x)

/-- Does a fallen-back layer fit every link that serves it? -/
def State.restoreFits (s : State) (f : Nat) : Bool :=
  let a := s.flowCar f % 8
  [0, 1].all (fun x => !s.linkServes x a || s.linkLoad x (s.flowDl f) + s.layerRate a ≤ s.linkCapacity x * layerMhz)

/-- STRAND_RESTORE (R137): the layers of a direction on a link in the reverse order, each that fits; the condition ends with the
last. -/
def execStrandRestore (x : Fin 2) (dl : Bool) (s : State) : Out :=
  let mine := (s.bfe.fallen.filter (fun f => s.flowDl f == dl && s.linkServes x (s.flowCar f % 8))).reverse
  let t := (mine.foldl (fun (acc : State × Bool) f =>
    if acc.2 && acc.1.restoreFits f then
      let u := (acc.1.flag (Fld.BFE_FLOW_STAT_FALLBACK f) false).updBfe (fun b => { b with fallen := b.fallen.filter (fun g => g != f) })
      (showFallback (u.bump Fld.BFE_CNT0_FALLBACK_EVT), true)
    else (acc.1, false)) (s, true)).1
  if t.bfe.fallen == s.bfe.fallen then .next s
  else if t.bfe.fallen.any (fun f => t.linkServes x (t.flowCar f % 8)) then .next (reportFault t 0x32 x)
  else .next (endCondition t 0x32 x)

end Sys2Proof.Machine
end

