-- ==== Sys2Proof/Machine/Mem.lean ====
section
/-! DEFINITION. Machine/Mem.lean: the on-chip SRAM and the DRAM, the row-and-column parity code, scrubbing and repair,
capture pages, and the Data Mover's channels (R402 to R433). -/

namespace Sys2Proof.Machine

/-! ### Memory bytes -/

/-- A byte of on-chip SRAM by its debug-window address (R402). -/
def State.sramByte (s : State) (a : Nat) : Byte := s.mem.sram.at a

/-- A little-endian number of some bytes (assumption log 6). -/
def leNat (l : List Byte) : Nat := l.foldr (fun b n => b.toNat + 256 * n) 0

/-- The low bytes of a number, lowest first. -/
def leBytes (n k : Nat) : List Byte := (List.range k).map (fun i => BitVec.ofNat 8 (n / 256 ^ i))

/-- Read some bytes of SRAM or DRAM. -/
def State.memRead (s : State) (dram : Bool) (a k : Nat) : List Byte :=
  (List.range k).map (fun i => if dram then s.dramByte (a + i) else s.sramByte (a + i))

/-- Put one byte. -/
def putByte (s : State) (dram : Bool) (a : Nat) (b : Byte) : State :=
  s.updMem (fun m => if dram then { m with dram := m.dram.put a b } else { m with sram := m.sram.put a b })

/-- Put bytes from an address on. -/
def putBytes (s : State) (dram : Bool) (a : Nat) (l : List Byte) : State :=
  (l.zip (List.range l.length)).foldl (fun s p => putByte s dram (a + p.2) p.1) s

/-- Is the 64-bit word at an address uncorrectable (R409)? -/
def State.ueWord (s : State) (dram : Bool) (a : Nat) : Bool :=
  (if dram then s.mem.dramUe else s.mem.sramUe).contains (a / 8 * 8)

/-- The REGION code of a debug-window address (R402). -/
def regionOf (a : Nat) : Nat :=
  if a < 0x40C00000 then 0 else if a < 0x41400000 then 1 else if a < 0x41880000 then 2 else if a < 0x41A00000 then 3
  else if a < 0x41B00000 then 4 else if a < 0x41B80000 then 5 else if a < 0x41CA0000 then 6 else if a < 0x41DA0000 then 7
  else if a < 0x41DE0000 then 8 else if a < 0x41E20000 then 9 else 10

/-- The first byte past the DRAM's data (R417): 7/8 of 1, 2 or 4 GiB. -/
def State.dramLimit (s : State) : Nat := 0x38000000 * 2 ^ min 2 (s.fld Fld.MEM_DRAM_CFG_CAP)

/-! ### Events of the checkers (R410) -/

/-- A CORRECTED or uncorrectable event: counted, recorded and reported to the Fault Hub. -/
def memEvent (s : State) (ue dram : Bool) (addr : Nat) : State :=
  let region := if dram then 11 else regionOf addr
  let s := ((s.wr Reg.MEM_LAST_ERR 0).flag Fld.MEM_LAST_ERR_UE ue).flag Fld.MEM_LAST_ERR_DRAM dram
  let s := (s.setFld Fld.MEM_LAST_ERR_REGION region).wr Reg.MEM_LAST_ADDR (BitVec.ofNat 32 addr)
  let s := if ue then (s.bump (if dram then Fld.MEM_CNT1_DRAM_UE else Fld.MEM_CNT0_SRAM_UE)).bump (Fld.MEM_UE_CNT_UE region)
           else s.bump (if dram then Fld.MEM_CNT1_DRAM_CORR else Fld.MEM_CNT0_SRAM_CORR)
  reportFault s (if ue then 0x05 else 0x01) region

/-- What the parity code of R404 makes of a word and its check bits: clean, corrected to a value, or uncorrectable. -/
inductive Decoded where
  | clean
  | corrected (data : BitVec 64)
  | uncorrectable
deriving DecidableEq, Repr

/-- The parity of some bits of a word. -/
def parityOf (d : BitVec 64) (l : List Nat) : Bool := l.foldl (fun p i => Bool.xor p (d.getLsbD i)) false

/-- The rows whose flags are raised, and the columns (R404): check bit r of `p` and c of `c`. -/
def rowFlags (d : BitVec 64) (p : Byte) : List Nat :=
  (List.range 8).filter (fun r => parityOf d ((List.range 8).map (fun c => 8 * r + c)) != p.getLsbD r)
def colFlags (d : BitVec 64) (q : Byte) : List Nat :=
  (List.range 8).filter (fun c => parityOf d ((List.range 8).map (fun r => 8 * r + c)) != q.getLsbD c)

/-- Decode a word with its row check bits and column check bits (R404). -/
def decodeParity (d : BitVec 64) (p q : Byte) : Decoded :=
  match rowFlags d p, colFlags d q with
  | [], [] => .clean
  | [r], [c] => .corrected (d ^^^ BitVec.ofNat 64 (2 ^ (8 * r + c)))
  | [_], [] => .corrected d
  | [], [_] => .corrected d
  | _, _ => .uncorrectable

/-! ### Scrubbing and repair (R411 to R415) -/

/-- The array and row of an SRAM address (R403): 32 KiB arrays of 512 rows of 64 bytes. -/
def arrayOf (a : Nat) : Nat := (a - 0x40000000) / 32768
def rowOf (a : Nat) : Nat := a % 32768 / 64

/-- Show the repairs held and the arrays without a free spare row. -/
def showRepairs (s : State) : State :=
  (s.setFld Fld.MEM_STATUS_RT_REPAIRS s.mem.repair.length).setFld Fld.MEM_STATUS_BAD_ARRAYS
    (min 255 (s.mem.spares.filter (fun p => 4 ≤ p.2)).length)

/-- An SRAM word becomes hard (R414, R415): its row moves to a free spare row, or the word stays in service. -/
def hardWord (s : State) (a : Nat) : State :=
  let k := arrayOf a
  if s.mem.spares.at k < 4 && s.mem.repair.length < 64 then
    let s := s.updMem (fun m => { m with spares := m.spares.upd k (· + 1), repair := m.repair ++ [(k, rowOf a)] })
    reportFault ((showRepairs s).bump Fld.MEM_CNT2_MIGRATIONS) 0x02 (regionOf a)
  else reportFault (s.bump Fld.MEM_CNT2_NO_SPARE) 0x04 (regionOf a)

/-- A hard DRAM word (R418). -/
def hardDram (s : State) : State := reportFault (s.bump Fld.MEM_CNT3_DRAM_HARD) 0x03 11

/-- A correction at an address (R413, R418): a watched address counts, and at 3 its word is hard. -/
def watchCorrection (s : State) (dram : Bool) (a : Nat) : State :=
  let w := if dram then s.mem.dramWatch else s.mem.watch
  if w.any (fun p => p.1 == a) then
    let w := w.map (fun p => if p.1 == a then (p.1, p.2 + 1) else p)
    let s := s.updMem (fun m => if dram then { m with dramWatch := w } else { m with watch := w })
    if w.contains (a, 3) then (if dram then hardDram s else hardWord s a) else s
  else s

/-- SRAM_WRITE_BACK (R411, R413): the oldest scheduled write-back takes its cycle and the word's address enters the watch
table with a count of 0. -/
def execSramWriteBack (s : State) : Out :=
  match s.mem.writeBack with
  | [] => .next s
  | b :: rest =>
    let s := s.updMem (fun m => { m with writeBack := rest })
    let w := if b.dram then s.mem.dramWatch else s.mem.watch
    if w.any (fun p => p.1 == b.addr) then .next s
    else
      let s := if w.length < 32 then s else s.bump Fld.MEM_CNT2_WATCH_OVF
      let w := (if w.length < 32 then w else w.drop 1) ++ [(b.addr, 0)]
      .next (s.updMem (fun m => if b.dram then { m with dramWatch := w } else { m with watch := w }))

/-- SCRUB_EPOCH (R412, R413, R394): the watch tables empty and CE3 receives its line 10. -/
def execScrubEpoch (s : State) : Out := .next ((s.updMem (fun m => { m with watch := [], dramWatch := [] })).ceEvent 3 10)

/-- A read finds a word with a correctable error: the delivered value, the event, the write-back and the watch table (R404,
R410, R411, R413). -/
def correctWord (s : State) (dram : Bool) (a : Nat) (d : BitVec 64) : State :=
  let s := putBytes s dram a (leBytes d.toNat 8)
  let s := memEvent s false dram a
  let s := s.updMem (fun m => { m with writeBack := m.writeBack.filter (fun b => !(b.dram == dram && b.addr == a)) ++ [{ dram, addr := a }] })
  watchCorrection s dram a

/-- A read finds a word uncorrectable (R409, R410). -/
def spoilWord (s : State) (dram : Bool) (a : Nat) : State :=
  let s := s.updMem (fun m => if dram then { m with dramUe := if m.dramUe.contains a then m.dramUe else m.dramUe ++ [a] }
    else { m with sramUe := if m.sramUe.contains a then m.sramUe else m.sramUe ++ [a] })
  memEvent s true dram a

/-- SCRUB_READ (R412): the scrubber reads one word and decodes what its cells hold. -/
def execScrubRead (addr : Nat) (w : WordRead) (s : State) : Out :=
  let a := addr / 8 * 8
  if !s.on Fld.MEM_CTRL_SCRUB_EN || s.on (Fld.PWS_CLIENT_LEVEL 10) then .next s
  else match w with
    | .sram d p q =>
      if a < 0x40000000 || 0x42000000 ≤ a then .next s
      else match decodeParity d p q with
        | .clean => .next (putBytes s false a (leBytes d.toNat 8))
        | .corrected d => .next (correctWord s false a d)
        | .uncorrectable => .next (spoilWord s false a)
    | .dram v =>
      if s.dramLimit ≤ a || !s.on Fld.MEM_STATUS_DRAM_READY then .next s
      else match v with
        | .clean => .next s
        | .single d => .next (correctWord s true a d)
        | .double => .next (spoilWord s true a)

/-- A write of some bytes (R406, R409, R411): eight aligned bytes heal an uncorrectable word, fewer are refused (none); a
write before the write-back cancels it. -/
def State.memWrite (s : State) (dram : Bool) (a : Nat) (l : List Byte) : Option State :=
  let words := (List.range ((a + l.length + 7) / 8 - a / 8)).map (fun i => (a / 8 + i) * 8)
  let whole := words.filter (fun w => a ≤ w && w + 8 ≤ a + l.length)
  if words.any (fun w => s.ueWord dram w && !whole.contains w) then none
  else
    let s := putBytes s dram a l
    some (s.updMem (fun m =>
      let m := if dram then { m with dramUe := m.dramUe.filter (fun w => !whole.contains w) }
               else { m with sramUe := m.sramUe.filter (fun w => !whole.contains w) }
      { m with writeBack := m.writeBack.filter (fun b => !(b.dram == dram && words.contains b.addr)) }))

/-! ### Capture pages (R421 to R423) -/

/-- The owner code of an access path (R423); 0 for CE0, which has none. A Data Mover channel acts for its owner. -/
def State.ownerOf (s : State) : Path → Nat
  | .rma => 1
  | .mspi => 2
  | .jtag => 3
  | .y n => 4 + n
  | .ce n => if n.val = 0 then 0 else 7 + n
  | .dm c => s.fld (Fld.DMV_CH_STAT_OWNER c)

/-- Is an owner code that of the RMA, MSPI or JTAG path? -/
def hostCode (o : Nat) : Bool := 1 ≤ o && o ≤ 3

def State.pageOwner (s : State) (p : Nat) : Nat := s.fld (Fld.MEM_CAP_OWNER_OWNER p)

/-- Does an owner hold page p? The pages of host captures are held jointly (R422). -/
def State.holdsPage (s : State) (o p : Nat) : Bool :=
  o != 0 && (s.pageOwner p == o || (hostCode o && s.mem.joint.contains p))

/-- The pages that an owner holds. -/
def State.heldPages (s : State) (o : Nat) : List Nat := (List.range 128).filter (s.holdsPage o)

/-- The pages that are free. -/
def State.freePages (s : State) : List Nat := (List.range 128).filter (fun p => s.pageOwner p == 0)

/-- The pages that the RMA, MSPI and JTAG paths hold together. -/
def State.hostPages (s : State) : List Nat :=
  (List.range 128).filter (fun p => hostCode (s.pageOwner p) || s.mem.joint.contains p)

/-- Give a page to an owner. -/
def givePage (o : Nat) (s : State) (p : Nat) : State :=
  (s.setFld (Fld.MEM_CAP_OWNER_OWNER p) o).updMem (fun m => { m with capSince := m.capSince.put p s.time.now })

/-- Free a page. -/
def freePage (s : State) (p : Nat) : State :=
  (s.setFld (Fld.MEM_CAP_OWNER_OWNER p) 0).updMem (fun m =>
    { m with joint := m.joint.filter (· != p), capSince := m.capSince.put p 0 })

/-- Count a refusal. -/
def refusePage (s : State) : State := s.bump Fld.MEM_CAP_CNT_REFUSED

/-- The priority of an owner's requests (R421). -/
def capPrio (o : Nat) : Nat := if o = 11 then 0 else if o = 12 || o = 13 then 1 else if 4 ≤ o && o ≤ 7 then 2 else 3

/-- Add a request for pages. -/
def askPages (s : State) (o n ref : Nat) : State :=
  s.updMem (fun m => { m with capReqs := m.capReqs ++ [{ owner := o, prio := capPrio o, pages := n, ref }] })

/-- The request Graulo serves next (R421): the oldest of the highest priority. -/
def nextCapReq (l : List CapReq) : Option CapReq :=
  l.foldl (fun b r => match b with
    | none => some r
    | some q => if r.prio < q.prio then some r else some q) none

/-- Grant the next request if its pages are free (R421): the lowest-numbered free pages. Nothing of lower priority is granted
while it waits. -/
def grantNext (s : State) : State :=
  match nextCapReq s.mem.capReqs with
  | none => s
  | some r =>
    let free := s.freePages
    if free.length < r.pages then s
    else
      let got := free.take r.pages
      let s := s.bump Fld.GRL_CNT2_PAGE_GRANTS
      let s := got.foldl (givePage r.owner) (s.updMem (fun m => { m with capReqs := m.capReqs.erase r }))
      if r.owner = 12 then s.updOrx r.ref (fun o => { o with pages := got, asked := false })
      else if r.owner = 11 then s.updCva (fun x => { x with runPages := got })
      else if 4 ≤ r.owner && r.owner ≤ 7 then s.latchIrq (r.owner - 4) 3
      else s

/-- CAP_GRANT (R421). -/
def execCapGrant (s : State) : Out := .next (grantNext s)

/-- CAP_REQUEST (R422). -/
def execCapRequest (path : Path) (n : Fin 256) (s : State) : Out :=
  let o := s.ownerOf path
  let waiting := ((s.mem.capReqs.filter (fun r => hostCode r.owner)).map (fun r => r.pages)).foldl (· + ·) 0
  if o = 0 || n.val = 0 || 16 < n.val
      || (hostCode o && s.fld Fld.MEM_CAP_CFG_HOST_MAX < s.hostPages.length + waiting + n)
      || s.mem.capReqs.any (fun r => r.owner == o) then .next (refusePage s)
  else
    -- it waits when its pages are not free at once or another request is before it (R20, R21)
    let s := if s.freePages.length < n || !s.mem.capReqs.isEmpty then s.bump Fld.GRL_CNT1_REQ_WAITS else s
    .next (askPages s o n 0)

/-- A page that a Yakea core releases leaves the capture it belongs to; when its last page goes, the ORX has one capture less
to wait for (R218). -/
def dropHeld (s : State) (p : Nat) : State :=
  s.updLde (fun x => { x with orx := (List.range 8).foldl (fun m j =>
    m.upd j (fun o => { o with held := (o.held.map (fun l => l.filter (· != p))).filter (fun l => !l.isEmpty) })) x.orx })

/-- Release some pages. -/
def releasePages (s : State) (l : List Nat) : State := l.foldl (fun s p => freePage (dropHeld s p) p) s

/-- CAP_RELEASE (R422). -/
def execCapRelease (path : Path) (p : Fin 256) (s : State) : Out :=
  if p.val < 128 && s.holdsPage (s.ownerOf path) p then .next (releasePages s [p]) else .next (refusePage s)

/-- CAP_RELEASE_ALL (R422). -/
def execCapReleaseAll (path : Path) (s : State) : Out := .next (releasePages s (s.heldPages (s.ownerOf path)))

/-- CAP_RECLAIM (R422): a page that the host paths have held for longer than PAGE_HOLD. -/
def execCapReclaim (p : Fin 128) (s : State) : Out :=
  let hold := s.fld Fld.MEM_CAP_CFG_PAGE_HOLD
  if hold != 0 && s.hostPages.contains p.val && s.mem.capSince.at p + hold * ticksMs < s.time.now then
    .next ((releasePages s [p]).bump Fld.MEM_CAP_CNT_RECLAIMS)
  else .next s

/-! ### Data Mover channels (R424, R429 to R433) -/

def State.chState (s : State) (c : Nat) : Nat := s.fld (Fld.DMV_CH_STAT_STATE c)

/-- Show the channels in RUN or DRAIN. -/
def showBusy (s : State) : State :=
  s.setFld Fld.DMV_STATUS_BUSY (maskOf 32 (fun c => s.chState c == 2 || s.chState c == 3))

/-- Move a channel to a state. -/
def setCh (s : State) (c st : Nat) : State := showBusy (s.setFld (Fld.DMV_CH_STAT_STATE c) st)

/-- Set how a channel will stop. -/
def setDrain (s : State) (c : Nat) (d : DmvDrain) : State := s.updMem (fun m => { m with drain := m.drain.put c d })

/-- A channel enters DONE, STOPPED or ERROR (R433): a Yakea owner's source 2 latches. -/
def endCh (s : State) (c st : Nat) : State :=
  let o := s.fld (Fld.DMV_CH_STAT_OWNER c)
  let s := setCh s c st
  if 4 ≤ o && o ≤ 7 then s.latchIrq (o - 4) 2 else s

/-- Free a channel. -/
def freeCh (s : State) (c : Nat) : State :=
  let o := s.fld (Fld.DMV_CH_STAT_OWNER c)
  let s := showBusy (s.wr (Reg.DMV_CH_STAT c) 0)
  s.updMem (fun m => { m with dmvGrant := if m.dmvGrant.at o == some c then m.dmvGrant.put o none else m.dmvGrant
                              drain := m.drain.put c .no })

/-- The channels an owner may be granted (R424): DM0 to DM3 only by vendor firmware, the Yakea cores and clause engines. -/
def mayHave (o c : Nat) : Bool := 4 ≤ c || 4 ≤ o

/-- DMV_ALLOC_REQ (R424); a request that finds no free channel it may have waits (R21). -/
def execDmvAllocReq (path : Path) (s : State) : Out :=
  let o := s.ownerOf path
  if o = 0 || s.mem.dmvReqs.contains o then .next s
  else
    let s := if (List.range 32).any (fun c => s.chState c == 0 && mayHave o c) && s.mem.dmvReqs.isEmpty then s
             else s.bump Fld.GRL_CNT1_REQ_WAITS
    .next (s.updMem (fun m => { m with dmvReqs := m.dmvReqs ++ [o] }))

/-- DMV_GRANT (R424): the waiting requester with the lowest owner code takes the lowest free channel it may have. -/
def execDmvGrant (s : State) : Out :=
  match s.mem.dmvReqs.foldl (fun b o => match b with
      | none => some o
      | some q => if o < q then some o else some q) none with
  | none => .next s
  | some o =>
    let free := (List.range 32).filter (fun c => s.chState c == 0 && mayHave o c)
    match if 4 ≤ o then free.head? else (free.filter (4 ≤ ·)).head? with
    | none => .next s
    | some c =>
      let s := s.updMem (fun m => { m with dmvReqs := m.dmvReqs.filter (· != o), dmvGrant := m.dmvGrant.put o (some c) })
      let s := ((s.wr (Reg.DMV_CH_STAT c) 0).setFld (Fld.DMV_CH_STAT_OWNER c) o).bump Fld.GRL_CNT2_DM_GRANTS
      .next (setCh s c 1)

/-- May a path command channel c (R429)? Any other path's command ends in a bus error. -/
def State.ownsCh (s : State) (path : Path) (c : Nat) : Bool :=
  s.fld (Fld.DMV_CH_STAT_OWNER c) == s.ownerOf path && s.ownerOf path != 0

/-- Start a channel (R429): from READY, DONE or ERROR at LIST, from STOPPED at CUR. -/
def goCh (s : State) (c : Nat) : State :=
  let st := s.chState c
  let s := s.updMem (fun m => { m with elemFrom := m.elemFrom.put c s.time.now })
  if st == 1 || st == 5 || st == 6 then
    let s := s.wr (Reg.DMV_CH_CUR c) (BitVec.ofNat 32 (s.fld (Fld.DMV_CH_LIST_ADDR c) * 16))
    let s := s.updMem (fun m => { m with curDram := m.curDram.put c (s.on (Fld.DMV_CH_LIST_SP c)), drain := m.drain.put c .no })
    let s := (s.wr (Reg.DMV_CH_RESIDUE c) 0).setFld (Fld.DMV_CH_STAT_CAUSE c) 0
    setCh (s.flag (Fld.DMV_CH_STAT_ABORTED c) false) c 2
  else if st == 4 then
    let s := ((s.wr (Reg.DMV_CH_RESIDUE c) 0).flag (Fld.DMV_CH_STAT_ABORTED c) false).setFld (Fld.DMV_CH_STAT_CAUSE c) 0
    setCh (setDrain s c .no) c 2
  else s

/-- DMV_GO (R429). -/
def execDmvGo (path : Path) (c : Fin 32) (s : State) : Out := if s.ownsCh path c then .next (goCh s c) else .next s

/-- STOP (R429): the element in progress finishes. ABORT in progress stands (R431). -/
def stopCh (s : State) (c : Nat) : State := if s.chState c == 2 then setCh (setDrain s c .stop) c 3 else s

def execDmvStop (path : Path) (c : Fin 32) (s : State) : Out := if s.ownsCh path c then .next (stopCh s c) else .next s

/-- ABORT (R430, R431): it also takes over the DRAIN of a STOP. -/
def abortCh (s : State) (c : Nat) (release : Bool) : State :=
  if s.chState c == 2 || s.chState c == 3 then setCh (setDrain s c (.abort release)) c 3 else s

def execDmvAbort (path : Path) (c : Fin 32) (s : State) : Out :=
  if s.ownsCh path c then .next (abortCh s c (s.mem.drain.at c == .abort true)) else .next s

/-- RELEASE (R429): a running channel aborts first, any other is freed at once. -/
def releaseCh (s : State) (c : Nat) : State :=
  if s.chState c == 2 || s.chState c == 3 then abortCh s c true else freeCh s c

def execDmvRelease (path : Path) (c : Fin 32) (s : State) : Out := if s.ownsCh path c then .next (releaseCh s c) else .next s

/-- A write to DMV_CHc_LIST (R429): ignored in RUN and DRAIN. -/
def writeList (s : State) (c : Nat) (v : Word) : State :=
  if s.chState c == 2 || s.chState c == 3 then s else s.writeRw (Reg.DMV_CH_LIST c) v

end Sys2Proof.Machine
end

