-- ==== Sys2Proof/Machine/Yakea.lean ====
section
/-! DEFINITION. Machine/Yakea.lean: the Yakea cores (R352 to R387): issue in pairs and results in flight, exceptions and
interrupts, loops, mailboxes and local registers, user kernels, and every instruction but LDG and STG (those are in
Machine/Paths.lean, which holds the access paths). -/

namespace Sys2Proof.Machine

/-- A core. -/
def State.core (s : State) (n : Nat) : YCore := s.dsp.cores.at n

/-- A bit of a field of DSP_STATUS or DSP_CTRL. -/
def State.yBit (s : State) (f : Fld) (n : Nat) : Bool := (s.fld f).testBit n

/-- Set a bit of a field of DSP_STATUS or DSP_CTRL. -/
def State.setYBit (s : State) (f : Fld) (n : Nat) (b : Bool) : State := s.setFld f (putBit (s.fld f) n b)

/-- Does a core issue: not halted and not in WAIT? -/
def State.yIssues (s : State) (n : Nat) : Bool :=
  !s.yBit Fld.DSP_STATUS_HALTED n && !s.yBit Fld.DSP_STATUS_WAITING n

/-! ### Fields of SR (R355) -/

def srIE : Nat := 31
def srUM : Nat := 30
def srEXL : Nat := 29
def srFI : Nat := 2 ^ 11
def srSAT : Nat := 2 ^ 10
def srAOV : Nat := 2 ^ 9

/-- The places of V, N and Z in SR. -/
def srV : Nat := 8
def srN : Nat := 4
def srZ : Nat := 2

/-- A bit of SR. -/
def YCore.srBit (c : YCore) (i : Nat) : Bool := c.sr.getLsbD i

/-- Is the core in user mode (R382)? -/
def YCore.user (c : YCore) : Bool := c.srBit srUM

/-- SR.RND, with 3 acting as 1. -/
def YCore.rnd (c : YCore) : Nat := if fieldOf 27 2 c.sr = 3 then 1 else fieldOf 27 2 c.sr

/-- SR with some bits set or cleared. -/
def YCore.putSr (c : YCore) (i : Nat) (b : Bool) : YCore := { c with sr := BitVec.ofNat 32 (putBit c.sr.toNat i b) }

/-! ### Results in flight (R357, R358) -/

/-- Add a result that is visible L pairs after the pair being issued. -/
def YCore.push (c : YCore) (lat : Nat) (dst : YDst) (v : Nat) : YCore :=
  { c with inflight := c.inflight ++ [{ due := c.pair + lat, dst, val := v }] }

/-- A word with one half replaced. -/
def putHalf (w : Word) (hi : Bool) (v : Nat) : Word := if hi then setField 16 16 w v else setField 0 16 w v

/-- What an MTS to SR writes (R355): in user mode bits [28:0] only; reserved bits read 0, and a sticky bit is cleared by a 0
and kept by a 1. -/
def writeSr (old v : Word) (user : Bool) : Word :=
  let rw : Nat := if user then 0x1800000E + 0x04000000 else 0xFC00000E
  let st := srFI + srSAT + srAOV
  (old &&& BitVec.ofNat 32 (0xFFFFFFFF - rw - st)) ||| (v &&& BitVec.ofNat 32 rw) ||| (old &&& v &&& BitVec.ofNat 32 st)

/-- Write a result to its destination. Sticky flags and data aborts are treated apart. -/
def YCore.land (c : YCore) (r : YRes) : YCore :=
  let w := BitVec.ofNat 32 r.val
  match r.dst with
  | .d i => { c with d := c.d.put i w }
  | .dlo i => { c with d := c.d.upd i (fun x => putHalf x false r.val) }
  | .dhi i => { c with d := c.d.upd i (fun x => putHalf x true r.val) }
  | .em i => { c with em := c.em.put i (BitVec.ofNat 40 r.val) }
  | .es i => { c with es := c.es.put i (BitVec.ofNat 40 r.val) }
  | .eg i =>
    let g := fun (x : BitVec 40) => BitVec.ofNat 40 (x.toNat % 2 ^ 32 + r.val % 256 * 2 ^ 32)
    { c with em := c.em.upd i g, es := c.es.upd i g }
  | .a i => { c with a := c.a.put i w }
  | .b i => { c with b := c.b.put i w }
  | .l i => { c with l := c.l.put i w }
  | .n i => { c with n := c.n.put i w }
  | .flags m => { c with sr := (c.sr &&& ~~~BitVec.ofNat 32 m) ||| (w &&& BitVec.ofNat 32 m) }
  | .sr user => { c with sr := writeSr c.sr w user }
  | .spec k => { c with spec := c.spec.put k w }
  | .sticky => c
  | .abort => c

/-- The sticky flags a result sets. -/
def YRes.sets (r : YRes) : Nat := if r.dst = .sticky then r.val else 0

/-- Write the results that have become visible (R358): in the order of issue, with sticky flags set after any MTS clears
them. -/
def YCore.commit (c : YCore) : YCore :=
  let due := c.inflight.filter (fun r => r.due ≤ c.pair)
  let c := due.foldl YCore.land { c with inflight := c.inflight.filter (fun r => c.pair < r.due) }
  { c with sr := c.sr ||| due.foldl (fun m r => m ||| BitVec.ofNat 32 r.sets) 0 }

/-- FAR of a load's data abort that is due at or before a pair (R372). -/
def YCore.abortDue (c : YCore) (pair : Nat) : Option Nat :=
  ((c.inflight.filter (fun r => r.dst = .abort && r.due ≤ pair)).head?).map (fun r => r.val)

/-- Let every result in flight be written (R371, R374): at most 6 pairs' time. -/
def YCore.drain (c : YCore) : YCore :=
  (List.range 6).foldl (fun c _ => if c.inflight.isEmpty then c else ({ c with pair := c.pair + 1 } : YCore).commit) c

/-! ### Interrupt sources, the timer and the watchdog (R369, R375) -/

/-- Cycles of 1.0 GHz since a tick. -/
def State.cyclesSince (s : State) (t : Nat) : Nat := (s.time.now - t) * 5 / 4

/-- IRQ_PEND (R369): sources 0 and 1 follow the mailboxes' levels. -/
def YCore.pend (c : YCore) : Nat :=
  c.irqPend / 4 % 64 * 4 + (if c.mbIn.isEmpty then 0 else 1) + (if c.mbOut.length < 8 then 2 else 0)

/-- The enabled source that is taken first. -/
def YCore.irqSource (c : YCore) : Option Nat :=
  (List.range 8).find? (fun i => c.pend.testBit i && c.irqEn.testBit i)

/-- TIMER.COUNT (R379). -/
def State.yTimer (s : State) (c : YCore) : Nat := if c.timerOn then c.timer - s.cyclesSince c.timerFrom else 0

/-- The loop registers of a level (R355): LS, LE and LC by their MTS codes. -/
def YCore.loopReg (c : YCore) (v k : Nat) : Nat := (c.spec.at (6 + 3 * v + k)).toNat

/-- Is a level's loop active, and is an address one of the last pairs of its body? -/
def YCore.inTail (c : YCore) (pairs : Nat) : Bool :=
  (List.range 2).any (fun v => c.loopReg v 2 != 0 && (List.range pairs).any (fun i => c.pc + 8 * i == c.loopReg v 1))

/-- Is this a pair boundary at which an interrupt could be taken (R370)? -/
def YCore.boundary (c : YCore) : Bool := !c.opened && c.branch.isNone && !c.inTail 2 && !c.wroteSr

/-! ### Exceptions and interrupts (R371 to R373) -/

/-- Push a word into the outbound mailbox (R379). -/
def YCore.pushOut (c : YCore) (w : Word) : YCore :=
  if c.mbOut.length < 8 then { c with mbOut := c.mbOut ++ [w] } else { c with outOvf := true }

/-- A kernel ends (R383): a result word with its status and the words that follow it; the watchdog goes on (R375). -/
def endKernel (s : State) (n status : Nat) (words : List Word) : State :=
  s.updCore n (fun c =>
    let c := (BitVec.ofNat 32 (9 * 2 ^ 28 + words.length * 2 ^ 24 + status) :: words).foldl YCore.pushOut c
    match c.kernel with
    | none => c
    | some k => { c with kernel := none, wdogFrom := s.time.now - (k.since - c.wdogFrom) })

/-- A kernel's exception (R383, R384): TRAP 0 returns D0 to D(j − 1) with j in D15[2:0]; anything else is status 3 with
CAUSE. -/
def kernelException (s : State) (n : Nat) : State :=
  let c := s.core n
  let cause := c.spec.at 3
  if cause = 0x50000000 then
    let j := (c.d.at 15).toNat % 8
    if j = 7 then endKernel s n 5 [] else endKernel s n 0 ((List.range j).map (fun i => c.d.at i))
  else endKernel s n 3 [cause]

/-- Enter a handler (R371): EPC, ESR, then IE and UM clear and EXL set, and issue goes on at the vector. -/
def YCore.enter (c : YCore) (vec : Nat) : YCore :=
  let c := { c with spec := (c.spec.put 1 (BitVec.ofNat 32 c.pc)).put 2 c.sr
                    pc := (((c.spec.at 5).toNat / 64 * 64) + vec) % 2 ^ 32
                    branch := none, wroteSr := false }
  ((c.putSr srIE false).putSr srUM false).putSr srEXL true

/-- Record an exception (R372, R387): CAUSE, FAR and the counts. -/
def recordExc (s : State) (n : Nat) (e : YExc) : State :=
  let s := s.updCore n (fun c =>
    let sp := c.spec.put 3 (BitVec.ofNat 32 (e.cause * 2 ^ 28 + e.code * 2 ^ 16))
    { c with spec := match e.far with
        | none => sp
        | some a => sp.put 4 a })
  let s := s.setFld (Fld.DSP_Y_FAULT_CAUSE n) e.cause
  let s := match e.far with
    | none => s
    | some a => s.wr (Reg.DSP_Y_FAR n) a
  if e.cause = 5 then s.setFld (Fld.DSP_Y_FAULT_CODE n) e.code else s.bump (Fld.DSP_Y_FAULT_EXC_CNT n)

/-- A core halts with FAULTED and reports to the Fault Hub (R373, R375). -/
def faultCore (s : State) (n kind : Nat) : State :=
  let s := (s.setYBit Fld.DSP_STATUS_HALTED n true).setYBit Fld.DSP_STATUS_FAULTED n true
  reportFault (s.setYBit Fld.DSP_STATUS_WAITING n false) kind n

/-- Take an exception (R371 to R373). A data abort that a load in flight brings while the entry waits is taken in place of the
exception that caused the wait. -/
def takeExc (s : State) (n : Nat) (e : YExc) : State :=
  let c := s.core n
  if c.srBit srEXL then faultCore (recordExc s n e) n 0x40
  else
    let late := c.abortDue (c.pair + 6)
    let s := s.updCore n YCore.drain
    let s := recordExc s n e
    let s := match late with
      | none => s
      | some a => recordExc s n { cause := 3, code := 0, far := some (BitVec.ofNat 32 a) }
    let s := if (s.core n).user && (s.core n).kernel.isSome then kernelException s n else s
    s.updCore n (fun c => c.enter 0)

/-- Take the first enabled interrupt (R370, R371): a data abort that the wait brings is taken in its place. -/
def takeIrq (s : State) (n src : Nat) : State :=
  let c := s.core n
  match c.abortDue (c.pair + 6) with
  | some a => takeExc s n { cause := 3, code := 0, far := some (BitVec.ofNat 32 a) }
  | none => s.updCore n (fun c => c.drain.enter (0x40 * (src + 1)))

/-! ### Memories as a core addresses them (R352, R402) -/

/-- The debug-window address of a core's local data address. -/
def yWindow (n ea : Nat) : Option Nat :=
  if 0x40000 ≤ ea && ea < 0x80000 then some (0x41400000 + 0xA0000 * n + 0x20000 + (ea - 0x40000))
  else if 0x80000 ≤ ea && ea < 0xC0000 then some (0x41400000 + 0xA0000 * n + 0x60000 + (ea - 0x80000))
  else if 0xA00000 ≤ ea && ea < 0xC00000 then some (0x41680000 + (ea - 0xA00000))
  else none

/-- Is an address a local register's? -/
def yLocal (ea : Nat) : Bool := 0xF00000 ≤ ea && ea < 0xF00020

/-- Does an address lie in the user region of a core (R380)? -/
def yUserData (ea : Nat) : Bool :=
  (0x10000 ≤ ea && ea < 0x20000) || (0xA0000 ≤ ea && ea < 0xC0000) || (0xB80000 ≤ ea && ea < 0xC00000)

/-- The latency of a load (R357). -/
def yLatency (ea : Nat) : Nat := if 0xA00000 ≤ ea && ea < 0xC00000 then 6 else 3

/-! ### Local registers (R379) -/

/-- Pop the inbound mailbox. -/
def yPopIn (s : State) (n : Nat) : State × Word :=
  match (s.core n).mbIn with
  | [] => (s.updCore n (fun c => { c with inUnf := true }), 0)
  | w :: rest => (s.updCore n (fun c => { c with mbIn := rest }), w)

/-- Push the outbound mailbox. -/
def yPushOut (s : State) (n : Nat) (w : Word) : State := s.updCore n (fun c => c.pushOut w)

/-- Latch source 5 in the other cores that a mask names. -/
def yDoorbell (s : State) (n mask : Nat) : State :=
  ((bitsOf 4 mask).filter (· != n)).foldl (fun s m => s.latchIrq m 5) s

/-- Restart a core's watchdog (R375). -/
def yKick (s : State) (n : Nat) : State := s.updCore n (fun c => { c with wdogFrom := s.time.now, wdogHalf := false })

/-- Read a local register. -/
def yLocalRead (s : State) (n ofs : Nat) : State × Word :=
  let c := s.core n
  match ofs with
  | 0x00 => yPopIn s n
  | 0x08 => (s, BitVec.ofNat 32 (c.inUnf.toNat * 2 ^ 31 + c.outOvf.toNat * 2 ^ 30 + c.mbIn.length * 16 + c.mbOut.length))
  | 0x0C => (s, BitVec.ofNat 32 c.irqEn)
  | 0x10 => (s, BitVec.ofNat 32 c.pend)
  | 0x14 => (s, BitVec.ofNat 32 (s.yTimer c))
  | _ => (s, 0)

/-- Write a local register. -/
def yLocalWrite (s : State) (n ofs : Nat) (v : Word) : State :=
  match ofs with
  | 0x04 => yPushOut s n v
  | 0x08 => s.updCore n (fun c => { c with inUnf := c.inUnf && !v.getLsbD 31, outOvf := c.outOvf && !v.getLsbD 30 })
  | 0x0C => s.updCore n (fun c => { c with irqEn := v.toNat % 256 })
  | 0x10 => s.updCore n (fun c => { c with irqPend := maskOf 8 (fun i => c.irqPend.testBit i && !v.getLsbD i) })
  | 0x14 => s.updCore n (fun c => { c with timer := v.toNat, timerFrom := s.time.now, timerOn := true })
  | 0x18 => yDoorbell s n (v.toNat % 16)
  | 0x1C => yKick s n
  | _ => s

/-! ### Issue (R356, R366, R368) -/

/-- Make a store of the pair: to memory or to a local register (R359). -/
def yStore (n : Nat) (s : State) (e : Nat × Nat × Nat) : State :=
  if yLocal e.1 then yLocalWrite s n (e.1 - 0xF00000) (BitVec.ofNat 32 e.2.2)
  else match yWindow n e.1 with
    | none => s
    | some a => (s.memWrite false a (leBytes e.2.2 e.2.1)).getD s

/-- The end of a loop body (R366): level 1 is evaluated first, level 0 when level 1 does not go back. -/
def YCore.loopEnd (c : YCore) : YCore :=
  let one := fun (c : YCore) (v : Nat) =>
    let count := c.loopReg v 2
    ({ c with spec := c.spec.put (8 + 3 * v) (BitVec.ofNat 32 (count - 1)) } : YCore)
  let ends := fun (v : Nat) => c.pc == c.loopReg v 1 && c.loopReg v 2 != 0
  let c1 := if ends 1 then one c 1 else c
  if ends 1 && 1 < c.loopReg 1 2 then { c1 with pc := c.loopReg 1 0 }
  else
    let c0 := if ends 0 then one c1 0 else c1
    if ends 0 && 1 < c.loopReg 0 2 then { c0 with pc := c.loopReg 0 0 } else { c0 with pc := (c.pc + 8) % 2 ^ 32 }

/-- The PC moves past the pair: to a branch target after the delay pairs, past a loop body with count 0, back to the start of
a loop body, or to the next pair. -/
def YCore.advance (c : YCore) : YCore :=
  match c.branch with
  | some (t, 0) => { c with branch := none, pc := t }
  | some (t, k + 1) => { c with branch := some (t, k), pc := (c.pc + 8) % 2 ^ 32 }
  | none =>
    match c.skip with
    | some t => { c with pc := t }
    | none => c.loopEnd

/-- Halt a core whose RUN bit is 0 at a pair boundary at which an interrupt could be taken (R387). -/
def yHaltAsked (s : State) (n : Nat) : State :=
  if !s.yBit Fld.DSP_CTRL_RUN n && (s.core n).boundary then s.setYBit Fld.DSP_STATUS_HALTED n true else s

/-- End a WAIT (R374): with IE at 1 the interrupt is taken, else execution continues. -/
def yWake (s : State) (n : Nat) : State :=
  let c := s.core n
  match c.irqSource with
  | none => s
  | some src =>
    let s := s.setYBit Fld.DSP_STATUS_WAITING n false
    if c.srBit srIE && !c.srBit srEXL then takeIrq s n src else s

/-- The end of the pair being issued: stores, the PC, results that become visible, then an exception, RTI, SYNC or WAIT. A core
that its own pair has reset has no pair to end. -/
def endPair (s : State) (n : Nat) : State :=
  let c := s.core n
  if !c.opened then s else
  let s := c.stores.foldl (yStore n) s
  let s := s.updCore n (fun c => { (if c.badFetch then c else c.advance) with
    pair := c.pair + 1, opened := false, skip := none, stores := [], exc := none, badFetch := false, global := false, after := .go })
  let late := (s.core n).abortDue (s.core n).pair
  let s := s.updCore n YCore.commit
  yHaltAsked (match late, c.exc with
  | some a, _ => takeExc s n { cause := 3, code := 0, far := some (BitVec.ofNat 32 a) }
  | none, some e => takeExc s n e
  | none, none =>
    match c.after with
      | .go => s
      | .sync =>
        match (s.core n).abortDue ((s.core n).pair + 6) with
        | some a => takeExc s n { cause := 3, code := 0, far := some (BitVec.ofNat 32 a) }
        | none => s.updCore n YCore.drain
      | .rti =>
        match (s.core n).abortDue ((s.core n).pair + 6) with
        | some a => takeExc s n { cause := 3, code := 0, far := some (BitVec.ofNat 32 a) }
        | none => s.updCore n (fun c =>
            let c := c.drain
            { c with sr := c.spec.at 2, pc := (c.spec.at 1).toNat / 8 * 8, branch := none, wroteSr := true })
      | .wait => if (s.core n).irqSource.isSome then yWake s n else s.setYBit Fld.DSP_STATUS_WAITING n true) n

/-- Raise an exception in the pair being issued; the first one stands. -/
def YCore.raise (c : YCore) (cause : Nat) (far : Option Word := none) (code : Nat := 0) : YCore :=
  match c.exc with
  | some _ => c
  | none => { c with exc := some { cause, code, far } }

def raiseY (s : State) (n cause : Nat) (far : Option Word := none) (code : Nat := 0) : State :=
  s.updCore n (fun c => c.raise cause far code)

/-- Open a pair (R352, R372, R382): a fetch outside PM or of an uncorrectable word raises FETCH, and one outside the user
region in user mode PRIV; the pair is then not issued. -/
def openPair (s : State) (n : Nat) : State :=
  let c := s.core n
  let s := s.updCore n (fun c => { c with opened := true, wroteSr := false })
  let bad (s : State) (cause : Nat) : State := s.updCore n (fun c => { c.raise cause with badFetch := true })
  if c.user && !(0x10000 ≤ c.pc && c.pc < 0x20000) then bad s 4
  else if 0x20000 ≤ c.pc then bad s 6
  else if s.ueWord false (0x41400000 + 0xA0000 * n + c.pc) then
    bad (memEvent s true false (0x41400000 + 0xA0000 * n + c.pc / 8 * 8)) 6
  else s

/-- The formats of R376. -/
inductive YFmt where
  | r | i | m | l | s | b
deriving DecidableEq, Repr

/-- Some bits of an instruction's [23:0]. -/
def yBits (f : BitVec 24) (lo w : Nat) : Nat := f.toNat / 2 ^ lo % 2 ^ w

/-- Issue one instruction (R356): `slot0` opens a pair whose slot 1 follows, `only` is slot 0 with a NOP in slot 1, and `slot1`
ends the pair. Slot 1 takes formats R, I and L; a reserved field that is not zero, and what the instruction forbids, raise
ILLEGAL. A core that is halted or waits issues nothing. -/
def yIssue (s : State) (n : Nat) (slot : YSlot) (fmt : YFmt) (legal : Bool) (body : State → State) : Out :=
  if !s.yIssues n then .next s
  else
    let s := if slot != .slot1 && (s.core n).opened then endPair s n else s
    if !s.yIssues n then .next s
    else
      let s := if (s.core n).opened then s else openPair s n
      let s :=
        if (s.core n).badFetch then s
        else if !legal || (slot == .slot1 && !(fmt == .r || fmt == .i || fmt == .l)) then raiseY s n 1
        else body s
      .next (if slot == .slot0 then s else endPair s n)

/-! ### Format R and format I (R377) -/

/-- Z and N of a result, at their places in SR. -/
def flagsZN (w : Word) : Nat := (if w = 0 then srZ else 0) + (if w.msb then srN else 0)

/-- Signed saturation to a width, and whether it saturated. -/
def satTo (width : Nat) (v : Int) : Int × Bool :=
  let hi : Int := 2 ^ (width - 1) - 1
  let lo : Int := -2 ^ (width - 1)
  if hi < v then (hi, true) else if v < lo then (lo, true) else (v, false)

/-- A result of an integer operation with Z and N, and with V where it is given. -/
def YCore.result (c : YCore) (i : Nat) (w : Word) (v : Option Bool) : YCore :=
  (c.push 1 (.d i) w.toNat).push 1 (.flags (srZ + srN + (if v.isSome then srV else 0)))
    (flagsZN w + (if v = some true then srV else 0))

/-- Set sticky flags with a latency. -/
def YCore.stick (c : YCore) (lat : Nat) (b : Bool) (flag : Nat) : YCore := if b then c.push lat .sticky flag else c

/-- Does a sum of two words overflow as signed? -/
def addOverflows (a b : Word) : Bool := (satTo 32 (a.toInt + b.toInt)).2
def subOverflows (a b : Word) : Bool := (satTo 32 (a.toInt - b.toInt)).2

/-- The fields d, s and t of format R, and the values of D(s) and D(t). -/
def fD (f : BitVec 24) : Nat := yBits f 20 4
def fS (f : BitVec 24) : Nat := yBits f 16 4
def fT (f : BitVec 24) : Nat := yBits f 12 4
def YCore.ds (c : YCore) (f : BitVec 24) : Word := c.d.at (fS f)
def YCore.dt (c : YCore) (f : BitVec 24) : Word := c.d.at (fT f)

/-- imm16 as a signed number and as a word. -/
def fImm (f : BitVec 24) : Int := signed 16 (yBits f 0 16)
def fImmW (f : BitVec 24) : Word := BitVec.ofInt 32 (fImm f)
def fImmU (f : BitVec 24) : Word := BitVec.ofNat 32 (yBits f 0 16)

/-- A format R instruction: [11:0] must be zero. -/
def yR (s : State) (n : Nat) (slot : YSlot) (f : BitVec 24) (body : YCore → YCore) : Out :=
  yIssue s n slot .r (yBits f 0 12 == 0) (fun s => s.updCore n body)

/-- A format I instruction. -/
def yI (s : State) (n : Nat) (slot : YSlot) (body : YCore → YCore) : Out :=
  yIssue s n slot .i true (fun s => s.updCore n body)

def execYNop (n : Fin 4) (slot : YSlot) (f : BitVec 24) (s : State) : Out := yR s n slot f (fun c => c)

def execYAdd (n : Fin 4) (slot : YSlot) (f : BitVec 24) (s : State) : Out :=
  yR s n slot f (fun c => c.result (fD f) (c.ds f + c.dt f) (some (addOverflows (c.ds f) (c.dt f))))

def execYSub (n : Fin 4) (slot : YSlot) (f : BitVec 24) (s : State) : Out :=
  yR s n slot f (fun c => c.result (fD f) (c.ds f - c.dt f) (some (subOverflows (c.ds f) (c.dt f))))

/-- A logical operation or a shift: V clears. -/
def YCore.logic (c : YCore) (i : Nat) (w : Word) : YCore := c.result i w (some false)

def execYAnd (n : Fin 4) (slot : YSlot) (f : BitVec 24) (s : State) : Out :=
  yR s n slot f (fun c => c.logic (fD f) (c.ds f &&& c.dt f))

def execYOr (n : Fin 4) (slot : YSlot) (f : BitVec 24) (s : State) : Out :=
  yR s n slot f (fun c => c.logic (fD f) (c.ds f ||| c.dt f))

def execYXor (n : Fin 4) (slot : YSlot) (f : BitVec 24) (s : State) : Out :=
  yR s n slot f (fun c => c.logic (fD f) (c.ds f ^^^ c.dt f))

def execYShl (n : Fin 4) (slot : YSlot) (f : BitVec 24) (s : State) : Out :=
  yR s n slot f (fun c => c.logic (fD f) (c.ds f <<< ((c.dt f).toNat % 32)))

def execYShr (n : Fin 4) (slot : YSlot) (f : BitVec 24) (s : State) : Out :=
  yR s n slot f (fun c => c.logic (fD f) (c.ds f >>> ((c.dt f).toNat % 32)))

def execYShra (n : Fin 4) (slot : YSlot) (f : BitVec 24) (s : State) : Out :=
  yR s n slot f (fun c => c.logic (fD f) ((c.ds f).sshiftRight ((c.dt f).toNat % 32)))

/-- A saturating sum: flags from the result, V on the overflow, and SAT when it saturates. -/
def YCore.satResult (c : YCore) (i : Nat) (v : Int) : YCore :=
  let r := satTo 32 v
  (c.result i (BitVec.ofInt 32 r.1) (some r.2)).stick 1 r.2 srSAT

def execYAdds (n : Fin 4) (slot : YSlot) (f : BitVec 24) (s : State) : Out :=
  yR s n slot f (fun c => c.satResult (fD f) ((c.ds f).toInt + (c.dt f).toInt))

def execYSubs (n : Fin 4) (slot : YSlot) (f : BitVec 24) (s : State) : Out :=
  yR s n slot f (fun c => c.satResult (fD f) ((c.ds f).toInt - (c.dt f).toInt))

/-- The halves of a word, signed: high and low. -/
def hiHalf (w : Word) : Int := signed 16 (w.toNat / 65536)
def loHalf (w : Word) : Int := signed 16 w.toNat

/-- A word of two halves. -/
def packHalves (h l : Int) : Word := BitVec.ofNat 32 (unsigned 16 h * 65536 + unsigned 16 l)

/-- A complex sum with each half saturated. -/
def YCore.halves (c : YCore) (i : Nat) (h l : Int) : YCore :=
  let a := satTo 16 h
  let b := satTo 16 l
  (c.push 1 (.d i) (packHalves a.1 b.1).toNat).stick 1 (a.2 || b.2) srSAT

def execYCadd (n : Fin 4) (slot : YSlot) (f : BitVec 24) (s : State) : Out :=
  yR s n slot f (fun c => c.halves (fD f) (hiHalf (c.ds f) + hiHalf (c.dt f)) (loHalf (c.ds f) + loHalf (c.dt f)))

def execYCsub (n : Fin 4) (slot : YSlot) (f : BitVec 24) (s : State) : Out :=
  yR s n slot f (fun c => c.halves (fD f) (hiHalf (c.ds f) - hiHalf (c.dt f)) (loHalf (c.ds f) - loHalf (c.dt f)))

def execYMin (n : Fin 4) (slot : YSlot) (f : BitVec 24) (s : State) : Out :=
  yR s n slot f (fun c => c.result (fD f) (if (c.ds f).toInt ≤ (c.dt f).toInt then c.ds f else c.dt f) none)

def execYMax (n : Fin 4) (slot : YSlot) (f : BitVec 24) (s : State) : Out :=
  yR s n slot f (fun c => c.result (fD f) (if (c.ds f).toInt ≤ (c.dt f).toInt then c.dt f else c.ds f) none)

def execYMov (n : Fin 4) (slot : YSlot) (f : BitVec 24) (s : State) : Out :=
  yR s n slot f (fun c => c.push 1 (.d (fD f)) (c.ds f).toNat)

/-- A binary32 result with its latency; an invalid operation sets FI. -/
def YCore.fpResult (c : YCore) (lat i : Nat) (r : FpRes) : YCore := (c.push lat (.d i) r.1.toNat).stick lat r.2 srFI

def execYFadd (n : Fin 4) (slot : YSlot) (f : BitVec 24) (s : State) : Out :=
  yR s n slot f (fun c => c.fpResult 4 (fD f) (fpAdd (c.ds f) (c.dt f)))

def execYFsub (n : Fin 4) (slot : YSlot) (f : BitVec 24) (s : State) : Out :=
  yR s n slot f (fun c => c.fpResult 4 (fD f) (fpSub (c.ds f) (c.dt f)))

def execYFmul (n : Fin 4) (slot : YSlot) (f : BitVec 24) (s : State) : Out :=
  yR s n slot f (fun c => c.fpResult 4 (fD f) (fpMul (c.ds f) (c.dt f)))

/-- FMAC: the product is rounded, then the sum. -/
def execYFmac (n : Fin 4) (slot : YSlot) (f : BitVec 24) (s : State) : Out :=
  yR s n slot f (fun c =>
    let p := fpMul (c.ds f) (c.dt f)
    let r := fpAdd (c.d.at (fD f)) p.1
    c.fpResult 6 (fD f) (r.1, p.2 || r.2))

def execYFrsq (n : Fin 4) (slot : YSlot) (f : BitVec 24) (s : State) : Out :=
  yR s n slot f (fun c => c.fpResult 6 (fD f) (fpRsqrt (c.ds f)))

def execYFcvtf (n : Fin 4) (slot : YSlot) (f : BitVec 24) (s : State) : Out :=
  yR s n slot f (fun c => c.push 4 (.d (fD f)) (fpOfInt (c.ds f).toInt 0).toNat)

/-- FCVTI: out of range saturates and sets SAT; a NaN gives 0 and sets FI. -/
def execYFcvti (n : Fin 4) (slot : YSlot) (f : BitVec 24) (s : State) : Out :=
  yR s n slot f (fun c =>
    match fpOf (c.ds f) with
    | .nan => (c.push 4 (.d (fD f)) 0).stick 4 true srFI
    | .inf neg => (c.push 4 (.d (fD f)) (if neg then 0x80000000 else 0x7FFFFFFF)).stick 4 true srSAT
    | .fin _ _ _ =>
      let r := satTo 32 ((fpToInt (c.ds f)).getD 0)
      (c.push 4 (.d (fD f)) (unsigned 32 r.1)).stick 4 r.2 srSAT)

def execYFcmp (n : Fin 4) (slot : YSlot) (f : BitVec 24) (s : State) : Out :=
  yR s n slot f (fun c => c.push 4 (.flags (srZ + srN + srV))
    ((if fpEqual (c.ds f) (c.dt f) then srZ else 0) + (if fpLess (c.ds f) (c.dt f) then srN else 0)
      + (if fpIsNan (c.ds f) || fpIsNan (c.dt f) then srV else 0)))

/-- The guard bits of an accumulator as MFS reads them. -/
def YCore.guard (c : YCore) (i : Nat) : Nat := (c.es.at i).toNat / 2 ^ 32

/-- The value MFS reads of a special register (R355). -/
def yMfs (s : State) (n code : Nat) : Nat :=
  let c := s.core n
  match code with
  | 0 => c.sr.toNat
  | 12 => c.guard 1 * 256 + c.guard 0
  | 13 => c.guard 3 * 256 + c.guard 2
  | 14 => s.cyclesSince c.resetAt % 2 ^ 32
  | 15 => n
  | k => (c.spec.at k).toNat

def execYMfs (n : Fin 4) (slot : YSlot) (f : BitVec 24) (s : State) : Out :=
  yIssue s n slot .r (yBits f 0 12 == 0) (fun s => s.updCore n (fun c => c.push 1 (.d (fD f)) (yMfs s n (fS f))))

/-- MTS (R355, R382): codes CAUSE, FAR, CYCLE and CORE have no effect; in user mode codes 1 to 5, and the registers of a loop
that the kernel did not start, raise PRIV. -/
def yMts (c : YCore) (code : Nat) (v : Word) : YCore :=
  if c.user && ((1 ≤ code && code ≤ 5) || (6 ≤ code && code ≤ 11 && !c.ownLoops.testBit ((code - 6) / 3))) then c.raise 4
  else match code with
    | 0 => { c.push 1 (.sr c.user) v.toNat with wroteSr := true }
    | 3 => c
    | 4 => c
    | 5 => c.push 1 (.spec 5) (v.toNat / 64 * 64)
    | 12 => (c.push 1 (.eg 0) v.toNat).push 1 (.eg 1) (v.toNat / 256)
    | 13 => (c.push 1 (.eg 2) v.toNat).push 1 (.eg 3) (v.toNat / 256)
    | 14 => c
    | 15 => c
    | k => c.push 1 (.spec k) v.toNat

def execYMts (n : Fin 4) (slot : YSlot) (f : BitVec 24) (s : State) : Out :=
  yR s n slot f (fun c => yMts c (fD f) (c.ds f))

/-- MFA: register s[2:0] of kind t[1:0]. -/
def execYMfa (n : Fin 4) (slot : YSlot) (f : BitVec 24) (s : State) : Out :=
  yR s n slot f (fun c =>
    let i := fS f % 8
    c.push 1 (.d (fD f)) (match fT f % 4 with
      | 0 => c.a.at i
      | 1 => c.b.at i
      | 2 => c.l.at i
      | _ => c.n.at i).toNat)

/-- MTA: register d[2:0] of kind t[1:0]. -/
def execYMta (n : Fin 4) (slot : YSlot) (f : BitVec 24) (s : State) : Out :=
  yR s n slot f (fun c =>
    let i := fD f % 8
    c.push 1 (match fT f % 4 with
      | 0 => .a i
      | 1 => .b i
      | 2 => .l i
      | _ => .n i) (c.ds f).toNat)

def execYMovi (n : Fin 4) (slot : YSlot) (f : BitVec 24) (s : State) : Out :=
  yI s n slot (fun c => c.push 1 (.d (fD f)) (fImmW f).toNat)

def execYMovh (n : Fin 4) (slot : YSlot) (f : BitVec 24) (s : State) : Out :=
  yI s n slot (fun c => c.push 1 (.dhi (fD f)) (yBits f 0 16))

def execYAddi (n : Fin 4) (slot : YSlot) (f : BitVec 24) (s : State) : Out :=
  yI s n slot (fun c => c.result (fD f) (c.ds f + fImmW f) (some (addOverflows (c.ds f) (fImmW f))))

def execYAndi (n : Fin 4) (slot : YSlot) (f : BitVec 24) (s : State) : Out :=
  yI s n slot (fun c => c.logic (fD f) (c.ds f &&& fImmU f))

def execYOri (n : Fin 4) (slot : YSlot) (f : BitVec 24) (s : State) : Out :=
  yI s n slot (fun c => c.logic (fD f) (c.ds f ||| fImmU f))

def execYShli (n : Fin 4) (slot : YSlot) (f : BitVec 24) (s : State) : Out :=
  yI s n slot (fun c => c.logic (fD f) (c.ds f <<< yBits f 0 5))

def execYShri (n : Fin 4) (slot : YSlot) (f : BitVec 24) (s : State) : Out :=
  yI s n slot (fun c => c.logic (fD f) (c.ds f >>> yBits f 0 5))

def execYShrai (n : Fin 4) (slot : YSlot) (f : BitVec 24) (s : State) : Out :=
  yI s n slot (fun c => c.logic (fD f) ((c.ds f).sshiftRight (yBits f 0 5)))

def execYCmpi (n : Fin 4) (slot : YSlot) (f : BitVec 24) (s : State) : Out :=
  yI s n slot (fun c => c.push 1 (.flags (srZ + srN + srV))
    (flagsZN (c.ds f - fImmW f) + (if subOverflows (c.ds f) (fImmW f) then srV else 0)))

def execYAdda (n : Fin 4) (slot : YSlot) (f : BitVec 24) (s : State) : Out :=
  yI s n slot (fun c => c.push 1 (.a (fD f % 8)) (c.a.at (fD f % 8) + fImmW f).toNat)

/-! ### Format M (R360, R378) -/

/-- One accumulator update (R360): modulo 2^40 with ACM at 0, clamped with ACM at 1; AOV sets when the exact result lies
outside. -/
def accUpdate (clamp : Bool) (v : Int) : Int × Bool :=
  if clamp then
    if 2 ^ 39 - 1 < v then (2 ^ 39 - 1, true) else if v < -(2 ^ 39 - 1) then (-(2 ^ 39 - 1), true) else (v, false)
  else (signed 40 (unsigned 40 v), decide (v < -2 ^ 39) || decide (2 ^ 39 - 1 < v))

/-- Write an accumulator: visible to format M after 1 pair and to format S and MFS after 2. -/
def YCore.pushAcc (c : YCore) (e : Nat) (v : Int) : YCore := (c.push 1 (.em e) (unsigned 40 v)).push 2 (.es e) (unsigned 40 v)

/-- Add a value to an accumulator, or subtract it, from 0 with CLR at 1. -/
def YCore.mac (c : YCore) (f : BitVec 24) (e : Nat) (v : Int) : YCore :=
  let old : Int := if yBits f 11 1 = 1 then 0 else (c.em.at e).toInt
  let r := accUpdate (c.srBit 26) (if yBits f 13 1 = 1 then old - v else old + v)
  (c.pushAcc e r.1).stick 2 r.2 srAOV

/-- The fields of format M: e, and the halves of X = D(s) and Y = D(t). -/
def mE (f : BitVec 24) : Nat := yBits f 22 2
def YCore.mX (c : YCore) (f : BitVec 24) : Word := c.d.at (yBits f 18 4)
def YCore.mY (c : YCore) (f : BitVec 24) : Word := c.d.at (yBits f 14 4)

/-- The four cross products. -/
def YCore.hh (c : YCore) (f : BitVec 24) : Int := hiHalf (c.mX f) * hiHalf (c.mY f)
def YCore.ll (c : YCore) (f : BitVec 24) : Int := loHalf (c.mX f) * loHalf (c.mY f)
def YCore.hl (c : YCore) (f : BitVec 24) : Int := hiHalf (c.mX f) * loHalf (c.mY f)
def YCore.lh (c : YCore) (f : BitVec 24) : Int := loHalf (c.mX f) * hiHalf (c.mY f)

/-- A format M instruction: [10:0] must be zero, and CONJ is allowed with CMAC only. -/
def yM (s : State) (n : Nat) (slot : YSlot) (f : BitVec 24) (conj legal : Bool) (body : YCore → YCore) : Out :=
  yIssue s n slot .m (yBits f 0 11 == 0 && (conj || yBits f 12 1 == 0) && legal) (fun s => s.updCore n body)

def execYCmac (n : Fin 4) (slot : YSlot) (f : BitVec 24) (s : State) : Out :=
  yM s n slot f true (mE f % 2 == 0) (fun c =>
    if yBits f 12 1 = 1 then (c.mac f (mE f) (c.hh f + c.ll f)).mac f (mE f + 1) (c.lh f - c.hl f)
    else (c.mac f (mE f) (c.hh f - c.ll f)).mac f (mE f + 1) (c.hl f + c.lh f))

def execYQmac (n : Fin 4) (slot : YSlot) (f : BitVec 24) (s : State) : Out :=
  yM s n slot f false (mE f == 0) (fun c =>
    (((c.mac f 0 (c.hh f)).mac f 1 (c.hl f)).mac f 2 (c.lh f)).mac f 3 (c.ll f))

def execYDmac (n : Fin 4) (slot : YSlot) (f : BitVec 24) (s : State) : Out :=
  yM s n slot f false (mE f % 2 == 0) (fun c => (c.mac f (mE f) (c.hh f)).mac f (mE f + 1) (c.ll f))

def execYDot (n : Fin 4) (slot : YSlot) (f : BitVec 24) (s : State) : Out :=
  yM s n slot f false true (fun c => c.mac f (mE f) (c.hh f + c.ll f))

def execYEadd (n : Fin 4) (slot : YSlot) (f : BitVec 24) (s : State) : Out :=
  yM s n slot f false true (fun c => c.mac f (mE f) (c.em.at (yBits f 14 2)).toInt)

/-- EMOV: D(s) or its negative, extended to 40 bits. -/
def execYEmov (n : Fin 4) (slot : YSlot) (f : BitVec 24) (s : State) : Out :=
  yM s n slot f false true (fun c =>
    c.pushAcc (mE f) (if yBits f 13 1 = 1 then -(c.mX f).toInt else (c.mX f).toInt))

/-! ### Format L (R362 to R365, R378) -/

/-- Post-modification by a step (R363). -/
def YCore.postMod (c : YCore) (x : Nat) (step : Int) : Nat :=
  let a : Int := (c.a.at x).toNat
  let b : Int := (c.b.at x).toNat
  let l : Int := (c.l.at x).toNat
  unsigned 32 (if l = 0 then a + step else b + (a - b + step) % l)

/-- A number with its low bits in reverse order. -/
def bitReverse (m n : Nat) : Nat := maskOf m (fun i => n.testBit (m - 1 - i))

/-- A bit-reversed update (R364): the carry runs from bit m − 1 towards bit 0. -/
def YCore.bitRev (c : YCore) (x : Nat) : Nat :=
  let l := (c.l.at x).toNat
  let m := Nat.log2 l
  if m = 0 || l != 2 ^ m then c.postMod x (c.n.at x).toInt
  else
    let u := (((c.a.at x).toNat : Int) - (c.b.at x).toNat) % (l : Int)
    let r := bitReverse m ((bitReverse m u.toNat + bitReverse m ((c.n.at x).toNat % l)) % l)
    ((c.b.at x).toNat + r) % 2 ^ 32

/-- The effective address of format L (R362). -/
def YCore.ea (c : YCore) (f : BitVec 24) : Nat :=
  let x := yBits f 17 3
  if yBits f 15 2 = 0 then unsigned 32 ((c.a.at x).toNat + signed 15 (yBits f 0 15)) else (c.a.at x).toNat

/-- The update of Ax (R362). -/
def YCore.modA (c : YCore) (mode : Nat) (f : BitVec 24) : YCore :=
  let x := yBits f 17 3
  match mode with
  | 0 => c
  | 1 => c.push 1 (.a x) (c.postMod x (c.n.at x).toInt)
  | 2 => c.push 1 (.a x) (c.postMod x (signed 15 (yBits f 0 15)))
  | _ => c.push 1 (.a x) (c.bitRev x)

/-- A format L instruction that makes an access of some bytes: the alignment of R365, then the update of Ax, then the
access. -/
def yL (s : State) (n : Nat) (slot : YSlot) (f : BitVec 24) (size : Nat) (access : State → Nat → State) : Out :=
  yIssue s n slot .l true (fun s =>
    let ea := (s.core n).ea f
    if ea % size != 0 then raiseY s n 2 (some (BitVec.ofNat 32 ea))
    else access (s.updCore n (fun c => c.modA (yBits f 15 2) f)) ea)

/-- A load that ends in a data abort (R372): it is taken when the load's result would have been written. -/
def loadAbort (s : State) (n ea lat : Nat) : State := s.updCore n (fun c => c.push lat .abort ea)

/-- A load of some bytes into a data register. -/
def yLoad (s : State) (n : Nat) (f : BitVec 24) (size : Nat) (ea : Nat) : State :=
  if (s.core n).user && !yUserData ea then raiseY s n 4 (some (BitVec.ofNat 32 ea))
  else if yLocal ea && size == 4 then
    let r := yLocalRead s n (ea - 0xF00000)
    r.1.updCore n (fun c => c.push 3 (.d (fD f)) r.2.toNat)
  else match yWindow n ea with
    | none =>
      -- the spec gives no latency where there is no memory
      loadAbort s.tookFree n ea (3 + 3 * (s.free 1).toNat)
    | some a =>
      if s.ueWord false a then loadAbort (memEvent s true false (a / 8 * 8)) n ea (yLatency ea)
      else
        let v := leNat (s.memRead false a size)
        let w := if size = 2 then unsigned 32 (signed 16 v) else v
        s.updCore n (fun c => c.push (yLatency ea) (.d (fD f)) w)

/-- A store of some bytes of a data register. -/
def yStoreOp (s : State) (n : Nat) (f : BitVec 24) (size : Nat) (ea : Nat) : State :=
  let v := ((s.core n).d.at (fD f)).toNat % 256 ^ size
  let put := s.updCore n (fun c => { c with stores := c.stores ++ [(ea, size, v)] })
  if (s.core n).user && !yUserData ea then raiseY s n 4 (some (BitVec.ofNat 32 ea))
  else if yLocal ea && size == 4 then put
  else match yWindow n ea with
    | none => raiseY s n 3 (some (BitVec.ofNat 32 ea))
    | some a =>
      if s.ueWord false a then raiseY (memEvent s true false (a / 8 * 8)) n 3 (some (BitVec.ofNat 32 ea)) else put

def execYLdw (n : Fin 4) (slot : YSlot) (f : BitVec 24) (s : State) : Out :=
  yL s n slot f 4 (fun s ea => yLoad s n f 4 ea)

def execYLdh (n : Fin 4) (slot : YSlot) (f : BitVec 24) (s : State) : Out :=
  yL s n slot f 2 (fun s ea => yLoad s n f 2 ea)

def execYStw (n : Fin 4) (slot : YSlot) (f : BitVec 24) (s : State) : Out :=
  yL s n slot f 4 (fun s ea => yStoreOp s n f 4 ea)

def execYSth (n : Fin 4) (slot : YSlot) (f : BitVec 24) (s : State) : Out :=
  yL s n slot f 2 (fun s ea => yStoreOp s n f 2 ea)

/-- MODA: MOD 0 acts as 2. -/
def execYModa (n : Fin 4) (slot : YSlot) (f : BitVec 24) (s : State) : Out :=
  yIssue s n slot .l true (fun s => s.updCore n (fun c => c.modA (if yBits f 15 2 = 0 then 2 else yBits f 15 2) f))

/-! ### Format S (R361, R378) -/

/-- rnd(E, sh) of R361. -/
def accRound (mode : Nat) (e : Int) (sh : Nat) : Int :=
  if sh = 0 then e
  else if mode = 0 then e / 2 ^ sh
  else if mode = 1 then (e + 2 ^ (sh - 1)) / 2 ^ sh
  else
    let q := e / 2 ^ sh
    let r := e % 2 ^ sh
    if 2 ^ (sh - 1) < r || (r = 2 ^ (sh - 1) && q % 2 = 1) then q + 1 else q

/-- The fields of format S: e, d and sh. -/
def sD (f : BitVec 24) : Nat := yBits f 18 4
def sSh (f : BitVec 24) : Nat := yBits f 13 5

/-- An accumulator rounded, shifted and saturated to a width. -/
def YCore.accStore (c : YCore) (f : BitVec 24) (e width : Nat) : Int × Bool :=
  satTo width (accRound c.rnd (c.es.at e).toInt (sSh f))

/-- A format S instruction: [12:0] must be zero. -/
def yS (s : State) (n : Nat) (slot : YSlot) (f : BitVec 24) (legal : Bool) (body : YCore → YCore) : Out :=
  yIssue s n slot .s (yBits f 0 13 == 0 && legal) (fun s => s.updCore n body)

def execYSaw (n : Fin 4) (slot : YSlot) (f : BitVec 24) (s : State) : Out :=
  yS s n slot f true (fun c =>
    let r := c.accStore f (mE f) 32
    (c.push 2 (.d (sD f)) (unsigned 32 r.1)).stick 2 r.2 srSAT)

def execYSahl (n : Fin 4) (slot : YSlot) (f : BitVec 24) (s : State) : Out :=
  yS s n slot f true (fun c =>
    let r := c.accStore f (mE f) 16
    (c.push 2 (.dlo (sD f)) (unsigned 16 r.1)).stick 2 r.2 srSAT)

def execYSahh (n : Fin 4) (slot : YSlot) (f : BitVec 24) (s : State) : Out :=
  yS s n slot f true (fun c =>
    let r := c.accStore f (mE f) 16
    (c.push 2 (.dhi (sD f)) (unsigned 16 r.1)).stick 2 r.2 srSAT)

def execYSac (n : Fin 4) (slot : YSlot) (f : BitVec 24) (s : State) : Out :=
  yS s n slot f (mE f % 2 == 0) (fun c =>
    let h := c.accStore f (mE f) 16
    let l := c.accStore f (mE f + 1) 16
    (c.push 2 (.d (sD f)) (packHalves h.1 l.1).toNat).stick 2 (h.2 || l.2) srSAT)

/-- The number of leading bits of an accumulator equal to bit 39. -/
def leadingSign (e : BitVec 40) : Nat :=
  (List.range 40).foldr (fun i k => if e.getLsbD (39 - i) == e.msb then k + 1 else 0) 0

def execYEnorm (n : Fin 4) (slot : YSlot) (f : BitVec 24) (s : State) : Out :=
  yS s n slot f true (fun c =>
    c.push 2 (.d (sD f)) (unsigned 32 ((leadingSign (c.es.at (mE f)) : Int) - 1 - 8)))

/-- SAR: sh must be 0. -/
def execYSar (n : Fin 4) (slot : YSlot) (f : BitVec 24) (s : State) : Out :=
  yS s n slot f (sSh f == 0) (fun c => c.push 2 (.d (sD f)) ((c.es.at (mE f)).toNat % 2 ^ 32))

/-! ### Format B (R366 to R368, R374) -/

/-- A format B instruction: not in a delay pair, nor in one of the last 3 pairs of a body whose LC is not 0. -/
def yB (s : State) (n : Nat) (slot : YSlot) (legal : Bool) (body : YCore → YCore) : Out :=
  yIssue s n slot .b legal (fun s => s.updCore n (fun c =>
    if c.branch.isSome || c.inTail 3 then c.raise 1 else body c))

/-- Does a condition of R368 hold with the flags visible? -/
def YCore.holds (c : YCore) (cond : Nat) : Bool :=
  let v := c.srBit 3
  let neg := c.srBit 2
  let z := c.srBit 1
  match cond with
  | 0 => true
  | 1 => z
  | 2 => !z
  | 3 => neg
  | 4 => !neg
  | 5 => !neg && !z
  | 6 => neg || z
  | _ => v

/-- Branch to a target after 2 delay pairs; one not taken has its delay pairs all the same. -/
def YCore.branchTo (c : YCore) (taken : Bool) (target : Nat) : YCore :=
  { c with branch := some (if taken then target else (c.pc + 24) % 2 ^ 32, 2) }

/-- The target of BCC and CALL. -/
def YCore.target (c : YCore) (f : BitVec 24) : Nat := unsigned 32 (c.pc + 8 * signed 20 (yBits f 0 20))

def execYBcc (n : Fin 4) (slot : YSlot) (f : BitVec 24) (s : State) : Out :=
  yB s n slot (decide (yBits f 20 4 < 8)) (fun c => c.branchTo (c.holds (yBits f 20 4)) (c.target f))

def execYCall (n : Fin 4) (slot : YSlot) (f : BitVec 24) (s : State) : Out :=
  yB s n slot (yBits f 20 4 == 0) (fun c => (c.push 1 (.d 15) ((c.pc + 24) % 2 ^ 32)).branchTo true (c.target f))

def execYJr (n : Fin 4) (slot : YSlot) (f : BitVec 24) (s : State) : Out :=
  yB s n slot (yBits f 0 16 == 0 && decide (yBits f 20 4 < 8)) (fun c =>
    c.branchTo (c.holds (yBits f 20 4)) ((c.ds f).toNat / 8 * 8))

/-- Set up a loop at a level (R366, R367): LS, LE and LC; with a count of 0 execution continues past the body. -/
def YCore.loop (c : YCore) (v count len : Nat) : YCore :=
  let ls := (c.pc + 8) % 2 ^ 32
  let le := (ls + 8 * (len - 1)) % 2 ^ 32
  if len < 3 || (v = 1 && c.loopReg 0 2 != 0 && c.loopReg 0 1 < le) then c.raise 1
  else
    let c := ((c.push 1 (.spec (6 + 3 * v)) ls).push 1 (.spec (7 + 3 * v)) le).push 1 (.spec (8 + 3 * v)) count
    { c with skip := if count = 0 then some ((le + 8) % 2 ^ 32) else none
             ownLoops := if c.user then putBit c.ownLoops v true else c.ownLoops }

def execYLoopi (n : Fin 4) (slot : YSlot) (f : BitVec 24) (s : State) : Out :=
  yB s n slot true (fun c => c.loop (yBits f 23 1) (yBits f 10 13) (yBits f 0 10))

def execYLoopr (n : Fin 4) (slot : YSlot) (f : BitVec 24) (s : State) : Out :=
  yB s n slot (yBits f 10 9 == 0) (fun c =>
    c.loop (yBits f 23 1) ((c.d.at (yBits f 19 4)).toNat % 65536) (yBits f 0 10))

/-- What only firmware may do (R382). -/
def YCore.privileged (c : YCore) (body : YCore → YCore) : YCore := if c.user then c.raise 4 else body c

def execYRti (n : Fin 4) (slot : YSlot) (f : BitVec 24) (s : State) : Out :=
  yB s n slot (f == 0) (fun c => c.privileged (fun c => { c with after := .rti }))

def execYWait (n : Fin 4) (slot : YSlot) (f : BitVec 24) (s : State) : Out :=
  yB s n slot (f == 0) (fun c => c.privileged (fun c => { c with after := .wait }))

def execYTrap (n : Fin 4) (slot : YSlot) (f : BitVec 24) (s : State) : Out :=
  yB s n slot (yBits f 8 16 == 0) (fun c => c.raise 5 none (yBits f 0 8))

def execYSync (n : Fin 4) (slot : YSlot) (f : BitVec 24) (s : State) : Out :=
  yB s n slot (f == 0) (fun c => { c with after := .sync })

/-! ### Events of a core -/

/-- Y_WAIT_WAKE (R374): an enabled interrupt is pending and ends the WAIT. -/
def execYWaitWake (n : Fin 4) (s : State) : Out :=
  if s.yBit Fld.DSP_STATUS_WAITING n && !s.yBit Fld.DSP_STATUS_HALTED n then .next (yWake s n) else .next s

/-- Y_INTERRUPT_ENTRY (R370, R371). -/
def execYInterruptEntry (n : Fin 4) (s : State) : Out :=
  let c := s.core n
  match c.irqSource with
  | none => .next s
  | some src =>
    if s.yIssues n && c.srBit srIE && !c.srBit srEXL && c.boundary then .next (takeIrq s n src) else .next s

/-- Y_TIMER_ZERO (R369, R379): the timer has reached 0: it stops and latches source 4. -/
def execYTimerZero (n : Fin 4) (s : State) : Out :=
  let c := s.core n
  if c.timerOn && s.yTimer c == 0 then .next ((s.updCore n (fun c => { c with timerOn := false })).latchIrq n 4)
  else .next s

/-- The ticks a core's watchdog has counted, when it counts: a kernel holds it, 0 disables it, and a halted core has none. -/
def State.yWdog (s : State) (n : Nat) : Option Nat :=
  let c := s.core n
  if s.fld (Fld.DSP_Y_WDOG_TIMEOUT n) = 0 || c.kernel.isSome || s.yBit Fld.DSP_STATUS_HALTED n then none
  else some (s.time.now - c.wdogFrom)

/-- Y_WATCHDOG_HALF (R375). -/
def execYWatchdogHalf (n : Fin 4) (s : State) : Out :=
  match s.yWdog n with
  | none => .next s
  | some t =>
    if s.fld (Fld.DSP_Y_WDOG_TIMEOUT n) * ticksMs ≤ 2 * t && !(s.core n).wdogHalf then
      .next ((s.updCore n (fun c => { c with wdogHalf := true })).latchIrq n 7)
    else .next s

/-- Y_WATCHDOG_EXPIRE (R375): the core halts, FAULTED sets and DSP_WDOG is reported. -/
def execYWatchdogExpire (n : Fin 4) (s : State) : Out :=
  match s.yWdog n with
  | none => .next s
  | some t => if s.fld (Fld.DSP_Y_WDOG_TIMEOUT n) * ticksMs ≤ t then .next (faultCore s n 0x41) else .next s

/-- Y_WDOG_KICK (R375). -/
def execYWdogKick (n : Fin 4) (s : State) : Out := .next (yKick s n)

/-- A push into the inbound mailbox through DSP_Yn_MBI (R379). -/
def hostPush (s : State) (n : Nat) (w : Word) : State :=
  if (s.core n).mbIn.length < 8 then s.updCore n (fun c => { c with mbIn := c.mbIn ++ [w] })
  else s.flag (Fld.DSP_Y_MBSTAT_MBI_OVF n) true

/-- A pop of the outbound mailbox through DSP_Yn_MBO (R379). -/
def hostPop (s : State) (n : Nat) : State × Word :=
  match (s.core n).mbOut with
  | [] => (s.flag (Fld.DSP_Y_MBSTAT_MBO_UNF n) true, 0)
  | w :: rest => (s.updCore n (fun c => { c with mbOut := rest }), w)

/-- Y_MB_HOST_PUSH (R379). -/
def execYMbHostPush (n : Fin 4) (w : Word) (s : State) : Out := .next (hostPush s n w)

/-- Y_MB_HOST_POP (R379): the word read goes to the path. -/
def execYMbHostPop (path : Path) (n : Fin 4) (s : State) : Out :=
  let r := hostPop s n
  .next (r.1.emit (.read (pathCode path) (Reg.DSP_Y_MBO n) (some r.2.toNat)))

/-- Y_MB_CORE_POP (R379): a core reads MB_IN into a data register, as LDW does (R357). -/
def execYMbCorePop (n : Fin 4) (d : Fin 16) (s : State) : Out :=
  let r := yPopIn s n
  .next (r.1.updCore n (fun c => c.push 3 (.d d) r.2.toNat))

/-- Y_MB_CORE_PUSH (R379). -/
def execYMbCorePush (n : Fin 4) (w : Word) (s : State) : Out := .next (yPushOut s n w)

/-- Y_DOORBELL (R379). -/
def execYDoorbell (n : Fin 4) (target : Fin 16) (s : State) : Out := .next (yDoorbell s n target)

/-! ### User kernels (R380 to R386) -/

/-- The kernel that the image loaded for a core under an ID. -/
def State.kernelAt (s : State) (n id : Nat) : Option YLoaded := s.dsp.kernels.find? (fun k => k.core == n && k.id == id)

/-- Start a kernel (R381, R383): D0 to D(k − 1), user mode, and its entry. -/
def startKernel (s : State) (n : Nat) (k : YLoaded) (args : List Word) : State :=
  let s := s.updCore n (fun c =>
    let c := c.drain
    let c := { c with d := (args.zip (List.range args.length)).foldl (fun m (p : Word × Nat) => m.put p.2 p.1) c.d
                      pc := k.entry, branch := none, wroteSr := false, ownLoops := 0
                      kernel := some { id := k.id, since := s.time.now } }
    (c.putSr srUM true).putSr srEXL false)
  s.bump (Fld.DSP_Y_CNT_KCALLS n)

/-- Y_KERNEL_CALL (R383 to R385): between solve or calibration steps the firmware pops the inbound mailbox and deals with a
call: malformed, to be completed by further words, to no kernel, or started. -/
def execYKernelCall (n : Fin 4) (s : State) : Out :=
  let c := s.core n
  if !s.yIssues n || c.opened || c.kernel.isSome || !s.on Fld.DSP_STATUS_FW_OK then .next s
  else
    let all := c.callWords ++ c.mbIn
    match all with
    | [] => .next s
    | cmd :: args =>
      let k := fieldOf 24 4 cmd
      if fieldOf 28 4 cmd != 8 || 6 < k then
        .next (endKernel (s.updCore n (fun c => { c with callWords := [], mbIn := [] })) n 4 [])
      else if args.length < k then .next (s.updCore n (fun c => { c with callWords := all, mbIn := [] }))
      else
        let s := s.updCore n (fun c => { c with callWords := [], mbIn := args.drop k })
        match s.kernelAt n (fieldOf 0 8 cmd) with
        | none => .next (endKernel s n 1 [])
        | some l =>
          if s.fld (Fld.DSP_Y_KCFG_BUDGET n) = 0 then .next (endKernel s n 1 []) else .next (startKernel s n l (args.take k))

/-- Y_KERNEL_BUDGET (R385): a kernel beyond its budget is aborted and answers status 2. Where the firmware's own code goes on
is not stated. -/
def execYKernelBudget (n : Fin 4) (s : State) : Out :=
  let c := s.core n
  match c.kernel with
  | none => .next s
  | some k =>
    if s.fld (Fld.DSP_Y_KCFG_BUDGET n) * 8000 < s.time.now - k.since then
      let pc := (s.free 14).toNat * 8
      let s := s.tookFree.updCore n (fun c => { c.drain.putSr srUM false with pc, branch := none, opened := false, skip := none, stores := [], exc := none, badFetch := false, global := false, after := .go })
      .next ((endKernel s n 2 []).bump (Fld.DSP_Y_CNT_KABORT n))
    else .next s

/-! ### Reset and run (R387) -/

/-- A write of DSP_CTRL.RST: each named core resets and halts, for its firmware to be loaded again. -/
def resetCores (s : State) (mask : Nat) : State := (bitsOf 4 mask).foldl resetCore s

/-- DSP_CORE_RESET (R387). -/
def execDspCoreReset (n : Fin 4) (s : State) : Out := .next (resetCore s n)

/-- DSP_CTRL.RUN of a core changes (R387): at 0 the core halts at the next boundary; at 1 it resumes from its PC, unless it is
faulted, and its watchdog counts anew. -/
def runCore (s : State) (n : Nat) (run : Bool) : State :=
  let s := s.setYBit Fld.DSP_CTRL_RUN n run
  if run then
    if s.yBit Fld.DSP_STATUS_HALTED n && !s.yBit Fld.DSP_STATUS_FAULTED n then
      yKick (s.setYBit Fld.DSP_STATUS_HALTED n false) n
    else s
  else if s.yBit Fld.DSP_STATUS_HALTED n then s
  else yHaltAsked s n

/-- DSP_RUN_WRITE (R387). -/
def execDspRunWrite (run : Fin 16) (s : State) : Out :=
  .next ((List.range 4).foldl (fun s n => if s.yBit Fld.DSP_CTRL_RUN n == run.val.testBit n then s
    else runCore s n (run.val.testBit n)) s)

/-- A write of DSP_CTRL: RUN, then RST. -/
def writeDspCtrl (s : State) (v : Word) : State :=
  let s := (List.range 4).foldl (fun s n => if s.yBit Fld.DSP_CTRL_RUN n == v.getLsbD n then s else runCore s n (v.getLsbD n)) s
  resetCores s (fieldOf 8 4 v)

end Sys2Proof.Machine
end

