-- ==== Sys2Proof/Machine/Ce.lean ====
section
/-! DEFINITION. Machine/Ce.lean: the clause engines CE0 to CE3 (R388 to R401) and their watchdog (R501). LD and ST are in
Machine/Paths.lean, which holds the access paths, and the WAIT with P at 1 is in Machine/Pws.lean. -/

namespace Sys2Proof.Machine

/-- Change a clause engine. -/
def State.updCe (s : State) (e : Nat) (f : CeState → CeState) : State := { s with cls := s.cls.upd e f }

/-- A clause engine. -/
def State.ce (s : State) (e : Nat) : CeState := s.cls.at e

/-- A register of an engine: G0 reads 0 (R390). -/
def CeState.reg (c : CeState) (i : Nat) : Word := if i = 0 then 0 else c.g.at i

/-- Set a register; G0 ignores writes. -/
def CeState.setReg (c : CeState) (i : Nat) (v : Word) : CeState := if i = 0 then c else { c with g := c.g.put i v }

/-- Set a register with Z and N from the result (R393). -/
def CeState.result (c : CeState) (i : Nat) (v : Word) : CeState := { c.setReg i v with z := v == 0, n := v.msb }

/-- The state of an engine (R401), and its slot. -/
def State.ceRun (s : State) (e : Nat) : Nat := s.fld (Fld.CLS_CE_STAT_STATE e)
def State.ceSlot (s : State) (e : Nat) : Nat := s.fld (Fld.CLS_CE_STAT_SLOT e)

/-- Does the engine run a user clause (R399)? -/
def State.ceUser (s : State) (e : Nat) : Bool := 12 ≤ s.ceSlot e && s.on (Fld.CLS_CE_SLOT_USER e (s.ceSlot e))

/-- Is an instruction number in the code of user clauses (R399)? -/
def ceUserCode (pc : Nat) : Bool := 3072 ≤ pc && pc < 4096

/-- Abandon the running clause (R398). -/
def ceAbandon (s : State) (e cause : Nat) : State :=
  let s := s.setFld (Fld.CLS_CE_FAULT_CAUSE e) cause
  let s := s.setFld (Fld.CLS_CE_FAULT_SLOT e) (s.ceSlot e)
  let s := s.setFld (Fld.CLS_CE_FAULT_PC e) (s.ce e).pc
  let s := s.bump (Fld.CLS_CE_CNT1_ABORTS e)
  let s := (s.setFld (Fld.CLS_CE_STAT_STATE e) 1).updCe e (fun c => { c with waite := none, runFrom := s.time.now })
  reportFault s 0x42 e

/-- Issue one instruction (R390, R392): only a running engine issues; a non-zero unnamed field abandons the clause, and so does
a user clause that has left its code. -/
def ceIssue (s : State) (e : Nat) (legal : Bool) (body : State → State) : Out :=
  if s.ceRun e != 2 then .next s
  else if s.ceUser e && !ceUserCode (s.ce e).pc then .next (ceAbandon s e 4)
  else if !legal then .next (ceAbandon s e 1)
  else .next (body s)

/-- The engine goes on with the next instruction after a change of its registers. -/
def ceGo (s : State) (e : Nat) (f : CeState → CeState) : State :=
  s.updCe e (fun c => let d := f c; { d with pc := (c.pc + 1) % 4096 })

/-- The engine jumps (R393, R399): a user clause to its own code only. -/
def ceJump (s : State) (e target : Nat) (f : CeState → CeState) : State :=
  if s.ceUser e && !ceUserCode target then ceAbandon s e 4
  else s.updCe e (fun c => { f c with pc := target })

/-- Some bits of an instruction's [27:0]. -/
def ceBits (f : BitVec 28) (lo w : Nat) : Nat := f.toNat / 2 ^ lo % 2 ^ w

/-- The fields d, s and t (R392). -/
def ceD (f : BitVec 28) : Nat := ceBits f 25 3
def ceS (f : BitVec 28) : Nat := ceBits f 22 3
def ceT (f : BitVec 28) : Nat := ceBits f 19 3

/-- imm22 as a word. -/
def ceImm22 (f : BitVec 28) : Word := BitVec.ofInt 32 (signed 22 (ceBits f 0 22))

def execCeLdi (e : Fin 4) (f : BitVec 28) (s : State) : Out :=
  ceIssue s e true (fun s => ceGo s e (fun c => c.setReg (ceD f) (BitVec.ofInt 32 (signed 25 (ceBits f 0 25)))))

/-- LUI: d[15:0] stays. -/
def execCeLui (e : Fin 4) (f : BitVec 28) (s : State) : Out :=
  ceIssue s e (ceBits f 16 9 == 0) (fun s => ceGo s e (fun c =>
    c.setReg (ceD f) (setField 16 16 (c.reg (ceD f)) (ceBits f 0 16))))

/-- An instruction of three registers: [18:0] must be zero. -/
def ceThree (s : State) (e : Nat) (f : BitVec 28) (op : Word → Word → Word) : Out :=
  ceIssue s e (ceBits f 0 19 == 0) (fun s => ceGo s e (fun c => c.result (ceD f) (op (c.reg (ceS f)) (c.reg (ceT f)))))

def execCeAdd (e : Fin 4) (f : BitVec 28) (s : State) : Out := ceThree s e f (fun a b => a + b)
def execCeSub (e : Fin 4) (f : BitVec 28) (s : State) : Out := ceThree s e f (fun a b => a - b)
def execCeAnd (e : Fin 4) (f : BitVec 28) (s : State) : Out := ceThree s e f (fun a b => a &&& b)
def execCeOr (e : Fin 4) (f : BitVec 28) (s : State) : Out := ceThree s e f (fun a b => a ||| b)

def execCeAddi (e : Fin 4) (f : BitVec 28) (s : State) : Out :=
  ceIssue s e true (fun s => ceGo s e (fun c => c.result (ceD f) (c.reg (ceS f) + ceImm22 f)))

/-- SHF: left by imm6, or right logically by −imm6. -/
def execCeShf (e : Fin 4) (f : BitVec 28) (s : State) : Out :=
  ceIssue s e (ceBits f 6 16 == 0) (fun s => ceGo s e (fun c =>
    let k := signed 6 (ceBits f 0 6)
    let v := c.reg (ceS f)
    c.result (ceD f) (if 0 ≤ k then v <<< k.toNat else v >>> (-k).toNat)))

/-- Does a condition of BR hold (R393)? -/
def CeState.holds (c : CeState) (cond : Nat) : Bool :=
  match cond with
  | 0 => true
  | 1 => c.z
  | 2 => !c.z
  | 3 => c.n
  | 4 => !c.n
  | 5 => c.tmo
  | _ => c.be

/-- BR: condition 7 and a non-zero [24:12] abandon the clause. -/
def execCeBr (e : Fin 4) (f : BitVec 28) (s : State) : Out :=
  ceIssue s e (ceBits f 12 13 == 0 && ceBits f 25 3 != 7) (fun s =>
    if (s.ce e).holds (ceBits f 25 3) then ceJump s e (ceBits f 0 12) (fun c => c) else ceGo s e (fun c => c))

/-- CALL: G7 := PC + 1. -/
def execCeCall (e : Fin 4) (f : BitVec 28) (s : State) : Out :=
  ceIssue s e (ceBits f 12 16 == 0) (fun s =>
    ceJump s e (ceBits f 0 12) (fun c => c.setReg 7 (BitVec.ofNat 32 ((c.pc + 1) % 4096))))

/-- JMP: PC := s[11:0]. -/
def execCeJmp (e : Fin 4) (f : BitVec 28) (s : State) : Out :=
  ceIssue s e (ceBits f 25 3 == 0 && ceBits f 0 22 == 0) (fun s =>
    ceJump s e (((s.ce e).reg (ceS f)).toNat % 4096) (fun c => c))

/-! ### WAITE (R395) -/

/-- The ticks of a WAITE's timeout: units 0 engine cycles, 1 µs, 2 ms and 3 s; CE0 runs at 38.4 MHz, the others at 500 MHz. -/
def ceTicks (e unit count : Nat) : Nat :=
  match unit with
  | 0 => if e = 0 then (count * 125 + 5) / 6 else (count * 8 + 4) / 5
  | 1 => count * ticksUs
  | 2 => count * ticksMs
  | _ => count * (1000 * ticksMs)

/-- The lowest pending line of a mask. -/
def State.ceMatch (s : State) (e : Nat) (mask : Word) : Option Nat :=
  (List.range 32).find? (fun i => mask.getLsbD i && (s.fld (Fld.CLS_CE_EVPEND_PEND e)).testBit i)

/-- Consume an event line. -/
def ceConsume (s : State) (e line : Nat) : State :=
  let f := Fld.CLS_CE_EVPEND_PEND e
  s.setFld f (putBit (s.fld f) line false)

/-- A WAITE ends on an event: d receives the line, the bit clears and TO clears. -/
def ceWaiteEvent (s : State) (e d line : Nat) : State :=
  (ceConsume s e line).updCe e (fun c =>
    { c.setReg d (BitVec.ofNat 32 line) with tmo := false, waite := none, runFrom := s.time.now })

def execCeWaite (e : Fin 4) (f : BitVec 28) (s : State) : Out :=
  ceIssue s e true (fun s =>
    let mask := (s.ce e).reg (ceS f)
    let count := ceBits f 0 20
    if mask = 0 && count = 0 then ceAbandon s e 6
    else
      let s := ceGo s e (fun c => c)
      match s.ceMatch e mask with
      | some line => ceWaiteEvent s e (ceD f) line
      | none =>
        (s.setFld (Fld.CLS_CE_STAT_STATE e) 3).updCe e (fun c => { c with
          waite := some { mask, dest := ceD f
                          deadline := if count = 0 then none else some (s.time.now + ceTicks e (ceBits f 20 2) count) } }))

/-- CE_WAITE_EVENT (R395). -/
def execCeWaiteEvent (e : Fin 4) (s : State) : Out :=
  match (s.ce e).waite with
  | none => .next s
  | some w =>
    match s.ceMatch e w.mask with
    | none => .next s
    | some line =>
      if s.ceRun e = 3 then .next ((ceWaiteEvent s e w.dest line).setFld (Fld.CLS_CE_STAT_STATE e) 2) else .next s

/-- CE_WAITE_TIMEOUT (R388, R395): the timeout fires unless a matching event is pending: d receives 0xFFFF_FFFF and TO
sets. -/
def execCeWaiteTimeout (e : Fin 4) (s : State) : Out :=
  match (s.ce e).waite with
  | none => .next s
  | some w =>
    match w.deadline, s.ceMatch e w.mask with
    | some t, none =>
      if s.ceRun e = 3 && t ≤ s.time.now then
        let s := (s.setFld (Fld.CLS_CE_STAT_STATE e) 2).bump (Fld.CLS_CE_CNT0_TIMEOUTS e)
        .next (s.updCe e (fun c => { c.setReg w.dest 0xFFFFFFFF with tmo := true, waite := none, runFrom := s.time.now }))
      else .next s
    | _, _ => .next s

/-! ### WAIT and the dispatcher (R396, R397) -/

/-- The clause ends: the engine is idle. -/
def ceEnd (s : State) (e : Nat) : State :=
  (s.setFld (Fld.CLS_CE_STAT_STATE e) 1).updCe e (fun c => { c with pc := (c.pc + 1) % 4096, runFrom := s.time.now })

/-- CE_WAIT with P at 0: [27:1] must be zero. -/
def execCeWait (e : Fin 4) (f : BitVec 27) (s : State) : Out := ceIssue s e (f == 0) (fun s => ceEnd s e)

/-- The slot whose clause the dispatcher starts. -/
def State.ceNextSlot (s : State) (e : Nat) : Option Nat :=
  (List.range 16).find? (fun i => s.on (Fld.CLS_CE_SLOT_EN e i)
    && (s.fld (Fld.CLS_CE_EVPEND_PEND e)).testBit (s.fld (Fld.CLS_CE_SLOT_EVENT e i)))

/-- CE_DISPATCH (R396). -/
def execCeDispatch (e : Fin 4) (s : State) : Out :=
  if !s.on (Fld.CLS_CE_CTRL_RUN e) || 2 ≤ s.ceRun e then .next s
  else match s.ceNextSlot e with
    | none => .next s
    | some i =>
      let s := ceConsume s e (s.fld (Fld.CLS_CE_SLOT_EVENT e i))
      let s := (s.setFld (Fld.CLS_CE_STAT_STATE e) 2).setFld (Fld.CLS_CE_STAT_SLOT e) i
      let s := s.bump (Fld.CLS_CE_CNT0_CLAUSES e)
      .next (s.updCe e (fun c => { c with pc := s.fld (Fld.CLS_CE_SLOT_ENTRY e i), runFrom := s.time.now }))

/-! ### SIG and events (R394) -/

/-- A SIG of some kind: [23:16] must be zero. -/
def ceSig (s : State) (e : Nat) (zero : Byte) (body : State → State) : Out :=
  ceIssue s e (zero == 0) (fun s => ceGo (body s) e (fun c => c))

def execCeSigEvent (e target : Fin 4) (zero : Byte) (code : Half) (s : State) : Out :=
  ceSig s e zero (fun s => s.ceEvent target (code.toNat % 8))

def execCeSigIrq (e target : Fin 4) (zero : Byte) (_code : Half) (s : State) : Out :=
  ceSig s e zero (fun s => s.latchIrq target 6)

/-- SIG kind 2: KIND in code[15:8] and UNIT in code[7:0]; a user clause may not use it (R399). -/
def execCeSigFault (e _target : Fin 4) (zero : Byte) (code : Half) (s : State) : Out :=
  if s.ceRun e = 2 && s.ceUser e then .next (ceAbandon s e 4)
  else ceSig s e zero (fun s => reportFault s (code.toNat / 256) (code.toNat % 256))

/-- SIG kind 3: the code goes to CLS_CEn_STAT.MSG, whose field holds its bits [11:0]. -/
def execCeSigMsg (e _target : Fin 4) (zero : Byte) (code : Half) (s : State) : Out :=
  ceSig s e zero (fun s => s.setFld (Fld.CLS_CE_STAT_MSG e) (code.toNat % 4096))

/-- The lines that an engine's sources can set (R394). -/
def ceListed (e line : Nat) : Bool :=
  line < 8 || 16 ≤ line || (match e with
    | 0 => line ≤ 13
    | 1 => line ≤ 11
    | 2 => line ≤ 12
    | _ => line ≤ 11)

/-- CE_EVENT_ARRIVE (R394): lines that are not listed never set. -/
def execCeEventArrive (e : Fin 4) (line : Fin 32) (s : State) : Out :=
  if ceListed e line then .next (s.ceEvent e line) else .next s

/-- Set the event lines 0 to 7 that a mask names (R394). -/
def ceEvset (s : State) (e mask : Nat) : State := (bitsOf 8 mask).foldl (fun s i => s.ceEvent e i) s

/-- CE_EVSET (R394). -/
def execCeEvset (e : Fin 4) (mask : Byte) (s : State) : Out := .next (ceEvset s e mask.toNat)

/-! ### Limits and control (R398, R401, R501) -/

/-- CE_RUN_LIMIT (R398): a user clause that has run beyond USER_MAX. -/
def execCeRunLimit (e : Fin 4) (s : State) : Out :=
  if s.ceRun e = 2 && s.ceUser e
      && (s.ce e).runFrom + max 1 (s.fld (Fld.CLS_CE_CTRL_USER_MAX e)) * ticksUs < s.time.now then
    .next (ceAbandon s e 5)
  else .next s

/-- CE_HANG (R501): a vendor clause of CE1 to CE3 has run for 10 ms, or CE0 outside its boot ROM for 1 s, without WAITE or
WAIT. -/
def execCeHang (e : Fin 4) (s : State) : Out :=
  let limit := if e.val = 0 then 1000 * ticksMs else 10 * ticksMs
  if s.ceRun e = 2 && !s.ceUser e && (e.val != 0 || 10 ≤ s.fld Fld.BOOT_STATUS_STAGE)
      && (s.ce e).runFrom + limit ≤ s.time.now then .next (reportFault s 0x43 e)
  else .next s

/-- A write of CLS_CEn_CTRL (R401): writes to RUN and RST of CE0 are ignored. -/
def writeCeCtrl (s : State) (e : Nat) (v : Word) : State :=
  let s := s.setFld (Fld.CLS_CE_CTRL_USER_MAX e) (fieldOf 0 16 v)
  if e = 0 then s
  else
    let was := s.on (Fld.CLS_CE_CTRL_RUN e)
    let run := v.getLsbD 31
    let st := s.ceRun e
    let s := s.flag (Fld.CLS_CE_CTRL_RUN e) run
    let s :=
      if was && !run then (s.updCe e (fun c => { c with paused := max 1 st })).setFld (Fld.CLS_CE_STAT_STATE e) 0
      else if !was && run then
        (s.setFld (Fld.CLS_CE_STAT_STATE e) (s.ce e).paused).updCe e (fun c => { c with runFrom := s.time.now })
      else s
    if v.getLsbD 30 then (resetEngine s e).updCe e (fun c => { c with paused := 1 }) else s

/-- CE_ENGINE_RESET (R401): RST of CE0 is ignored. -/
def execCeEngineReset (e : Fin 4) (s : State) : Out :=
  if e.val = 0 then .next s else .next ((resetEngine s e).updCe e (fun c => { c with paused := 1 }))

end Sys2Proof.Machine
end

