-- ==== Sys2Proof/Machine/Lde.lean ====
section
/-! DEFINITION. Machine/Lde.lean: DPD banks and their commits, the observation scheduler, captures and their evaluation,
adaptation, the PAPR target, and power control (R203, R204, R211 to R233, R267, R268). What a capture measures, and the
coefficients the firmware solves for, are operands of the commands (assumption log 13). -/

namespace Sys2Proof.Machine

/-! ### Term table and path settings (R203, R204, R212, R213, R233) -/

/-- Is a term's word inside the ranges of R204? -/
def termOk (v : Word) : Bool :=
  let k := fieldOf 24 4 v
  let m := fieldOf 20 4 v
  let l := signed 4 (fieldOf 16 4 v)
  1 ≤ k && k ≤ 9 && m ≤ 11 && -3 ≤ l && l ≤ 3 && 0 ≤ (m : Int) + l && (m : Int) + l ≤ 14

/-- Has a path DPD_EN at 1 in its committed generation? -/
def State.dpdOn (s : State) (p : Nat) : Bool := s.active (Fld.LDE_PATH_BANKSEL_DPD_EN p) == 1

/-- Has any path of facet k? -/
def State.anyDpd (s : State) (k : Nat) : Bool := (List.range 16).any (fun i => s.dpdOn (16 * k + i))

/-- A write to LDE_FACETk_TERMt (R233). -/
def writeTerm (s : State) (k t : Nat) (v : Word) : State :=
  if s.anyDpd k then s
  else if t < s.fld (Fld.LDE_FACET_TCFG_NTERMS k) && !termOk v then s.flag (Fld.LDE_FACET_TCFG_BAD_TERM k) true
  else s.writeRw (Reg.LDE_FACET_TERM k t) v

/-- A write to LDE_FACETk_TCFG (R233): BAD_TERM clears where 1 is written, NTERMS takes a number whose terms are all valid. -/
def writeTcfg (s : State) (k : Nat) (v : Word) : State :=
  let n := fieldOf 0 7 v
  let s := if v.getLsbD 31 then s.flag (Fld.LDE_FACET_TCFG_BAD_TERM k) false else s
  if s.anyDpd k then s
  else if 80 < n || !(List.range n).all (fun t => termOk (s.rd (Reg.LDE_FACET_TERM k t))) then
    s.flag (Fld.LDE_FACET_TCFG_BAD_TERM k) true
  else s.setFld (Fld.LDE_FACET_TCFG_NTERMS k) n

/-- A write to LDE_PATHp_NB (R233). -/
def writeNb (s : State) (p : Nat) (v : Word) : State := if s.dpdOn p then s else s.writeRw (Reg.LDE_PATH_NB p) v

/-- Note a write ignored (R212, R213). -/
def wrIgn (s : State) (p : Nat) : State := s.flag (Fld.LDE_PATH_BANKCTL_WR_IGN p) true

/-- A write to LDE_PATHp_BANKSEL (R212, R213): while the path is adapted, only the cluster's writes enter OP and BANK. -/
def writeBanksel (s : State) (p : Nat) (firmware : Bool) (v : Word) : State :=
  let held := s.rd (Reg.LDE_PATH_BANKSEL p)
  if s.on (Fld.LDE_PATH_CFG_ADAPT_EN p) && !firmware then
    let w := setField 24 3 (setField 28 2 v (fieldOf 28 2 held)) (fieldOf 24 3 held)
    let s := if fieldOf 28 2 v = fieldOf 28 2 held && fieldOf 24 3 v = fieldOf 24 3 held then s else wrIgn s p
    shWrite s (Reg.LDE_PATH_BANKSEL p) (w &&& 0xF7F00000)
  else
    let s := shWrite s (Reg.LDE_PATH_BANKSEL p) (v &&& 0xF7F00000)
    if fieldOf 28 2 v = 1 then s.flag (Fld.LDE_PATH_BANKCTL_STG_BUSY p) true else s

/-- A write to LDE_PATHp_STGi (R212, R213). -/
def writeStg (s : State) (p i : Nat) (firmware : Bool) (v : Word) : State :=
  if s.on (Fld.LDE_PATH_BANKCTL_STG_BUSY p) || (s.on (Fld.LDE_PATH_CFG_ADAPT_EN p) && !firmware) then wrIgn s p
  else s.wr (Reg.LDE_PATH_STG p i) v

/-- The PAPR target within its limits (R199). -/
def State.paprT (s : State) (p : Nat) : Nat := max 60 (min 90 (s.fld (Fld.LDE_PATH_CFR_PAPR_T p)))

/-- A write to LDE_PATHp_CFR (R203): PAPR_EFF takes PAPR_T. -/
def writeCfr (s : State) (p : Nat) (v : Word) : State :=
  let s := s.writeRw (Reg.LDE_PATH_CFR p) v
  (s.setFld (Fld.LDE_PATH_STAT_PAPR_EFF p) (s.paprT p)).updLp p (fun x => { x with goodRun := 0 })

/-- A DL symbol of a path ends with its EVM over the budget, or within 0.8 of it (R202, R203). -/
def paprStep (s : State) (p : Nat) (bad good : Bool) : State :=
  let e := s.fld (Fld.LDE_PATH_STAT_PAPR_EFF p)
  let adapt := s.on (Fld.LDE_PATH_CFR_EVM_ADAPT p)
  if bad then
    let s := (s.bump (Fld.LDE_PATH_CNT1_EVM_OVER p)).updLp p (fun x => { x with goodRun := 0 })
    if adapt && e < 90 then s.setFld (Fld.LDE_PATH_STAT_PAPR_EFF p) (e + 1) else s
  else if good then
    let n := (s.lde.paths.at p).goodRun + 1
    if n < 140 then s.updLp p (fun x => { x with goodRun := n })
    else
      let s := s.updLp p (fun x => { x with goodRun := 0 })
      if adapt && s.paprT p < e then s.setFld (Fld.LDE_PATH_STAT_PAPR_EFF p) (e - 1) else s
  else s.updLp p (fun x => { x with goodRun := 0 })

/-! ### Bank commits (R211, R212) -/



/-- Copy 80 coefficients from one run of registers to another. -/
def copyCoefs (s : State) (src dst : Nat) : State := (List.range 80).foldl (fun s i => s.wr (dst + 4 * i) (s.rd (src + 4 * i))) s

/-- A path has had a commit or a discarded capture in the update cycle; when every adapted path has, the cycle ends (R227). -/
def noteCycle (s : State) (p : Nat) : State :=
  let d := putBit s.lde.cycleDone p true
  if (List.range 64).all (fun q => !s.on (Fld.LDE_PATH_CFG_ADAPT_EN q) || d.testBit q) then
    let ms := (s.time.now - s.lde.cycleFrom) / ticksMs
    (s.setFld Fld.LDE_STATUS_CYCLE_MS (min 65535 ms)).updLde (fun x => { x with cycleDone := 0, cycleFrom := s.time.now })
  else s.updLde (fun x => { x with cycleDone := d })

/-- What OP does to the bank it names (R212, R225). -/
def bankOp (s : State) (p op b : Nat) : State :=
  let act := Reg.LDE_PATH_BANK_ACT_C p b 0
  let prev := Reg.LDE_PATH_BANK_PREV_C p b 0
  if op = 1 then
    let s := copyCoefs (copyCoefs s act prev) (Reg.LDE_PATH_STG p 0) act
    let s := s.setFld (Fld.LDE_PATH_STAT_BANK_VALID p) (putBit (s.fld (Fld.LDE_PATH_STAT_BANK_VALID p)) b true)
    let s := s.bump Fld.LDE_CNT0_SOLVES
    match (s.lde.paths.at p).solved with
    | some (cl, aclr) =>
      if cl = b then
        let s := s.setFld (Fld.LDE_PATH_ACLR_REF p) aclr
        noteCycle (s.updLp p (fun x => { x with solved := none, refs := x.refs.put b aclr, verify := putBit x.verify b true })) p
      else s
    | none => s
  else if op = 2 then copyCoefs s prev act
  else s

/-- A commit of DPDBANK at a boundary in cycle b (R211, R212): the commit clears OP. -/
def commitBank (s : State) (p b : Nat) : State :=
  let g : ShGroup := .dpdbank p
  let sel := Reg.LDE_PATH_BANKSEL p
  let s1 := commitGroup s g b
  let op := s1.active (Fld.LDE_PATH_BANKSEL_OP p)
  let bank := s1.active (Fld.LDE_PATH_BANKSEL_BANK p)
  let s1 := s1.updAcc (fun x => { x with active := mapSet regReset x.active sel (setField 28 2 (mapGet regReset x.active sel) 0) })
  let late := s1.acc.shLog.any (fun w => w.addr == sel)
  let s1 := if late then s1 else s1.setFld (Fld.LDE_PATH_BANKSEL_OP p) 0
  bankOp (s1.flag (Fld.LDE_PATH_BANKCTL_STG_BUSY p) (s1.fld (Fld.LDE_PATH_BANKSEL_OP p) == 1)) p op bank

/-- DPDBANK_COMMIT (R211, R567). -/
def execDpdbankCommit (p : Fin 64) (s : State) : Out :=
  if s.realises (p / 16) && s.armedBefore (.dpdbank p) s.cyc then .next (commitBank s p s.cyc) else .next s

/-- The firmware writes an OP for a bank and arms it (R223, R225). -/
def firmwareOp (s : State) (p op b : Nat) : State :=
  let v := setField 24 3 (setField 28 2 (s.rd (Reg.LDE_PATH_BANKSEL p)) op) b
  writeArm (writeBanksel s p true v) (.dpdbank p) true

/-! ### The observation scheduler (R215 to R221) -/

/-- The path on switch input i of ORX j (R215). -/
def orxPath (j i : Nat) : Nat := 16 * (j / 2) + 8 * (j % 2) + i

/-- Is a TX path elided? -/
def State.txElided (s : State) (p : Nat) : Bool := s.bit64 Reg.BFE_ELIDE_TX_LO p

/-- Is a path subject to supervision (R267)? -/
def State.supervised (s : State) (p : Nat) : Bool :=
  s.on (Fld.CVA_TX_CFG_SUP_EN p) && s.on (Fld.CVA_TX_CFG_EN p) && s.on (Fld.CVA_FACET_STAT_READY (p / 16)) && !s.txElided p

/-- The classes of a path that may be captured (R216, R219). -/
def State.classesOf (s : State) (p : Nat) : List Nat :=
  (bitsOf 8 (s.fld (Fld.LDE_PATH_CFG_CLASS_MASK p))).filter (fun b => !(s.fld (Fld.LDE_PATH_STAT_FROZEN p)).testBit b)

/-- The class of a path from class n on, wrapping round. -/
def State.classFrom (s : State) (p n : Nat) : Option Nat :=
  match (s.classesOf p).find? (fun b => n ≤ b) with
  | some b => some b
  | none => (s.classesOf p).head?

/-- Is a path eligible for adaptation (R216, R219)? -/
def State.eligible (s : State) (p : Nat) : Bool :=
  s.on Fld.LDE_CTRL_ADAPT_RUN && !s.on Fld.LDE_CTRL_FREEZE_ALL && s.on (Fld.LDE_PATH_CFG_ADAPT_EN p) && s.dpdOn p
    && !s.on (Fld.LDE_PATH_BANKCTL_STG_BUSY p) && !s.txElided p && !(s.classesOf p).isEmpty

/-- The connected switch inputs of ORX j. -/
def State.orxInputs (s : State) (j : Nat) : List Nat := bitsOf 8 (s.fld (Fld.LDE_ORX_CFG_INPUTS j))

/-- What ORX j is to capture next: a probation capture, then any other supervision request, then the adapted path whose turn it
is (R216, R220, R494). With AUTO at 0 the switch is not Graulo's, and only supervision of the path it shows is served. -/
def State.nextTarget (s : State) (j : Nat) : Option OrxTarget :=
  let auto := s.on (Fld.LDE_ORX_CFG_AUTO j)
  let ins := if auto then s.orxInputs j else (s.orxInputs j).filter (· == s.fld (Fld.LDE_ORX_STAT_SEL j))
  let wants (prob : Bool) : Option Nat := ins.find? (fun i =>
    let u := s.cva.sup.at (orxPath j i)
    u.want && (u.probation || !prob) && s.supervised (orxPath j i))
  match (wants true).or (wants false) with
  | some i => some { path := orxPath j i, cls := 0, sup := true }
  | none =>
    if !auto then none
    else
      let t := (s.lde.orx.at j).turn
      let order := ins.filter (t ≤ ·) ++ ins.filter (· < t)
      match order.find? (fun i => s.eligible (orxPath j i)) with
      | some i => (s.classFrom (orxPath j i) (s.lde.paths.at (orxPath j i)).nextCls).map (fun cl =>
          { path := orxPath j i, cls := cl, sup := false })
      | none => none

/-- Set the switch of ORX j to an input: ORXSEL[3j + 2:3j] takes its number (R215). -/
def setSwitch (s : State) (j i : Nat) : State :=
  if s.fld (Fld.LDE_ORX_STAT_SEL j) = i then s
  else
    let l := s.fld Fld.FEN_ORX_STAT_LEVEL
    let t := s.setFld Fld.FEN_ORX_STAT_LEVEL (l - l / 2 ^ (3 * j) % 8 * 2 ^ (3 * j) + i % 8 * 2 ^ (3 * j))
    (t.setFld (Fld.LDE_ORX_STAT_SEL j) i).updOrx j (fun o => { o with selSince := s.time.now })

/-- An ORXSEL pattern step of trigger class 0x3 (R215, R449): it moves the switch only with AUTO at 0, and never to an input
that is not connected. -/
def orxStep (s : State) (j i : Nat) : State :=
  if s.on (Fld.LDE_ORX_CFG_AUTO j) || !(s.orxInputs j).contains i || (s.lde.orx.at j).cap.isSome then s else setSwitch s j i

/-- Aim a free ORX at its next target: the wait for a class starts afresh with a new target. -/
def aim (s : State) (j : Nat) : State :=
  let o := s.lde.orx.at j
  if o.cap.isSome || o.asked || !o.pages.isEmpty then s
  else
    let t := s.nextTarget j
    let s := if t = o.target then s else s.updOrx j (fun o => { o with target := t, waitFrom := s.time.now })
    match t with
    | some t => setSwitch s j (t.path % 8)
    | none => s

/-- The neighbour slots of a path that a capture records (R206, R218). -/
def State.capSlots (s : State) (p : Nat) : List Nat :=
  let n := s.fld (Fld.LDE_FACET_TCFG_NTERMS (p / 16))
  [0, 1, 2, 3].filter (fun q =>
    let b := s.fld (Fld.LDE_PATH_NB_SLOTS p) / 2 ^ (5 * q) % 32
    16 ≤ b && b % 16 != p % 16 && (List.range n).any (fun t =>
      s.on (Fld.LDE_FACET_TERM_TYPE (p / 16) t) && s.fld (Fld.LDE_FACET_TERM_NB (p / 16) t) == q))

/-- 16,384 samples of f_S/4 in units of 2^-32 ns (R217). -/
def State.windowFine (s : State) : Int := if s.fsFine = 0 then 0 else (65536 * 1000000000 * 2 ^ 64 / s.fsFine : Nat)

/-- May a capture of a target open in the symbol now at the antenna (R217)? -/
def State.windowOk (s : State) (j : Nat) (t : OrxTarget) : Bool :=
  let k := t.path / 16
  let c := s.refTimeline k
  let now := s.phcFine
  s.lde.syms.any (fun e => e.1 == k && decide (s.symFine c e.2.1 ≤ now) && decide (now < s.symFine c e.2.1 + s.symFineLen c e.2.1)
      && (t.sup || s.pathClass t.path e.2.2 == t.cls)
      && decide (s.fld Fld.LDE_ADAPT_CFG2_CAP_OFS * 2 ^ 32 + s.windowFine < s.symFineLen c e.2.1))
    && (s.lde.orx.at j).selSince * 125 + s.fld Fld.LDE_ADAPT_CFG2_SW_SETTLE * 1000 ≤ s.time.now * 125
    && s.dacRow t.path != .quiet && !s.pws.symSleep.testBit t.path && !s.facetAsleep (t.path / 16) && (s.cva.trans.at t.path).isNone

/-- Start a capture with its pages (R218). -/
def startCapture (s : State) (j : Nat) (kind : CapKind) (path cls : Nat) (pages : List Nat) : State :=
  let s := s.flag (Fld.LDE_ORX_STAT_BUSY j) true
  let s := if kind = .host then s else s.bump Fld.GRL_CNT3_OBS_REQ
  s.updOrx j (fun o => { o with cap := some { kind, path, cls, pages, start := s.time.now }, pages := [] })

/-- Could Graulo grant pages to captures at once: enough are free, and no request of this priority or higher waits? -/
def State.pagesNow (s : State) (n : Nat) : Bool := n ≤ s.freePages.length && !s.mem.capReqs.any (fun r => r.prio ≤ 1)

/-- ORX_CAPTURE_START (R216 to R220): at an eligible symbol the capture starts if its pages can be had, else it asks for them
and counts one wait. -/
def execOrxCaptureStart (j : Fin 8) (s : State) : Out :=
  let s := aim s j
  let o := s.lde.orx.at j
  match o.target with
  | none => .next s
  | some t =>
    if o.cap.isSome || 2 ≤ o.held.length || !s.on (Fld.CVA_ORX_CFG_EN j) || s.on (Fld.CVA_ORX_CFG_CALSRC j) || o.asked
        || !s.windowOk j t then .next s
    else
      let kind := if t.sup then CapKind.sup else .adapt
      if !o.pages.isEmpty then .next (startCapture s j kind t.path t.cls o.pages)
      else
        let n := 2 + (s.capSlots t.path).length
        if s.pagesNow n then
          let got := s.freePages.take n
          .next (startCapture (got.foldl (givePage 12) (s.bump Fld.GRL_CNT2_PAGE_GRANTS)) j kind t.path t.cls got)
        else
          let s := s.bump Fld.LDE_CNT2_PAGE_WAIT
          .next ((askPages s 12 n j).updOrx j (fun o => { o with asked := true }))

/-- CLASS_WAIT_EXPIRE (R216): the class is skipped, and the path's next class is awaited. -/
def execClassWaitExpire (j : Fin 8) (s : State) : Out :=
  let o := s.lde.orx.at j
  match o.target with
  | none => .next s
  | some t =>
    if t.sup || o.cap.isSome || s.time.now < o.waitFrom + max 1 (s.fld Fld.LDE_ADAPT_CFG_CLASS_WAIT) * ticksMs then .next s
    else
      let s := s.bump Fld.LDE_CNT2_CLASS_SKIP
      let s := s.updLp t.path (fun x => { x with nextCls := (t.cls + 1) % 8 })
      .next ((aim s j).updOrx j (fun o => { o with waitFrom := s.time.now }))

/-! ### Evaluation (R219, R222 to R226, R267, R268) -/

/-- The address of capture page p in the debug window (R402). -/
def pageAddr (p : Nat) : Nat := 0x40C00000 + 0x10000 * p

/-- Write samples into pages, one list for each page. -/
def fillPages (s : State) (pages : List Nat) (streams : List (List Word)) : State :=
  (pages.zip streams).foldl (fun s e => (e.2.take 16384).zip (List.range 16384) |>.foldl
    (fun s w => putBytes s false (pageAddr e.1 + 4 * w.2) (leBytes w.1.toNat 4)) s) s

/-- Count a discarded capture (R219). -/
def discardCapture (s : State) (p : Nat) : State :=
  noteCycle ((s.bump Fld.LDE_CNT1_FROZEN_CAP).bump (Fld.LDE_PATH_CNT3_FROZEN_CAP p)) p

/-- G_REF of a path in 0.01 dB (R268). -/
def State.gRef (s : State) (p : Nat) : Int :=
  if s.on (Fld.LDE_PATH_CFG_PC_EN p) then s.sfld (Fld.LDE_PATH_PC_G_TGT p) else signed 16 (s.boot.gRef.at p)

/-- Is the mean of x below FREEZE_LVL (R219)? -/
def State.xLow (s : State) (m : CapMeas) : Bool := m.lx < s.sfld Fld.LDE_ADAPT_CFG2_FREEZE_LVL * 100

/-- The checks of R268 that a capture fails, in the order of the table: RUNAWAY, EMISSION, DEAD, GAIN. -/
def State.supFails (s : State) (p : Nat) (m : CapMeas) : List Nat :=
  let low := s.xLow m
  (if low && s.sfld Fld.CVA_SUP_CFG_NOISE * 100 ≤ m.lz then [4] else [])
    ++ (if !low && m.aclr < s.fld Fld.CVA_SUP_CFG_ACLR_MIN * 10 then [3] else [])
    ++ (if !low && m.g + 2000 ≤ s.gRef p then [2] else [])
    ++ (if !low && s.fld Fld.CVA_SUP_CFG_GTOL * 10 < (m.g - s.gRef p).natAbs then [1] else [])

/-- The core of the path's facet evaluates a capture for supervision (R267, R268). -/
def supervise (s : State) (p : Nat) (m : CapMeas) : State :=
  let fails := s.supFails p m
  let u := s.cva.sup.at p
  let dead := if fails.contains 2 then u.dead + 1 else 0
  let gain := if fails.contains 1 then u.gain + 1 else 0
  let s := s.updCva (fun x => { x with sup := x.sup.put p { lastEval := s.time.now, dead, gain } })
  let s := (s.setFld (Fld.CVA_TX_SUP_LAST p) (fails.head?.getD 0)).bump (Fld.CVA_TX_SUP_CAPS p)
  let s := if fails.contains 4 then reportFault s 0x10 p else s
  let s := if fails.contains 3 then reportFault s 0x11 p else s
  let s := if 2 ≤ dead then reportFault s 0x12 p else s
  if 2 ≤ gain then reportFault s 0x13 p else s

/-- The firmware reverts a bank (R225, R226). -/
def revertBank (s : State) (p b : Nat) : State :=
  let s := firmwareOp s p 2 b
  let s := (s.bump Fld.LDE_CNT1_REVERTS).bump (Fld.LDE_PATH_CNT2_REVERTS p)
  let n := (s.lde.paths.at p).reverts.at b + 1
  let s := s.updLp p (fun x => { x with reverts := x.reverts.put b n })
  if n < 3 then s
  else reportKind (s.setFld (Fld.LDE_PATH_STAT_FROZEN p) (putBit (s.fld (Fld.LDE_PATH_STAT_FROZEN p)) b true)) 0x15 p

/-- The firmware takes an adaptation capture of a class (R222, R224, R225): a verification capture that is worse than the
reference by more than 3.0 dB reverts the bank, any other is solved. -/
def takeCapture (s : State) (p cls : Nat) (m : CapMeas) : State :=
  let s := s.setFld (Fld.LDE_PATH_ACLR_LAST p) (min 65535 m.aclr)
  let x := s.lde.paths.at p
  let s := s.updLp p (fun x => { x with verify := putBit x.verify cls false })
  if x.verify.testBit cls && m.aclr + 30 < x.refs.at cls then revertBank s p cls
  else
    let s := if x.verify.testBit cls then s.updLp p (fun x => { x with reverts := x.reverts.put cls 0 }) else s
    s.updLp p (fun x => { x with toSolve := x.toSolve ++ [(cls, m.aclr)] })

/-- Power control takes the ORX's value of G (R229). -/
def measureG (s : State) (p : Nat) (g : Int) : State :=
  if s.on (Fld.LDE_PATH_CFG_PC_EN p) && s.fld (Fld.LDE_PATH_CFG_PC_SRC p) != 1 then
    (s.setFld (Fld.LDE_PATH_PCSTAT_G_MEAS p) (unsigned 16 g)).updLp p (fun x => { x with gOrx := some g })
  else s

/-- The capture of ORX j is over: the ORX is free again. -/
def freeOrx (s : State) (j : Nat) : State :=
  (s.flag (Fld.LDE_ORX_STAT_BUSY j) false).updOrx j (fun o => { o with cap := none })

/-- The turn of a path passes, and its next class comes next time (R216). -/
def passTurn (s : State) (j : Nat) (c : OrxCap) : State :=
  let s := s.updOrx j (fun o => { o with turn := (c.path % 8 + 1) % 8 })
  s.updLp c.path (fun x => { x with nextCls := (c.cls + 1) % 8 })

/-- A capture's pages pass to the core of its facet (R422). -/
def handPages (s : State) (j : Nat) (c : OrxCap) : State :=
  let s := c.pages.foldl (givePage (4 + c.path / 16)) s
  (s.updOrx j (fun o => { o with held := o.held ++ [c.pages] })).latchIrq (c.path / 16) 3

/-- ORX_CAPTURE_END (R218, R219, R225, R267). -/
def execOrxCaptureEnd (j : Fin 8) (m : CapMeas) (streams : List (List Word)) (s : State) : Out :=
  match (s.lde.orx.at j).cap with
  | none => .next s
  | some c =>
    if c.kind == .host then .next s
    else
      let s := freeOrx (fillPages s c.pages streams) j
      let s := (s.bump Fld.LDE_CNT0_CAPTURES).bump (Fld.LDE_PATH_CNT2_CAPTURES c.path)
      let hit := match s.cva.ovrOrx.at j with
        | some e => c.start ≤ e.last || s.on (Fld.CVA_ORX_STAT_OVR j)
        | none => s.on (Fld.CVA_ORX_STAT_OVR j)
      if s.dacRow c.path == .quiet || s.txElided c.path || hit then
        .next (aim (releasePages (discardCapture s c.path) c.pages) j)
      else if s.xLow m then
        if c.kind == .sup then .next (aim (supervise (handPages s j c) c.path m) j)
        else
          let s := passTurn (releasePages (discardCapture s c.path) c.pages) j c
          .next (aim (if s.supervised c.path then supervise s c.path m else s) j)
      else
        let s := measureG (handPages s j c) c.path m.g
        let s := if c.kind == .adapt then takeCapture (passTurn s j c) c.path c.cls m else s
        .next (aim (if s.supervised c.path then supervise s c.path m else s) j)

/-- A trigger of class 0xA (R221): a host capture on ORX j, or a miss. -/
def hostCapture (s : State) (j : Nat) : State :=
  let o := s.lde.orx.at j
  if !s.pagesNow 2 || !s.on (Fld.CVA_ORX_CFG_EN j) || s.on (Fld.CVA_ORX_CFG_CALSRC j) || o.cap.isSome
      || s.on (Fld.LDE_ORX_TCAP_DONE j) then s.bump (Fld.LDE_ORX_TCAP_MISS j)
  else
    let got := s.freePages.take 2
    startCapture (got.foldl (givePage 12) (s.bump Fld.GRL_CNT2_PAGE_GRANTS)) j .host (orxPath j (s.fld (Fld.LDE_ORX_STAT_SEL j))) 0 got

/-- HOST_CAPTURE_DONE (R221). -/
def execHostCaptureDone (j : Fin 8) (x z : List Word) (s : State) : Out :=
  match (s.lde.orx.at j).cap with
  | none => .next s
  | some c =>
    if c.kind != .host then .next s
    else
      let s := freeOrx (fillPages s c.pages [x, z]) j
      let s := (s.bump Fld.LDE_CNT0_CAPTURES).bump (Fld.LDE_PATH_CNT2_CAPTURES c.path)
      let s := (s.flag (Fld.LDE_ORX_TCAP_DONE j) true).setFld (Fld.LDE_ORX_TCAP_PATH j) c.path
      let s := s.setFld (Fld.LDE_ORX_TCAP_PAGE_X j) (c.pages.getD 0 0)
      let s := s.setFld (Fld.LDE_ORX_TCAP_PAGE_Z j) (c.pages.getD 1 0)
      let s := c.pages.foldl (givePage 12) s
      .next (aim (s.updMem (fun m => { m with joint := m.joint ++ c.pages })) j)

/-- ADAPT_SOLVE_DONE (R222, R223): a term whose coefficient is not given keeps the bank's. -/
def execAdaptSolveDone (p : Fin 64) (dly : Fin 256) (coefs : List Word) (s : State) : Out :=
  match (s.lde.paths.at p).toSolve with
  | [] => .next s
  | (cls, aclr) :: rest =>
    let s := s.updLp p (fun x => { x with toSolve := rest })
    let d := s.fld (Fld.LDE_PATH_LOOP_LOOP_DLY p)
    let s := if d + 2 < dly.val || dly.val + 2 < d then s.setFld (Fld.LDE_PATH_LOOP_LOOP_DLY p) dly else s
    if !s.on (Fld.LDE_PATH_CFG_ADAPT_EN p) || s.on (Fld.LDE_PATH_BANKCTL_STG_BUSY p) then .next s
    else
      let n := s.fld (Fld.LDE_FACET_TCFG_NTERMS (p / 16))
      let s := (List.range n).foldl (fun s i =>
        s.wr (Reg.LDE_PATH_STG p i) (coefs.getD i (s.rd (Reg.LDE_PATH_BANK_ACT_C p cls i)))) s
      let s := s.updLp p (fun x => { x with solved := some (cls, aclr) })
      .next (firmwareOp s p 1 cls)

/-- A write to LDE_PATHp_STAT (R226): 1 to a FROZEN bit clears it and restarts adaptation of that class. -/
def writeFrozen (s : State) (p : Nat) (v : Word) : State :=
  let clear := fieldOf 0 8 v
  let left := maskOf 8 (fun b => (s.fld (Fld.LDE_PATH_STAT_FROZEN p)).testBit b && !clear.testBit b)
  let s := s.setFld (Fld.LDE_PATH_STAT_FROZEN p) left
  let s := s.updLp p (fun x => { x with reverts := (bitsOf 8 clear).foldl (fun m b => m.put b 0) x.reverts })
  if left = 0 then endCondition s 0x15 p else s

/-! ### Power control (R228 to R231) -/

/-- Half a difference: where it is odd, the spec does not say which of its two neighbours is taken. -/
def halfOf (s : State) (d : Int) : Int × State :=
  if d % 2 = 0 then (d / 2, s) else (d / 2 + ((s.free 1).toNat : Int), s.tookFree)

/-- PG_OFS moved toward the target (R230). -/
def stepOfs (s : State) (p : Nat) (g : Int) : State :=
  let (h, s) := halfOf s (s.sfld (Fld.LDE_PATH_PC_G_TGT p) - g)
  let lim : Int := 25 * min 12 (s.fld (Fld.LDE_PATH_PC_PC_RANGE p))
  let o := s.sfld (Fld.LDE_PATH_PCSTAT_PG_OFS p) + max (-10) (min 10 h)
  s.setFld (Fld.LDE_PATH_PCSTAT_PG_OFS p) (unsigned 16 (max (-lim) (min lim o)))

/-- PC_UPDATE (R230, R231). -/
def execPcUpdate (p : Fin 64) (det : Option Int) (s : State) : Out :=
  if !s.on (Fld.LDE_PATH_CFG_PC_EN p) then .next s
  else
    let src := s.fld (Fld.LDE_PATH_CFG_PC_SRC p)
    let x := s.lde.paths.at p
    let s := if src = 1 then (match det with
        | some g => s.setFld (Fld.LDE_PATH_PCSTAT_G_MEAS p) (unsigned 16 g)
        | none => s) else s
    let apart := match src, x.gOrx, det with
      | 2, some a, some b => decide (100 < (a - b).natAbs)
      | _, _, _ => false
    let diff := if apart then x.diffRun + 1 else 0
    let newly := !x.frozen && 3 ≤ diff
    let frozen := x.frozen || newly
    let s := if newly then s.bump (Fld.LDE_PATH_CNT3_PC_FREEZE p) else s
    let meas := if src = 1 then det else x.gOrx
    let s := match meas with
      | some g => if frozen then s else stepOfs s p g
      | none => s
    let lim : Int := 25 * min 12 (s.fld (Fld.LDE_PATH_PC_PC_RANGE p))
    let far := match meas with
      | some g => decide (50 < (s.sfld (Fld.LDE_PATH_PC_G_TGT p) - g).natAbs)
        && ((s.sfld (Fld.LDE_PATH_PCSTAT_PG_OFS p)).natAbs == lim.natAbs)
      | none => false
    let limRun := if far then x.limRun + 1 else 0
    let s := s.updLp p (fun x => { x with gOrx := none, diffRun := diff, frozen, limRun })
    .next (if frozen || 3 ≤ limRun then reportKind s 0x16 p else endCondition s 0x16 p)

/-- A write to LDE_PATHp_CFG (R230, R231): with PC_EN at 0, PG_OFS is 0 and the freeze ends. -/
def writePathCfg (s : State) (p : Nat) (v : Word) : State :=
  let s := s.writeRw (Reg.LDE_PATH_CFG p) v
  if s.on (Fld.LDE_PATH_CFG_PC_EN p) then s
  else
    let s := s.setFld (Fld.LDE_PATH_PCSTAT_PG_OFS p) 0
    let s := s.updLp p (fun x => { x with gOrx := none, diffRun := 0, limRun := 0, frozen := false })
    endCondition s 0x16 p

end Sys2Proof.Machine
end

