-- ==== Sys2Proof/Machine/Cva.lean ====
section
/-! DEFINITION. Machine/Cva.lean: the converters: facets and paths, the quiet pin and the release from quiet, range transitions,
overload, waveform playback, array calibration and RECAL (R234 to R274). -/

namespace Sys2Proof.Machine

/-! ### Facets and paths (R236, R269, R270) -/

/-- Is facet k shut down by a fault (R488)? -/
def State.shutDown (s : State) (k : Nat) : Bool := (s.fld Fld.FLT_QUIET_SHUT).testBit k

/-- Power the converters of an enabled facet: with RCS LOCKED, trims that are held are restored and READY sets, else
foreground calibration starts (R236, R270). -/
def powerFacet (s : State) (k : Nat) : State :=
  if !s.on (Fld.CVA_FACET_CFG_EN k) || s.on (Fld.CVA_FACET_STAT_READY k) || !s.rcsLocked || s.shutDown k
      || s.on (Fld.CVA_FACET_STAT_FGCAL_BUSY k) then s
  else if s.cva.trims.at k then s.flag (Fld.CVA_FACET_STAT_READY k) true
  else s.flag (Fld.CVA_FACET_STAT_FGCAL_BUSY k) true

/-- RCS leaves LOCKED: foreground calibrations are abandoned (R270). -/
def abandonFgcal (s : State) : State := (List.range 4).foldl (fun s k => s.flag (Fld.CVA_FACET_STAT_FGCAL_BUSY k) false) s

/-- Power down the converters of a facet: its trims stay held (R236, R270). -/
def parkFacet (s : State) (k : Nat) : State :=
  (s.flag (Fld.CVA_FACET_STAT_READY k) false).flag (Fld.CVA_FACET_STAT_FGCAL_BUSY k) false

/-- TXMODE and INV_SINC of a write to CVA_FACETk_CFG: ignored while the committed plan has a DL part enabled (R274). -/
def writeTxMode (s : State) (k : Nat) (v : Word) : State :=
  if s.active (Fld.LPE_FACET_PLAN_DL_EN k) != 0 then s
  else (s.flag (Fld.CVA_FACET_CFG_TXMODE k) (v.getLsbD 30)).flag (Fld.CVA_FACET_CFG_INV_SINC k) (v.getLsbD 29)

/-- A write to CVA_FACETk_CFG with EN = 1 (R236). -/
def enableFacet (s : State) (k : Nat) (v : Word) : State :=
  settle s (powerFacet ((writeTxMode s k v).flag (Fld.CVA_FACET_CFG_EN k) true) k)

/-- A write to CVA_FACETk_CFG with EN = 0 (R236). -/
def disableFacet (s : State) (k : Nat) (v : Word) : State :=
  settle s (parkFacet ((writeTxMode s k v).flag (Fld.CVA_FACET_CFG_EN k) false) k)

/-- FACET_ENABLE (R236, R270, R274). -/
def execFacetEnable (k : Fin 4) (v : Word) (s : State) : Out :=
  .next (enableFacet s k v)

/-- FACET_DISABLE (R236, R274). -/
def execFacetDisable (k : Fin 4) (v : Word) (s : State) : Out :=
  .next (disableFacet s k v)

/-- FGCAL_DONE (R269): READY sets, or the failure is reported. -/
def execFgcalDone (k : Fin 4) (ok : Bool) (s : State) : Out :=
  if !s.on (Fld.CVA_FACET_STAT_FGCAL_BUSY k) then .next s
  else
    let t := s.flag (Fld.CVA_FACET_STAT_FGCAL_BUSY k) false
    if ok then .next (settle s ((t.flag (Fld.CVA_FACET_STAT_READY k) true).updCva (fun x => { x with trims := x.trims.put k true })))
    else .next (reportFault (t.flag (Fld.CVA_FACET_STAT_FGCAL_FAIL k) true) 0x18 k)

/-- A path without a sample clock, powered down or in RECAL delivers code 0 and has no overload flags (R249). -/
def State.rxDead (s : State) (p : Nat) : Bool :=
  !s.on (Fld.CVA_RX_CFG_EN p) || !s.on (Fld.CVA_FACET_STAT_READY (p / 16)) || s.cva.recal == some (true, p) || !s.rcsLocked
    || s.pws.rxSleep.testBit p || s.facetAsleep (p / 16)

/-- Clear the overload flags of receive paths that are dead (R249). -/
def clearDead (s : State) : State :=
  (List.range 64).foldl (fun s p => if s.rxDead p then
      ((s.flag (Fld.CVA_RX_STAT_OVR p) false).flag (Fld.CVA_RX_STAT_OVR_HI p) false).updCva (fun x => { x with ovr := x.ovr.put p none })
    else s) s

/-- PATH_ENABLE_WRITE (R236, R249): a write to CVA_TXp_CFG, or to CVA_RXp_CFG with `rx`. -/
def execPathEnableWrite (rx : Bool) (p : Fin 64) (v : Word) (s : State) : Out :=
  .next (if rx then clearDead (s.writeRw (Reg.CVA_RX_CFG p) v) else settle s (s.writeRw (Reg.CVA_TX_CFG p) v))

/-! ### Quiet (R238, R239) -/

/-- TX_QUIET_N_ASSERT (R238). -/
def execTxQuietNAssert (s : State) : Out :=
  .next (settle s ((s.flag Fld.CVA_STATUS_QPIN true).flag Fld.CVA_STATUS_QPIN_EVT true))

/-- TX_QUIET_N_DEASSERT (R239). -/
def execTxQuietNDeassert (s : State) : Out := .next (settle s (s.flag Fld.CVA_STATUS_QPIN false))

/-- QUIET_RELEASE (R239): a boundary at least 100 ns after the last quiet source of the path ended. -/
def execQuietRelease (p : Fin 64) (s : State) : Out :=
  match s.cva.relWait.at p with
  | none => .next s
  | some t =>
    if s.quietHeld p || s.time.now < t + 80 then .next s
    else .next (settle s (s.updCva (fun x => { x with relWait := x.relWait.put p none })))

/-! ### Range transitions (R244 to R247) -/

/-- The I_FS code a register value acts as. -/
def ifsOf (n : Nat) : Nat := min 64 n

/-- Samples of f_S/4 in some microseconds, rounded up (R246). -/
def State.samplesIn (s : State) (us : Nat) : Nat := (s.fsFine * us + 4 * 1000000 * 2 ^ 32 - 1) / (4 * 1000000 * 2 ^ 32)

/-- A commit of TXRANGE in cycle b (R245, R246): on a READY facet a change of IFS starts a transition. -/
def commitRange (s : State) (p b : Nat) (ready : Bool) : State :=
  let was := ifsOf (s.active (Fld.CVA_TX_RANGE_IFS p))
  let t := commitGroup s (.txrange p) b
  if ready && ifsOf (t.active (Fld.CVA_TX_RANGE_IFS p)) != was then
    let t := t.updCva (fun x => { x with trans := x.trans.put p (some { start := s.time.now, oldIfs := was }) })
    settle s (t.flag (Fld.CVA_TX_RCTL_IN_TRANS p) true)
  else t

/-- A write to CVA_TXp_RCTL (R245): while the facet is not READY, ARM = 1 commits in the 64th cycle after it. -/
def writeRctl (s : State) (p : Nat) (v : Word) : State :=
  let s := writeArm s (.txrange p) (v.getLsbD 31)
  if v.getLsbD 31 && !s.on (Fld.CVA_FACET_STAT_READY (p / 16)) && (s.cva.noBndCommit.at p).isNone then
    s.updCva (fun x => { x with noBndCommit := x.noBndCommit.put p (some (s.cyc + 64)) })
  else s

/-- TXRANGE_COMMIT (R245, R567): at a boundary, or in the cycle of a commit that needs none. -/
def execTxrangeCommit (p : Fin 64) (s : State) : Out :=
  match s.cva.noBndCommit.at p with
  | some b =>
    if s.cyc < b then .next s
    else .next (commitRange (s.updCva (fun x => { x with noBndCommit := x.noBndCommit.put p none })) p b false)
  | none =>
    if s.realises (p / 16) && s.on (Fld.CVA_FACET_STAT_READY (p / 16)) && s.armedBefore (.txrange p) s.cyc then
      .next (commitRange s p s.cyc true)
    else .next s

/-- TXRANGE_TRANSITION_END (R246). -/
def execTxrangeTransitionEnd (p : Fin 64) (s : State) : Out :=
  if (s.cva.trans.at p).isNone then .next s
  else
    let t := s.bump (Fld.CVA_TX_CNT1_TXR_DISC p) (2 * s.samplesIn 1 + s.samplesIn 4)
    let t := t.updCva (fun x => { x with trans := x.trans.put p none })
    .next (settle s (t.flag (Fld.CVA_TX_RCTL_IN_TRANS p) false))

/-! ### Overload (R250 to R253, R256) -/

/-- A flagged sample extends the overload event of its path. -/
def extendOvr (e : Option OvrEvent) (now : Nat) (hi : Bool) : Option OvrEvent :=
  match e with
  | some e => some { e with last := now, hi := e.hi || hi }
  | none => some { first := now, last := now, hi }

/-- The level of +6 dBFS (R250): 2 × 2,047. -/
abbrev hiLevel : Nat := 4094

/-- OVR_ASSERT (R250, R256): a sample of the given peak level reaches the flag logic, in codes of an input that does not clip. -/
def execOvrAssert (orx : Bool) (p : Fin 64) (code : Int) (s : State) : Out :=
  if orx then
    let j := p.val % 8
    let thr : Int := s.fld (Fld.CVA_ORX_CFG_OVR_THR j)
    let hit := thr ≤ code || code ≤ -thr - 1
    let hi := (hiLevel : Int) < code || code < -(hiLevel : Int)
    if !s.on (Fld.CVA_ORX_CFG_EN j) || !(hit || hi) then .next s
    else
      let s := if hit && !s.on (Fld.CVA_ORX_STAT_OVR j) then (s.flag (Fld.CVA_ORX_STAT_OVR j) true).bump (Fld.CVA_ORX_STAT_OVR_CNT j) else s
      let s := if hi then s.flag (Fld.CVA_ORX_STAT_OVR_HI j) true else s
      .next (if hit then s.updCva (fun x => { x with ovrOrx := x.ovrOrx.put j (extendOvr (x.ovrOrx.at j) s.time.now hi) }) else s)
  else
    let thr : Int := s.fld (Fld.CVA_RX_CFG_OVR_THR p)
    let hit := thr ≤ code || code ≤ -thr - 1
    let hi := (hiLevel : Int) < code || code < -(hiLevel : Int)
    if s.rxDead p || !(hit || hi) then .next s
    else
      let s := if hit && !s.on (Fld.CVA_RX_STAT_OVR p) then (s.flag (Fld.CVA_RX_STAT_OVR p) true).bump (Fld.CVA_RX_CNT_OVR_CNT p) else s
      let s := if hi && !s.on (Fld.CVA_RX_STAT_OVR_HI p) then
        (s.flag (Fld.CVA_RX_STAT_OVR_HI p) true).bump (Fld.CVA_RX_CNT_OVR_HI_CNT p) else s
      .next (s.updCva (fun x => { x with ovr := x.ovr.put p (extendOvr (x.ovr.at p) s.time.now hi) }))

/-- T_cont of carrier c in units of 2^-32 ns (R183). -/
def State.tCont (s : State) (c : Nat) : Int := (1200 * 2 ^ 32 * 122880000 / max 1 (s.carrierHz c) : Nat)

/-- The PHC time of a tick in the past, in units of 2^-32 ns. -/
def State.fineAt (s : State) (tick : Nat) : Int := s.phcFine - ((s.time.now - tick) * s.increment : Nat)

/-- The symbols of timeline c that meet an interval of PHC time: those of the positions at its two ends and between. -/
def State.symsIn (s : State) (c : Nat) (t0 t1 : Int) : List SymAbs :=
  let ofs : Int := (315964819 * 1000000000 + s.alpha + s.fld Fld.TIM_AIR_BETA_BETA * 10000000 : Nat) * 2 ^ 32
  let at_ (t : Int) : SymAbs :=
    let tc := (t - ofs) * 196608 / (100000 * 2 ^ 32)
    let y := airPos (s.mu c) (s.ecp c) tc
    { frame := tc / 19660800, subframe := y.subframe, slot := y.slot, symbol := y.symbol }
  let step (y : SymAbs) : SymAbs := at_ (s.symFine c y + s.symFineLen c y + 2 ^ 32)
  -- an interval lasts at most one overload event, its tail and T_cont: at most 64 symbols are walked
  (List.range 64).foldl (fun l _ => match l.getLast? with
    | some y => if s.symFine c y + s.symFineLen c y ≤ t1 then l ++ [step y] else l
    | none => l) [at_ t0]

/-- The UL flows that take data from receive path p over carrier part c (R253). -/
def State.flowsFrom (s : State) (p c : Nat) : List Nat :=
  let a := c % 8
  (List.range 256).filter (fun f => s.on (Fld.BFE_FLOW_BIND_EN f) && !s.flowDl f && s.flowCar f % 8 == a
    && if s.on (Fld.BFE_AC_CFG_CAT a) then s.fld (Fld.BFE_FLOW_BIND_PATH f) == p
       else (s.fld (Fld.BFE_AC_CFG_FACETS a)).testBit (p / 16))

/-- Count one contaminated symbol for a flow, once (R253). -/
def countOvrSym (s : State) (f : Nat) (y : SymAbs) : State :=
  if s.cva.ovrSyms.contains (f, y) then s
  else
    let s := s.bump (Fld.FPE_FLOW_CNT5_OVR_SYM f)
    s.updCva (fun x => { x with ovrSyms := (x.ovrSyms.filter (fun e => y.frame ≤ e.2.frame + 1)) ++ [(f, y)] })

/-- Mark the UL symbols that an overload event of a receive path contaminates (R253). -/
def markOvr (s : State) (p : Nat) (e : OvrEvent) : State :=
  let t0 := s.fineAt e.first
  let t1 := s.fineAt e.last + (if e.hi then 100 else 20) * 2 ^ 32
  let k := p / 16
  (bitsOf 8 (s.ulFld (Fld.LPE_FACET_PLAN_UL_EN k))).foldl (fun s a =>
    let c := 8 * k + a
    (s.symsIn c t0 (t1 + s.tCont c)).foldl (fun s y => (s.flowsFrom p c).foldl (fun s f => countOvrSym s f y) s) s) s

/-- OVR_CLEAR (R250, R253, R256): OVR, or with `hi` OVR_HI, clears; with the last flag the event ends. -/
def execOvrClear (orx : Bool) (p : Fin 64) (hi : Bool) (s : State) : Out :=
  if orx then
    let j := p.val % 8
    let s := s.flag (if hi then Fld.CVA_ORX_STAT_OVR_HI j else Fld.CVA_ORX_STAT_OVR j) false
    .next s
  else
    let s := s.flag (if hi then Fld.CVA_RX_STAT_OVR_HI p else Fld.CVA_RX_STAT_OVR p) false
    if s.on (Fld.CVA_RX_STAT_OVR p) || s.on (Fld.CVA_RX_STAT_OVR_HI p) then .next s
    else match s.cva.ovr.at p with
      | none => .next s
      | some e => .next ((markOvr s p e).updCva (fun x => { x with ovr := x.ovr.put p none }))

/-- Does an enabled overload route own a GPIO pin, and what level does it give (R251)? -/
def State.ovrPin (s : State) (pin : Nat) : Option Bool :=
  let ks := (List.range 4).filter (fun k => s.on (Fld.CVA_FACET_OVR_EN k) && s.fld (Fld.CVA_FACET_OVR_PIN k) == pin)
  if ks.isEmpty then none
  else some (ks.any (fun k =>
    (List.range 16).any (fun i => (s.fld (Fld.CVA_FACET_OVR_RX k)).testBit i && s.on (Fld.CVA_RX_STAT_OVR (16 * k + i)))
      || [0, 1].any (fun i => (s.fld (Fld.CVA_FACET_OVR_ORX k)).testBit i && s.on (Fld.CVA_ORX_STAT_OVR (2 * k + i)))))

/-! ### Waveform playback (R259 to R261, R274) -/

/-- Does the symbol of a calibration run hold facet k (R261, R264, R265)? -/
def State.calHolds (s : State) (k : Nat) : Bool :=
  match s.cva.run with
  | some r => r.injecting && if r.rx then s.fld Fld.CVA_CAL_CFG_SRC / 16 == k else r.mask / 2 ^ (16 * k) % 2 ^ 16 != 0
  | none => false

/-- End the playback of facet k. -/
def endPlay (s : State) (k : Nat) : State :=
  if (s.cva.play.at k).isNone then s
  else
    let s := (s.flag (Fld.CVA_WFM_STAT_PLAYING k) false).bump (Fld.CVA_WFM_STAT_PLAYS k)
    s.updCva (fun x => { x with play := x.play.put k none })

/-- WFM_GO (R261, R274): a write to CVA_WFMk_CFG with GO = 1. -/
def execWfmGo (k : Fin 4) (v : Word) (s : State) : Out :=
  if s.on (Fld.CVA_WFM_STAT_PLAYING k) || s.calHolds k then .next (s.flag (Fld.CVA_WFM_STAT_ERR k) true)
  else
    let s := (s.writeRw (Reg.CVA_WFM_CFG k) v).flag (Fld.CVA_WFM_STAT_PLAYING k) true
    let p := if s.fld (Fld.CVA_WFM_CFG_START k) = 1 then Play.waiting else .running s.time.now
    .next (s.updCva (fun x => { x with play := x.play.put k (some p) }))

/-- WFM_SYMBOL_START (R261): the boundary of the start symbol is realised. -/
def execWfmSymbolStart (k : Fin 4) (s : State) : Out :=
  if s.cva.play.at k == some .waiting && s.realises k then
    .next (s.updCva (fun x => { x with play := x.play.put k (some (.running s.time.now)) }))
  else .next s

/-- WFM_STOP (R260). -/
def execWfmStop (k : Fin 4) (s : State) : Out := .next (endPlay s k)

/-- WFM_PLAY_END (R260): LEN samples have played, and some of them saturated or not. -/
def execWfmPlayEnd (k : Fin 4) (sat : Bool) (s : State) : Out :=
  match s.cva.play.at k with
  | some (.running _) =>
    let s := if sat then s.flag (Fld.CVA_WFM_STAT_SAT k) true else s
    .next (if s.on (Fld.CVA_WFM_CFG_LOOP k) then s else endPlay s k)
  | _ => .next s

/-- A write to another register of a playback (R274). -/
def writeWfm (s : State) (k a : Nat) (v : Word) : State := if s.on (Fld.CVA_WFM_STAT_PLAYING k) then s else s.writeRw a v

/-- The debug-window address of waveform sample i of facet k (R259, R402). -/
def wfmAddr (k i : Nat) : Nat := 0x41CA0000 + 0x40000 * k + 4 * i

/-- A write to CVA_WFMk_Di (R259): the calibration sequence is protected while calibration is enabled or runs. -/
def writeWfmD (s : State) (k i : Nat) (v : Word) : State :=
  if 61440 ≤ i && (s.on Fld.CVA_CAL_CFG_EN || s.cva.run.isSome) then s else putBytes s false (wfmAddr k i) (leBytes v.toNat 4)

/-! ### Array calibration (R262 to R266) -/

/-- Is a run due in a symbol of timeline CAR (R262)? -/
def State.calDue (s : State) (y : SymAbs) : Bool :=
  y.symbol == s.fld Fld.CVA_CAL_CFG_SYM && (s.cva.runOnce ||
    (s.on Fld.CVA_CAL_CFG_EN && decide (symSlotNo { y with frame := y.frame % 1024 } (s.mu (s.fld Fld.CVA_CAL_CFG_CAR))
      % (2 ^ min 11 (s.fld Fld.CVA_CAL_CFG_PER) : Int) = 0)))

/-- The direction of the next run (R262). -/
def State.calRx (s : State) : Bool :=
  match s.fld Fld.CVA_CAL_CFG_DIR with
  | 0 => false
  | 1 => true
  | _ => s.cva.nextRx

/-- Is a path of a direction elided? -/
def State.elided (s : State) (rx : Bool) (p : Nat) : Bool := s.bit64 (if rx then Reg.BFE_ELIDE_RX_LO else Reg.BFE_ELIDE_TX_LO) p

/-- The paths a run acts on (R262). -/
def State.calMask (s : State) (rx : Bool) : Nat :=
  maskOf 64 (fun p => s.on (if rx then Fld.CVA_RX_CFG_EN p else Fld.CVA_TX_CFG_EN p)
    && s.on (Fld.CVA_FACET_STAT_READY (p / 16)) && !s.elided rx p)

/-- The pages a run takes (R264, R265). -/
def State.calPages (s : State) (rx : Bool) : Nat := if rx then (popCount 64 (s.calMask true) + 3) / 4 else 1

/-- CAL_PAGE_REQUEST (R263, R421). -/
def execCalPageRequest (s : State) : Out :=
  if !(s.on Fld.CVA_CAL_CFG_EN || s.cva.runOnce) || s.cva.runAsked || s.cva.run.isSome || s.calPages s.calRx = 0 then .next s
  else .next ((askPages s 11 (s.calPages s.calRx) 0).updCva (fun x => { x with runAsked := true, runPages := [] }))

/-- CAL_RUN_ONCE (R262). -/
def execCalRunOnce (s : State) : Out := .next (s.updCva (fun x => { x with runOnce := true }))

/-- The committed window word of a facet. -/
def State.wtxWord (s : State) (k : Nat) : Nat := s.active (Fld.LPE_FACET_WTX_LO_FTW k) + 2 ^ 32 * s.active (Fld.LPE_FACET_WTX_HI_FTW k)

/-- Must a run be skipped at its boundary (R263)? -/
def State.calSkips (s : State) (rx : Bool) (mask : Nat) : Bool :=
  let ks := (List.range 4).filter (fun k => mask / 2 ^ (16 * k) % 2 ^ 16 != 0)
  let src := s.fld Fld.CVA_CAL_CFG_SRC
  !s.on (Fld.TIM_AIR_CFG_EN (s.fld Fld.CVA_CAL_CFG_CAR))
    || ks.any (fun k => ks.any (fun l => s.wtxWord k != s.wtxWord l))
    || s.cva.runPages.isEmpty
    || (rx && (s.dacRow src == .quiet || s.dacRow src == .parked || s.elided false src))

/-- Withdraw the pages of a run that does not take place. -/
def dropRunPages (s : State) : State :=
  let s := releasePages s s.cva.runPages
  let s := s.updMem (fun m => { m with capReqs := m.capReqs.filter (fun r => r.owner != 11) })
  s.updCva (fun x => { x with runAsked := false, runPages := [], runOnce := false })

/-- CAL_RUN (R262 to R265): the boundary of a symbol of timeline CAR, with what a run then captures, one list for each page. -/
def execCalRun (y : SymAbs) (streams : List (List Word)) (s : State) : Out :=
  if !s.calDue y || s.cva.run.isSome || s.cva.recal.isSome then .next s
  else
    let rx := s.calRx
    let mask := s.calMask rx
    if s.calSkips rx mask then .next ((dropRunPages s).bump Fld.CVA_CAL_CNT_SKIPPED)
    else
      let t := fillPages s s.cva.runPages streams
      let t := t.flag Fld.CVA_CAL_STAT_BUSY true
      let t := t.updCva (fun x => { x with run := some { rx, mask, injecting := true, since := s.time.now }, runAsked := false, runOnce := false, nextRx := !rx })
      -- a run that needs a facet stops its playback (R261)
      let t := (List.range 4).foldl (fun t k => if t.calHolds k && (t.cva.play.at k).isSome then
        (endPlay t k).flag (Fld.CVA_WFM_STAT_ERR k) true else t) t
      if rx then .next (settle s (t.updCva (fun x => { x with steer := some (t.fld Fld.CVA_CAL_CFG_SRC) })))
      else
        let hit := t.pws.used.any (fun e => e.2.1 == y && Nat.land e.2.2 mask != 0)
        let t := if hit then t.bump Fld.CVA_CAL_CNT_OVERWR else t
        .next (t.flag (Fld.CVA_ORX_CFG_CALSRC 0) true)

/-- The calibration symbol ends: the DAC is steered back, ORX0 samples its own input again, and the pages pass to core Y0 (R264,
R265, R422). -/
def endInjection (s : State) : State :=
  match s.cva.run with
  | none => s
  | some r =>
    if !r.injecting then s
    else
      let t := s.updCva (fun x => { x with run := some { r with injecting := false }, steer := none, runPages := [] })
      let t := if r.rx then t else t.flag (Fld.CVA_ORX_CFG_CALSRC 0) false
      let t := (s.cva.runPages.foldl (givePage 4) t).latchIrq 0 3
      settle s t

/-- The delay trim of a path in 1/256 sample (R258): INT of -32 acts as -31. -/
def dlyOf (n : Nat) : Int :=
  let i := signed 6 (n / 256 % 64)
  max (-31) i * 256 + (n % 256 : Nat)

/-- A delay trim as INT and FRAC. -/
def dlyWord (d : Int) : Nat := unsigned 6 (d / 256) * 256 + (d % 256).toNat

/-- A component of κ × g_REF ÷ g_p, rounded half up to Q2.14 (R266); the spec states no result for one that does not fit. -/
def kappaPart (s : State) (num den : Int) : Int × State :=
  let v := (2 * num + den) / (2 * den)
  if -32768 ≤ v && v ≤ 32767 then (v, s) else ((s.free 16).toInt, s.tookFree)

/-- κ × g_REF ÷ g_p as a register value: I in bits [31:16], Q in bits [15:0]. -/
def newKappa (s : State) (k : Word) (ref g : Int × Int) : Word × State :=
  let ki := signed 16 (fieldOf 16 16 k)
  let kq := signed 16 (fieldOf 0 16 k)
  -- g_REF × conj g_p, times κ, over |g_p|²
  let ri := ref.1 * g.1 + ref.2 * g.2
  let rq := ref.2 * g.1 - ref.1 * g.2
  let den := g.1 * g.1 + g.2 * g.2
  let (i, s) := kappaPart s (ki * ri - kq * rq) den
  let (q, s) := kappaPart s (ki * rq + kq * ri) den
  (BitVec.ofNat 32 (unsigned 16 i * 65536 + unsigned 16 q), s)

/-- The trim in force that a calibration result is added to. -/
def State.calDly (s : State) (rx : Bool) (p : Nat) : Int :=
  if rx then dlyOf (s.rd (Reg.CVA_RX_DLY p)).toNat else dlyOf (s.active (Fld.CVA_TX_DLY_INT p) * 256 + s.active (Fld.CVA_TX_DLY_FRAC p))

/-- Is a path's result rejected (R266)? -/
def State.calRejects (s : State) (rx : Bool) (ref r : PathCal) : Bool :=
  let d := s.calDly rx r.path + (ref.d - r.d)
  r.peak < 200 || 4 * (r.gi * r.gi + r.gq * r.gq) ≤ ref.gi * ref.gi + ref.gq * ref.gq || 31 * 256 < d.natAbs

/-- Apply a path's result (R266). -/
def applyCal (s : State) (rx : Bool) (ref r : PathCal) : State :=
  let d := dlyWord (s.calDly rx r.path + (ref.d - r.d))
  let p := r.path.val
  let s := if rx then s.wr (Reg.CVA_RX_DLY p) (BitVec.ofNat 32 d)
    else writeRctl (shWrite s (Reg.CVA_TX_DLY p) (BitVec.ofNat 32 d)) p 0x80000000
  let reg := if rx then Reg.BFE_PATH_CAL_RX p else Reg.BFE_PATH_CAL_TX p
  let (k, s) := newKappa s (s.rd reg) (ref.gi, ref.gq) (r.gi, r.gq)
  s.wr reg k

/-- A rejected path (R266). -/
def rejectPath (s : State) (rx : Bool) (p : Nat) : State :=
  reportFault (s.bump Fld.CVA_CAL_CNT_PATH_FAIL) 0x14 (p + if rx then 64 else 0)

/-- CAL_RESULT (R266): core Y0 has the results of the run's paths, and CE1 applies them. -/
def execCalResult (res : List PathCal) (s : State) : Out :=
  match s.cva.run with
  | none => .next s
  | some r =>
    let s := endInjection s
    let rs := res.filter (fun x => r.mask.testBit x.path)
    let ended := ((s.flag Fld.CVA_CAL_STAT_BUSY false).bump Fld.CVA_CAL_STAT_RUNS).updCva (fun x => { x with run := none })
    match rs.find? (fun x => x.path.val == s.fld Fld.CVA_CAL_CFG_REF) with
    | none => .next (ended.flag Fld.CVA_CAL_STAT_FAIL true)
    | some ref =>
      let bad := rs.filter (s.calRejects r.rx ref)
      let s := if bad.contains ref then ended.flag Fld.CVA_CAL_STAT_FAIL true
        else (rs.filter (fun x => !bad.contains x)).foldl (fun s x => applyCal s r.rx ref x) ended
      .next (bad.foldl (fun s x => rejectPath s r.rx x.path) s)

/-- A write to CVA_CAL_CFG (R274). -/
def writeCalCfg (s : State) (v : Word) : State := if s.on Fld.CVA_CAL_STAT_BUSY then s else s.writeRw Reg.CVA_CAL_CFG v

/-! ### RECAL (R272) -/

/-- A RECAL of one path: refused for a path in service, and while a run or another RECAL is in progress. -/
def recal (s : State) (rx : Bool) (p : Nat) : State :=
  let en := s.on (if rx then Fld.CVA_RX_CFG_EN p else Fld.CVA_TX_CFG_EN p)
  if (!s.elided rx p && en) || s.cva.run.isSome || s.cva.recal.isSome then s.flag Fld.CVA_CAL_STAT_REFUSED true
  else
    let t := (s.flag Fld.CVA_CAL_STAT_BUSY true).updCva (fun x => { x with recal := some (rx, p) })
    clearDead (settle s t)

/-- RECAL_TX and RECAL_RX (R272). -/
def execRecalTx (p : Fin 64) (s : State) : Out := .next (recal s false p)
def execRecalRx (p : Fin 64) (s : State) : Out := .next (recal s true p)

/-- RECAL_DONE (R272): a TX path resumes under R239. -/
def execRecalDone (s : State) : Out :=
  match s.cva.recal with
  | none => .next s
  | some (rx, p) =>
    let t := (s.flag Fld.CVA_CAL_STAT_BUSY false).updCva (fun x => { x with recal := none })
    .next (settle s (if rx || s.quietHeld p then t
      else t.updCva (fun x => { x with relWait := x.relWait.put p (some s.time.now) })))

/-! ### Supervision (R267) -/

/-- SUP_CAPTURE_REQUEST (R267): a supervised path without an evaluated capture for SUP_PER. -/
def execSupCaptureRequest (p : Fin 64) (s : State) : Out :=
  let u := s.cva.sup.at p
  if s.supervised p && !u.want && u.lastEval + max 1 (s.fld Fld.CVA_CTRL_SUP_PER) * ticksMs ≤ s.time.now then
    .next (s.updCva (fun x => { x with sup := x.sup.put p { u with want := true } }))
  else .next s

end Sys2Proof.Machine
end

