-- ==== Sys2Proof/Machine/Rcs.lean ====
section
/-! DEFINITION. Machine/Rcs.lean: the sample clock: its source, the tune cache and its commands, lock, anchoring, the standby
synthesiser and its switches, and epoch alignment across parts (R275 to R298, R574). -/

namespace Sys2Proof.Machine

def State.updRcs (s : State) (f : RcsState → RcsState) : State := { s with rcs := f s.rcs }

def State.rcsState (s : State) : Nat := s.fld Fld.RCS_STATUS_STATE

/-- The REF_FREQ in force: 3 acts as 0 (R275). -/
def refCode (n : Nat) : Nat := if n = 3 then 0 else n

/-! ### Epoch mode (R293) -/

/-- Do the entry in use and the source admit aligned dividers (R283, R293)? -/
def State.alignable (s : State) : Bool :=
  let e := s.fld Fld.RCS_STATUS_ENTRY
  !s.on Fld.RCS_CTRL_SRC && s.fld (Fld.RCS_TC_FREQ_NFRAC e) == 0 && s.fld (Fld.RCS_TC_CFG_NINT e) % 4 == 0

/-- The mode that acts (R293): 0, 1 SOURCE or 2 FOLLOW. -/
def State.syncMode (s : State) : Nat :=
  let m := s.fld Fld.RCS_SYNC_CFG_MODE
  if (m = 1 || m = 2) && s.alignable then m else 0

/-- Show whether MODE cannot act (R293). -/
def showSync (s : State) : State :=
  let m := s.fld Fld.RCS_SYNC_CFG_MODE
  s.flag Fld.RCS_SYNC_STAT_SYNC_BAD ((m == 1 || m == 2) && !s.alignable)

/-- f_S/4 samples in a REFCLK cycle (R293). -/
def State.kR (s : State) : Nat := s.fld (Fld.RCS_TC_CFG_NINT (s.fld Fld.RCS_STATUS_ENTRY)) / 4

/-! ### The standby synthesiser -/

/-- The synthesiser that is not active. -/
def State.standbySyn (s : State) : Nat := 1 - s.fld Fld.RCS_STATUS_ACTIVE

/-- VALID of an entry for a synthesiser, and FAILED. -/
def validFld (syn e : Nat) : Fld := if syn = 0 then Fld.RCS_TC_CFG_VALID_A e else Fld.RCS_TC_CFG_VALID_B e
def failedFld (syn : Nat) : Fld := if syn = 0 then Fld.RCS_STATUS_FAILED_A else Fld.RCS_STATUS_FAILED_B

/-- Stop the standby's part: STBY_OK reads 0. -/
def stopStandby (s : State) : State := (s.flag Fld.RCS_STATUS_STBY_OK false).updRcs (fun r => { r with standby := .idle })

/-- A command ends: BUSY clears and CE1 receives its line 11 (R279, R394). -/
def endCmd (s : State) : State :=
  if s.rcs.busy.isSome then ((s.flag Fld.RCS_CMD_STAT_BUSY false).updRcs (fun r => { r with busy := none })).ceEvent 1 11 else s

/-- End the command when it is the given kind. -/
def endIf (s : State) (c : RcsCmd) : State := if s.rcs.busy = some c then endCmd s else s

/-- Start the standby's part (R279, R286): it runs only with STBY_EN at 1, SRC at 0 and RCS LOCKED. A record with VALID at 0
is calibrated. -/
def startStandby (s : State) (cal own again : Bool) : State :=
  let s := stopStandby s
  if !s.on Fld.RCS_CTRL_STBY_EN || s.on Fld.RCS_CTRL_SRC || !s.rcsLocked then endIf s .calStby
  else
    let full := cal || !s.on (validFld s.standbySyn (s.fld Fld.RCS_STATUS_ENTRY))
    s.updRcs (fun r => { r with standby := if full then .cal own again else .track })

/-- The part performs CAL_STBY by itself with AUTO_RECAL at 1 (R287, R291). -/
def ownRecal (s : State) : State :=
  if s.on Fld.RCS_CTRL_AUTO_RECAL then startStandby s true true false else endIf (stopStandby s) .calStby

/-! ### Lock (R281 to R284) -/

/-- RCS leaves LOCKED for a state (R282, R283): the departure counts, the facets are no longer anchored, calibrations are
abandoned, the standby stops and a switch is dropped. From any other state only STATE changes. -/
def leaveLocked (s : State) (st : Nat) : State :=
  if !s.rcsLocked then s.setFld Fld.RCS_STATUS_STATE st
  else
    let t := s.setFld Fld.RCS_STATUS_STATE st
    let t := setAlarm ((t.bump Fld.RCS_CNT1_UNLOCKS).flag Fld.RCS_STATUS_UNLOCK_EVT true) 4
    let t := (t.flag Fld.RCS_STATUS_ANCHORED false).flag Fld.RCS_SYNC_STAT_FOLLOWING false
    let t := (List.range 4).foldl (fun t k => t.updFacet k (fun f => { f with anchored := false, realigning := false })) t
    let t := t.updCva (fun x => { x with realignQuiet := [] })
    let t := t.flag Fld.TIM_STATUS_REALIGNING false
    let t := endIf (endIf (stopStandby (abandonFgcal t)) .switch) .calStby
    let t := t.updRcs (fun r => { r with pend := none, waitPulse := false, missRun := 0 })
    clearDead (settle s (refreshHub t))

/-- RCS enters LOCKED (R236, R281, R283): facets that wait for it calibrate or restore. -/
def enterLocked (s : State) : State :=
  let t := s.setFld Fld.RCS_STATUS_STATE 3
  let t := t.updRcs (fun r => { r with lockedAt := s.time.now, autoDue := false, waitPulse := t.syncMode == 2, missRun := 0 })
  settle s ((List.range 4).foldl powerFacet t)

/-- Facet k anchors (R283): its lag reads 0, its timelines are no longer muted, and ANCHORED sets with the last enabled
facet. -/
def anchorFacet (s : State) (k : Nat) : State :=
  let t := s.updFacet k (fun f => { f with anchored := true, anchorFine := s.phcFine, realigning := false, alone := false })
  let t := t.setFld (lagFld k) 0
  let t := (List.range 8).foldl (fun t i => t.updLine (8 * k + i) (fun l => { l with muteDue := false, muted := false })) t
  let t := if (List.range 4).all (fun j => !t.on (Fld.CVA_FACET_CFG_EN j) || (t.facetT j).anchored)
    then t.flag Fld.RCS_STATUS_ANCHORED true else t
  settle s t

/-- FACET_ANCHOR (R283, R296): a 0.5 ms boundary at least 2 µs after LOCKED; in FOLLOW mode the pulse or its timeout comes
first. -/
def execFacetAnchor (k : Fin 4) (s : State) : Out :=
  if s.rcsLocked && !(s.facetT k).anchored && s.rcs.lockedAt + 1600 ≤ s.time.now && !s.rcs.waitPulse then .next (anchorFacet s k)
  else .next s

/-- RCS_LOSS_OF_LOCK (R282): with a spare that may take over, R289 or R290 applies instead. The part's own TUNE is due
(R291). -/
def execRcsLossOfLock (s : State) : Out :=
  if !s.rcsLocked || (s.on Fld.RCS_STATUS_STBY_OK && s.on Fld.RCS_CTRL_AUTO_SW && !s.on Fld.RCS_CTRL_SRC) then .next s
  else .next ((leaveLocked s 4).updRcs (fun r => { r with autoDue := !s.on Fld.RCS_CTRL_SRC }))

/-! ### Commands (R279, R280, R574) -/

/-- The f_S of an entry as check 3 of R280 judges it: within R276 and made for REF_FREQ. -/
def State.entryOk (s : State) (e : Nat) : Bool :=
  refCode (s.fld (Fld.RCS_TC_CFG_REF e)) == refCode (s.fld Fld.RCS_CTRL_REF_FREQ)
    && 6000000000 * 2 ^ 32 ≤ s.entryFs e && s.entryFs e ≤ 12800000000 * 2 ^ 32

/-- Has any facet a carrier part enabled in its committed plan? -/
def State.anyPart (s : State) : Bool :=
  (List.range 4).any (fun k => s.active (Fld.LPE_FACET_PLAN_DL_EN k) != 0 || s.active (Fld.LPE_FACET_PLAN_UL_EN k) != 0)

/-- The first check of R280 that a command fails, 0 for none. -/
def State.rcsCause (s : State) (op e : Nat) : Nat :=
  if s.rcs.busy.isSome then 1
  else if s.on Fld.RCS_CTRL_SRC && (op = 1 || op = 2 || op = 3 || op = 5) then 2
  else if (op = 1 || op = 2) && !s.entryOk e then 3
  else if (op = 1 || op = 2) && s.rcsState != 0 && s.entryFs e != s.fsFine && s.anyPart then 4
  else if (op = 3 && !s.on Fld.RCS_STATUS_STBY_OK) || (op = 5 && !s.on Fld.RCS_CTRL_STBY_EN) then 5
  else if op = 0 || 6 ≤ op then 6
  else 0

/-- Refuse a command (R280). -/
def refuseCmd (s : State) (cause : Nat) : State := (s.flag Fld.RCS_CMD_STAT_REFUSED true).setFld Fld.RCS_CMD_STAT_CAUSE cause

/-- Accept a command: BUSY sets. -/
def beginCmd (s : State) (c : RcsCmd) : State := (s.flag Fld.RCS_CMD_STAT_BUSY true).updRcs (fun r => { r with busy := some c })

/-- Accept a TUNE or CAL (R279): the entry comes into use, and the active synthesiser calibrates or settles. -/
def tuneTo (s : State) (cal : Bool) (e : Nat) : State :=
  let full := cal || !s.on (validFld (s.fld Fld.RCS_STATUS_ACTIVE) e)
  let s := stopStandby (leaveLocked s (if full then 1 else 2))
  let s := s.updRcs (fun r => { r with pend := none, autoDue := false })
  showSync (beginCmd (s.setFld Fld.RCS_STATUS_ENTRY e) (.tune cal e))

/-- A TUNE, by RCS_CMD or a trigger of class 0x6, under the checks of R280. -/
def rcsTune (s : State) (e : Nat) : State := if s.rcsCause 1 e = 0 then tuneTo s false e else refuseCmd s (s.rcsCause 1 e)

/-- RCS_TUNE and RCS_CAL (R279). -/
def execRcsTune (e : Fin 64) (s : State) : Out := .next (rcsTune s e)
def execRcsCal (e : Fin 64) (s : State) : Out :=
  .next (if s.rcsCause 2 e = 0 then tuneTo s true e else refuseCmd s (s.rcsCause 2 e))

/-- RCS_SWITCH (R289): it takes effect at the switch instant, and joins a switch that is pending. -/
def execRcsSwitch (s : State) : Out :=
  if s.rcsCause 3 0 = 0 then
    let s := beginCmd s .switch
    .next (if s.rcs.pend.isSome then s else s.updRcs (fun r => { r with pend := some { since := s.time.now, failed := false } }))
  else .next (refuseCmd s (s.rcsCause 3 0))

/-- RCS_INVALIDATE (R279): VALID_A and VALID_B of the entry clear. -/
def execRcsInvalidate (e : Fin 64) (s : State) : Out :=
  if s.rcsCause 4 e = 0 then .next (((s.flag (Fld.RCS_TC_CFG_VALID_A e) false).flag (Fld.RCS_TC_CFG_VALID_B e) false).ceEvent 1 11)
  else .next (refuseCmd s (s.rcsCause 4 e))

/-- RCS_CAL_STBY (R279): the standby is calibrated into the entry in use. -/
def execRcsCalStby (s : State) : Out :=
  if s.rcsCause 5 0 = 0 then .next (startStandby (beginCmd s .calStby) true false false) else .next (refuseCmd s (s.rcsCause 5 0))

/-- RCS_CMD_BAD_OP (R280). -/
def execRcsCmdBadOp (op : Fin 16) (s : State) : Out :=
  if op.val = 0 || 6 ≤ op.val then .next (refuseCmd s (s.rcsCause op 0)) else .next s

/-- A write of RCS_CMD (R279). -/
def rcsCmd (s : State) (op e : Nat) : State :=
  let o : Out := match op with
    | 1 => execRcsTune (Fin.ofNat 64 e) s
    | 2 => execRcsCal (Fin.ofNat 64 e) s
    | 3 => execRcsSwitch s
    | 4 => execRcsInvalidate (Fin.ofNat 64 e) s
    | 5 => execRcsCalStby s
    | n => execRcsCmdBadOp (Fin.ofNat 16 n) s
  match o with
  | .next t => t
  | _ => s

/-- Write a calibration record and set its VALID bit (R279); a successful calibration clears FAILED. -/
def writeRecord (s : State) (syn : Nat) (r0 r1 r2 : Word) : State :=
  let e := s.fld Fld.RCS_STATUS_ENTRY
  let base := if syn = 0 then Reg.RCS_TC_CALA e 0 else Reg.RCS_TC_CALB e 0
  let s := ((s.wr base r0).wr (base + 4) r1).wr (base + 8) r2
  (s.flag (validFld syn e) true).flag (failedFld syn) false

/-- A synthesiser fails its calibration (R279, R291). -/
def synFailed (s : State) (syn : Nat) : State := reportFault (s.flag (failedFld syn) true) 0x24 syn

/-- RCS_LOCKED (R279, R281): the active synthesiser's part of a TUNE or CAL ends, with the record a calibration wrote; a failed
calibration leaves RCS in LOST. Nothing ends here while the reference is bad (R574). -/
def execRcsLocked (ok : Bool) (r0 r1 r2 : Word) (s : State) : Out :=
  match s.rcs.busy with
  | some (.tune cal _) =>
    if s.rcs.refBad then .next s
    else
      let full := s.rcsState == 1
      let act := s.fld Fld.RCS_STATUS_ACTIVE
      if ok then
        let s := if full then writeRecord s act r0 r1 r2 else s
        .next (startStandby (endCmd (enterLocked s)) cal false false)
      else
        let s := endCmd (s.setFld Fld.RCS_STATUS_STATE 4)
        .next (if full then synFailed s act else s)
  | _ => .next s

/-- RCS_CMD_END_LOST (R574). -/
def execRcsCmdEndLost (s : State) : Out :=
  match s.rcs.busy with
  | some (.tune _ _) => if s.rcs.refBad then .next (endCmd (s.setFld Fld.RCS_STATUS_STATE 4)) else .next s
  | _ => .next s

/-- AUTO_TUNE_ISSUE (R574): a TUNE of the part's own is issued once no command is BUSY, or dropped in LOCKED. -/
def execAutoTuneIssue (s : State) : Out :=
  if !s.rcs.autoDue || s.rcs.busy.isSome then .next s
  else
    let s := s.updRcs (fun r => { r with autoDue := false })
    if s.rcsLocked then .next s else .next (rcsTune s (s.fld Fld.RCS_STATUS_ENTRY))

/-- STBY_OK sets (R286): tracking has held within ±0.5 ps. -/
def standbyOk (s : State) (dphi : Int) : State :=
  if s.rcs.standby == .track && dphi.natAbs ≤ 50 then
    ((s.setFld Fld.RCS_TRACK_DPHI (unsigned 16 dphi)).flag Fld.RCS_STATUS_STBY_OK true).updRcs (fun r => { r with standby := .idle })
  else s

/-- RCS_STANDBY_DONE (R279, R291): the standby's calibration ends and it tracks, or its tracking ends in STBY_OK. A
calibration that the part performs by itself is repeated once when it fails. -/
def execRcsStandbyDone (ok : Bool) (r0 r1 r2 : Word) (dphi : Int) (s : State) : Out :=
  match s.rcs.standby with
  | .idle => .next s
  | .track => .next (if ok then standbyOk s dphi else s)
  | .cal own again =>
    if ok then .next (endIf ((writeRecord s s.standbySyn r0 r1 r2).updRcs (fun r => { r with standby := .track })) .calStby)
    else if own && !again then .next (s.updRcs (fun r => { r with standby := .cal true true }))
    else .next (endIf (synFailed (s.updRcs (fun r => { r with standby := .idle })) s.standbySyn) .calStby)

/-- STBY_OK_SET (R286). -/
def execStbyOkSet (dphi : Int) (s : State) : Out := .next (standbyOk s dphi)

/-! ### Source (R275, R277) -/

/-- A write to RCS_CTRL (R275, R286): SRC and REF_FREQ are kept while a command is BUSY; a change of either leaves LOCKED at
once and ends the watch on the old source; STBY_EN brings the standby up or powers it down. -/
def writeCtrl (s : State) (v : Word) : State :=
  let old := s.rd Reg.RCS_CTRL
  let v := if s.rcs.busy.isSome then setField 0 5 v (fieldOf 0 5 old) else v
  let t := s.writeRw Reg.RCS_CTRL v
  let changed := s.on Fld.RCS_CTRL_SRC != t.on Fld.RCS_CTRL_SRC
    || refCode (s.fld Fld.RCS_CTRL_REF_FREQ) != refCode (t.fld Fld.RCS_CTRL_REF_FREQ)
  let t := if changed then
      let t := endCondition t 0x20 (s.fld Fld.RCS_CTRL_SRC)
      let t := t.updRcs (fun r => { r with refBad := false, autoDue := false })
      if s.rcsState = 0 then t else leaveLocked t 4
    else t
  let t := if s.on Fld.RCS_CTRL_STBY_EN == t.on Fld.RCS_CTRL_STBY_EN then t
    else if t.on Fld.RCS_CTRL_STBY_EN then (if t.rcsLocked && t.rcs.busy.isNone then startStandby t false false false else t)
    else endIf (stopStandby t) .calStby
  showSync t

/-- RCS_SOURCE_WRITE (R275). -/
def execRcsSourceWrite (v : Word) (s : State) : Out := .next (writeCtrl s v)

/-- STBY_ENABLE (R286). -/
def execStbyEnable (s : State) : Out := .next (writeCtrl s (setField 31 1 (s.rd Reg.RCS_CTRL) 1))

/-- EXTFS_GOOD (R275, R277). -/
def execExtfsGood (s : State) : Out :=
  if !s.on Fld.RCS_CTRL_SRC then .next s
  else
    let s := (endCondition s 0x20 1).updRcs (fun r => { r with refBad := false })
    .next (if s.rcsLocked then s else enterLocked s)

/-- REF_LOST (R277): of the source that SRC selects. -/
def execRefLost (s : State) : Out :=
  if s.rcs.refBad then .next s
  else
    let s := s.updRcs (fun r => { r with refBad := true })
    let s := (s.flag Fld.RCS_STATUS_REF_LOST_EVT true).bump Fld.RCS_CNT1_REF_LOSS
    let s := if s.rcsLocked then leaveLocked s 4 else s
    .next (reportKind s 0x20 (s.fld Fld.RCS_CTRL_SRC))

/-- REF_RECOVER (R277): REFCLK has been good for 1 ms, and the part's own TUNE is due. -/
def execRefRecover (s : State) : Out :=
  if s.on Fld.RCS_CTRL_SRC || !s.rcs.refBad then .next s
  else .next ((endCondition s 0x20 0).updRcs (fun r => { r with refBad := false, autoDue := s.rcsState != 0 }))

/-- A write to a register of tune-cache entry e (R298). -/
def writeEntry (s : State) (e a : Nat) (v : Word) : State :=
  let inUse := s.rcsState != 0 && !s.on Fld.RCS_CTRL_SRC && s.fld Fld.RCS_STATUS_ENTRY == e
  let named := match s.rcs.busy with
    | some (.tune _ n) => n == e
    | _ => false
  if inUse || named then s else s.writeRw a v

/-! ### Failures and switches (R287 to R291) -/

/-- The converters change over to the other synthesiser (R289, R290, R291). -/
def swapSyn (s : State) (failed hard : Bool) : State :=
  let old := s.fld Fld.RCS_STATUS_ACTIVE
  let s := s.updRcs (fun r => { r with pend := none })
  let s := (s.setFld Fld.RCS_STATUS_ACTIVE (1 - old)).flag Fld.RCS_STATUS_SWITCH_EVT true
  let s := s.bump Fld.RCS_CNT0_SWITCHES
  let s := if hard then s.bump Fld.RCS_CNT0_HARD_SW else s
  let s := endIf s .switch
  if failed then ownRecal (reportFault (stopStandby s) (if hard then 0x22 else 0x21) old)
  else (stopStandby s).updRcs (fun r => { r with standby := .track })

/-- Are failures judged (R287): LOCKED with SRC at 0? -/
def State.judges (s : State) : Bool := s.rcsLocked && !s.on Fld.RCS_CTRL_SRC

/-- Can the standby take over? -/
def State.spare (s : State) : Bool := s.on Fld.RCS_STATUS_STBY_OK && s.on Fld.RCS_CTRL_AUTO_SW

/-- A failure of the standby (R287). -/
def standbyFails (s : State) (hard : Bool) : State :=
  if !s.on Fld.RCS_STATUS_STBY_OK && s.rcs.standby == .idle then s
  else
    let syn := s.standbySyn
    ownRecal (reportFault (stopStandby s) (if hard then 0x22 else 0x21) syn)

/-- SYN_SOFT_FAIL (R287, R289, R291). -/
def execSynSoftFail (synB : Bool) (s : State) : Out :=
  if !s.judges then .next s
  else if synB.toNat != s.fld Fld.RCS_STATUS_ACTIVE then .next (standbyFails s false)
  else if s.spare || s.rcs.pend.isSome then
    .next (s.updRcs (fun r => { r with pend := match r.pend with
      | some p => some { p with failed := true }
      | none => some { since := s.time.now, failed := true } }))
  else .next ((leaveLocked s 4).updRcs (fun r => { r with autoDue := true }))

/-- SYN_HARD_FAIL (R287, R290, R291). -/
def execSynHardFail (synB : Bool) (s : State) : Out :=
  if !s.judges then .next s
  else if synB.toNat != s.fld Fld.RCS_STATUS_ACTIVE then .next (standbyFails s true)
  else if s.spare then .next (swapSyn s true true)
  else .next ((leaveLocked s 4).updRcs (fun r => { r with autoDue := true }))

/-- SYN_DIVERGE (R287). -/
def execSynDiverge (dphi : Int) (s : State) : Out :=
  if !s.judges || !s.on Fld.RCS_STATUS_STBY_OK || dphi.natAbs ≤ 100 then .next s
  else
    let s := (s.setFld Fld.RCS_TRACK_DPHI (unsigned 16 dphi)).flag Fld.RCS_STATUS_DIVERGE_EVT true
    .next (ownRecal (reportFault (stopStandby s) 0x23 0))

/-- SYN_SWITCH (R288, R289): the switch instant, at least 300 ns after the switch became due. -/
def execSynSwitch (s : State) : Out :=
  match s.rcs.pend with
  | none => .next s
  | some p => if s.time.now < p.since + 240 then .next s else .next (swapSyn s p.failed false)

/-! ### Epoch alignment (R293 to R296) -/

/-- SYNC_OUT_PULSE (R294): r samples of f_S/4 lie between the boundary and the next REFCLK edge. -/
def execSyncOutPulse (r : Nat) (s : State) : Out :=
  if s.syncMode = 1 && s.anyAnchored && r < s.kR then .next (s.emit (.sync (r + 1))) else .next s

/-- A pulse is ignored (R296). -/
def syncErr (s : State) : State := s.bump Fld.RCS_SYNC_STAT_SYNC_ERR

/-- A boundary is placed from SYNC_IN (R295). -/
def follow (s : State) : State :=
  endCondition ((s.flag Fld.RCS_SYNC_STAT_FOLLOWING true).updRcs (fun r => { r with missRun := 0, waitPulse := false })) 0x25 0

/-- SYNC_IN_PULSE (R295, R296): high on w edges, designating a boundary `diff` samples from the part's own; the first valid one
after LOCKED anchors the facets. -/
def execSyncInPulse (w : Nat) (diff : Int) (s : State) : Out :=
  if s.syncMode != 2 || !s.rcsLocked then .next s
  else if w = 0 || s.kR < w then .next (syncErr s)
  else if s.rcs.waitPulse then
    if s.rcs.lockedAt + 1600 ≤ s.time.now then .next ((List.range 4).foldl anchorFacet (follow s)) else .next s
  else if !s.anyAnchored then .next s
  else if 24 < diff.natAbs then .next (syncErr s)
  else .next (follow s)

/-- SYNC_MISS (R296, R573). -/
def execSyncMiss (s : State) : Out :=
  if s.syncMode != 2 || !s.anyAnchored then .next s
  else
    let n := s.rcs.missRun + 1
    let s := (s.bump Fld.RCS_SYNC_STAT_SYNC_MISS).updRcs (fun r => { r with missRun := n })
    if n < 3 then .next s else .next (reportKind (s.flag Fld.RCS_SYNC_STAT_FOLLOWING false) 0x25 0)

/-- SYNC_ANCHOR_TIMEOUT (R296): the facets anchor as in mode 0. -/
def execSyncAnchorTimeout (s : State) : Out :=
  if s.rcs.waitPulse && s.rcs.lockedAt + ticksMs ≤ s.time.now then
    .next (reportKind (s.updRcs (fun r => { r with waitPulse := false })) 0x25 0)
  else .next s

/-- A write to RCS_SYNC_CFG (R293): leaving FOLLOW ends the placing of boundaries. -/
def writeSyncCfg (s : State) (v : Word) : State :=
  let s := showSync (s.writeRw Reg.RCS_SYNC_CFG v)
  if s.syncMode = 2 then s
  else endCondition ((s.flag Fld.RCS_SYNC_STAT_FOLLOWING false).updRcs (fun r => { r with waitPulse := false, missRun := 0 })) 0x25 0

end Sys2Proof.Machine
end

