-- ==== Sys2Proof/Machine/Lgc.lean ====
section
/-! DEFINITION. Machine/Lgc.lean: the T1640 persona: CPRI links, timing from link 0, the AxC table, port enables, carrier
frequencies and alarms (R328 to R349). Where the spec gives no address to a persona register, its command carries the value
(assumption log 15). -/

namespace Sys2Proof.Machine

/-- Change a CPRI link. -/
def State.updCpri (s : State) (n : Nat) (f : CpriLink → CpriLink) : State := s.updLgc (fun l => { l with links := l.links.upd n f })

/-- The state of link n: 0 A to 5 F. -/
def State.cpri (s : State) (n : Nat) : Nat := s.fld (Fld.LGC_LINK_STATE_STATE n)

/-! ### Alarms (R348) -/

/-- The alarm bits whose sources are present. -/
def State.alarmSources (s : State) : Nat :=
  maskOf 16 (fun b =>
    if 12 ≤ b then (s.lgc.links.at (b - 12)).los
    else if 8 ≤ b then (s.lgc.links.at (b - 8)).lof
    else match b with
      | 7 => [0, 1, 2, 3].any (fun n => (s.lgc.links.at n).rai)
      | 6 => [0, 1, 2, 3].any (fun n => (s.lgc.links.at n).sdi)
      | 4 => s.rcsState != 0 && s.rcsState != 3
      | 3 => s.liveCodes.any (fun c => personaAlarm (codeKind c) (codeUnit c) == some 3)
      | 2 => s.liveCodes.any (fun c => personaAlarm (codeKind c) (codeUnit c) == some 2)
      | 0 => [0, 1, 2, 3].any (fun n => (s.lgc.links.at n).skew)
      | _ => false)

/-- Set the alarm bits of the sources that are present. -/
def raiseAlarms (s : State) : State :=
  if s.persona then refreshHub (s.updLgc (fun l => { l with alarm := Nat.lor l.alarm s.alarmSources })) else s

/-- ALARM_CLEAR (R348): the bits written 1 clear, and those whose source is present set again. -/
def execAlarmClear (v : Half) (s : State) : Out :=
  if s.persona then .next (raiseAlarms (s.updLgc (fun l => { l with alarm := Nat.land l.alarm (0xFFFF - v.toNat) }))) else .next s

/-! ### Links (R329 to R334) -/

/-- The options of OPT_MASK. -/
def State.options (s : State) (n : Nat) : List Nat :=
  (bitsOf 7 (s.fld (Fld.LGC_LINK_CTRL_OPT_MASK n))).map (· + 1)

/-- The highest option below a bound, the highest of all where there is none; 0 with an empty mask. -/
def State.nextOption (s : State) (n below : Nat) : Nat :=
  match ((s.options n).filter (· < below)).getLast? with
  | some o => o
  | none => ((s.options n).getLast?).getD 0

/-- Link 0 in state F holds the time (R333) and frees the columns; leaving it holds them quiet from the next symbol boundary
(R334). -/
def linkTime (old s : State) : State :=
  let was := old.cpri 0 == 5
  let is := s.cpri 0 == 5
  if was == is then s
  else
    let t := s.flag Fld.TIM_STATUS_TIME_OK is
    if is then
      let t := t.updLgc (fun l => { l with quietDue := false })
      settle s (t.updCva (fun x => { x with realignQuiet := [] }))
    else t.updLgc (fun l => { l with quietDue := true })

/-- The next symbol boundary after link 0 left state F: every column is held quiet (R334). -/
def holdColumns (s : State) : State :=
  if s.lgc.quietDue then
    let t := s.updLgc (fun l => { l with quietDue := false })
    settle s (t.updCva (fun x => { x with realignQuiet := (List.range 4).foldl (fun m k => m.put k true) x.realignQuiet }))
  else s

/-- Move a link to a state: its timeout starts. In B the highest option of the mask is tried first. -/
def moveLink (s : State) (n st : Nat) : State :=
  let t := s.setFld (Fld.LGC_LINK_STATE_STATE n) st
  let t := if st = 1 then t.setFld (Fld.LGC_LINK_STATE_OPTION n) (t.nextOption n 8)
    else if st = 0 then t.setFld (Fld.LGC_LINK_STATE_OPTION n) 0 else t
  let t := t.updCpri n (fun l => { l with since := s.time.now, rai := l.rai && st == 5, sdi := l.sdi && st == 5 })
  linkTime s t

/-- CPRI_LINK_ENABLE (R329). -/
def execCpriLinkEnable (n : Fin 4) (s : State) : Out :=
  if !s.persona then .next s
  else
    let s := s.flag (Fld.LGC_LINK_CTRL_LINK_EN n) true
    .next (if s.cpri n = 0 then moveLink s n 1 else s)

/-- CPRI_STATE_ADVANCE (R329): B to C, C to D, D to E and E to F. -/
def execCpriStateAdvance (n : Fin 4) (s : State) : Out :=
  let st := s.cpri n
  if !s.persona || st = 0 || 5 ≤ st then .next s
  else
    let s := if st = 4 then s.flag (Fld.LGC_LINK_STATE_VEND_DEF n) false else s
    .next (moveLink s n (st + 1))

/-- The timeout of a state of link n in ticks (R329): fields in units of 10 ms, 0 acting as 1; none in A and F. -/
def State.cpriTimeout (s : State) (n : Nat) : Option Nat :=
  let t (f : Fld) : Option Nat := some (max 1 (s.fld f) * 10 * ticksMs)
  match s.cpri n with
  | 1 => t (Fld.LGC_LINK_TMO_T_RATE n)
  | 2 => t (Fld.LGC_LINK_TMO_T_PROT n)
  | 3 => t (Fld.LGC_LINK_TMO2_T_CM n)
  | 4 => t (Fld.LGC_LINK_TMO2_T_VEND n)
  | _ => none

/-- CPRI_STATE_TIMEOUT (R329). -/
def execCpriStateTimeout (n : Fin 4) (s : State) : Out :=
  match s.cpriTimeout n with
  | none => .next s
  | some d =>
    if !s.persona || s.time.now < (s.lgc.links.at n).since + d then .next s
    else
      let st := s.cpri n
      let s := (s.bump (Fld.LGC_LINK_CNT_TMO_CNT n)).setFld (Fld.LGC_LINK_STATE_LAST_TMO n) st
      if st = 1 then
        let o := s.nextOption n (s.fld (Fld.LGC_LINK_STATE_OPTION n))
        .next ((s.setFld (Fld.LGC_LINK_STATE_OPTION n) o).updCpri n (fun l => { l with since := s.time.now }))
      else if st = 4 then .next (moveLink (s.flag (Fld.LGC_LINK_STATE_VEND_DEF n) true) n 5)
      else .next (moveLink s n 1)

/-- The causes of one CTRL cycle (R330, R349): each sets its alarm, a reset request counts, and one transition follows, to A with
LINK_EN = 0. -/
def resetLink (s : State) (n : Nat) (los lof rst dis : Bool) : State :=
  let s := s.updCpri n (fun l => { l with los := l.los || los, lof := l.lof || lof })
  let s := if rst then
      let k := if s.on Fld.VP_QUIRK_DBL_RST then 2 else 1
      setAlarm (s.updLgc (fun l => { l with rstCnt := min 0xFFFF (l.rstCnt + k) })) 5
    else s
  let s := raiseAlarms s
  if dis then moveLink (s.flag (Fld.LGC_LINK_CTRL_LINK_EN n) false) n 0
  else if (los || lof || rst) && 2 ≤ s.cpri n then moveLink s n 1
  else s

/-- CPRI_LINK_RESET (R330). -/
def execCpriLinkReset (n : Fin 4) (los lof rst dis : Bool) (s : State) : Out :=
  if s.persona then .next (resetLink s n los lof rst dis) else .next s

/-- CPRI_LOSS_OF_SIGNAL and CPRI_LOSS_OF_SYNC (R314, R330): link n uses lane Ln. -/
def execCpriLossOfSignal (l : Fin 4) (s : State) : Out := if s.persona then .next (resetLink s l true false false false) else .next s
def execCpriLossOfSync (l : Fin 4) (s : State) : Out := if s.persona then .next (resetLink s l false true false false) else .next s

/-- Does link n transmit RAI, and SDI (R331)? -/
def State.sendsRai (s : State) (n : Nat) : Bool := s.cpri n == 1 || (s.lgc.links.at n).los
def State.sendsSdi (s : State) : Bool := s.on Fld.FLT_STATUS_FATAL

/-- HYPERFRAME_RX (R331 to R334): a received hyperframe shows signal and synchronisation; in state F its RAI and SDI count, link 0
gives the time, the others are held to its frame start, and the link's own hyperframe follows TOFS later. -/
def execHyperframeRx (n : Fin 4) (rai sdi cv : Bool) (ofs : Int) (s : State) : Out :=
  if !s.persona || s.cpri n = 0 then .next s
  else
    let s := if cv then s.bump (Fld.LGC_LINK_CNT_CV_CNT n) else s
    let f := s.cpri n == 5
    let skew := n.val != 0 && f && 20000 < ofs.natAbs
    let s := s.updCpri n (fun l => { l with los := false, lof := false, rai := f && rai, sdi := f && sdi, skew })
    let s := raiseAlarms s
    if !f then .next s
    else
      let s := if n.val = 0 && ofs != 0 then
          airStep (s.setPhc (Phc.ofFine ((s.time.phc.fine : Int) + ofs * 2 ^ 30).toNat)) ofs
        else s
      .next (s.emit (.hyperframe n (s.sendsRai n) s.sendsSdi))

/-! ### AxC table (R336 to R338) -/

/-- Bits in a word of an option, T (R328). -/
def cpriWord (o : Nat) : Nat := [0, 8, 16, 32, 40, 64, 80, 128].getD o 0

/-- Samples per basic frame of a legacy carrier, S (R336); 0 for a type that the persona does not carry. -/
def legacySamples (c : LegacyCar) : Nat :=
  if c.lte then (match c.bw with
    | 5 => 2
    | 10 => 4
    | 20 => 8
    | _ => 0)
  else if 1 < c.mu then 0
  else match c.bw with
    | 20 => 8
    | 40 => 16
    | _ => 0

/-- The bits of an entry's container: from POS, and how many (R337). -/
def State.container (s : State) (w : Nat) (e : AxcEntry) : Nat × Nat :=
  (e.pos, 2 * w * ((s.lgc.cars[e.car]?).map legacySamples).getD 0)

/-- Is the table valid (R338)? -/
def State.axcOk (s : State) (w : Nat) (t : List AxcEntry) : Bool :=
  8 ≤ w && w ≤ 16
    && t.all (fun e => e.link < 4 && s.on (Fld.LGC_LINK_CTRL_LINK_EN e.link) && e.port < 16 && e.car < s.lgc.cars.length
      && (s.container w e).1 + (s.container w e).2 ≤ 15 * cpriWord (s.fld (Fld.LGC_LINK_STATE_OPTION e.link)))
    && (List.range t.length).all (fun i => (List.range i).all (fun j =>
      match t[i]?, t[j]? with
      | some a, some b =>
        let x := s.container w a
        let y := s.container w b
        !(a.port == b.port && a.car == b.car) && (a.link != b.link || x.1 + x.2 ≤ y.1 || y.1 + y.2 ≤ x.1)
      | _, _ => true))

/-- AXC_APPLY (R338). -/
def execAxcApply (w : Nat) (table : List AxcEntry) (s : State) : Out :=
  if !s.persona then .next s
  else if s.axcOk w table then .next (s.updLgc (fun l => { l with axcNext := some (w, table) }))
  else .next (refreshHub (setAlarm (s.flag Fld.VP_STATUS_AXC_BAD true) 1))

/-- AXC_TABLE_SWITCH (R338). -/
def execAxcTableSwitch (s : State) : Out :=
  match s.lgc.axcNext with
  | none => .next s
  | some (w, t) => .next (s.updLgc (fun l => { l with axc := t, axcW := w, axcNext := none }))

/-! ### Port enables (R343) and frequencies (R344) -/

/-- PORT_TXEN_WRITE (R343). -/
def execPortTxenWrite (i : Fin 16) (en : Bool) (s : State) : Out :=
  if !s.persona then .next s
  else .next (s.updLgc (fun l => { l with
    txen := putBit l.txen i en
    txenWait := l.txenWait.put i (some { en, since := s.time.now, left := none }) }))

/-- PORT_TXEN_EFFECT (R343): the first boundary at least 100 ns after the write, or the second after that with the quirk. -/
def execPortTxenEffect (i : Fin 16) (s : State) : Out :=
  match s.lgc.txenWait.at i with
  | none => .next s
  | some w =>
    let left := match w.left with
      | some n => some (n - 1)
      | none => if s.time.now < w.since + 80 then none else some (if s.on Fld.VP_QUIRK_TXEN_DLY2 then 2 else 0)
    match left with
    | none => .next s
    | some 0 => .next (s.updLgc (fun l => { l with txenOn := putBit l.txenOn i w.en, txenWait := l.txenWait.put i none }))
    | some n => .next (s.updLgc (fun l => { l with txenWait := l.txenWait.put i (some { w with left := some n }) }))

/-- CAR_FREQ_WRITE (R344). -/
def execCarFreqWrite (w : CarWrite) (s : State) : Out :=
  if !s.persona then .next s
  else match w with
    | .config cars =>
      let cars := cars.take 2
      .next (if cars = s.lgc.cars then s else buildPlans (s.updLgc (fun l => { l with cars })))
    | .freq j kHz =>
      let s := s.updLgc (fun l => { l with freq := l.freq.put j kHz })
      .next (if j.val + 1 = s.lgc.cars.length then buildPlans s else s)

end Sys2Proof.Machine
end

