-- ==== Sys2Proof/Machine/Pws.lean ====
section
/-! DEFINITION. Machine/Pws.lean: the power steward: symbol and slot sleep, the entry into ARRAY_SLEEP and STANDBY, wake sources,
the wake from ARRAY_SLEEP, the budget, and the current ramps (R459 to R481). The wake from STANDBY, which applies the
calibration set and the preloads again, is in Machine/Boot.lean. -/

namespace Sys2Proof.Machine

def State.updPws (s : State) (f : PwsState → PwsState) : State := { s with pws := f s.pws }

/-- The part takes a power state, and PWS_STATUS shows it (R481). In STANDBY, when nothing can read it, STATE stays. -/
def setPhase (s : State) (p : PwsPhase) : State :=
  let s := s.updPws (fun x => { x with phase := p })
  match p with
  | .active => (s.setFld Fld.PWS_STATUS_STATE 0).flag Fld.PWS_STATUS_BUSY false
  | .array => (s.setFld Fld.PWS_STATUS_STATE 1).flag Fld.PWS_STATUS_BUSY false
  | .entering _ => (s.setFld Fld.PWS_STATUS_STATE 3).flag Fld.PWS_STATUS_BUSY true
  | .standby => s
  | .waking _ => (s.setFld Fld.PWS_STATUS_STATE 4).flag Fld.PWS_STATUS_BUSY true

/-! ### SYMBOL_SLEEP (R460, R461) -/

/-- Have all enabled parts of a direction of facet k the numerology of its reference timeline? -/
def State.oneNumerology (s : State) (k : Nat) (dl : Bool) : Bool :=
  let ref := s.refTimeline k
  (bitsOf 8 (s.active (if dl then Fld.LPE_FACET_PLAN_DL_EN k else Fld.LPE_FACET_PLAN_UL_EN k))).all (fun i =>
    s.mu (8 * k + i) == s.mu ref && s.ecp (8 * k + i) == s.ecp ref)

/-- Does a playback or a calibration run use TX path p? -/
def State.txInUse (s : State) (p : Nat) : Bool :=
  ((s.cva.play.at (p / 16)).isSome && (s.fld (Fld.CVA_WFM_PATHS_MASK (p / 16))).testBit (p % 16))
    || match s.cva.run with
       | some r => if r.rx then s.fld Fld.CVA_CAL_CFG_SRC == p else r.mask.testBit p
       | none => false

/-- The paths of facet k that the released work lists of a symbol use, or none when no work list of it was released. -/
def State.usedIn (s : State) (k : Nat) (y : SymAbs) : Option Nat :=
  let l := s.pws.used.filter (fun e => e.1 == k && e.2.1 == y)
  if l.isEmpty then none else some (maskOf 64 (fun p => l.any (fun e => e.2.2.testBit p)))

/-- At the realised boundary of a symbol of the reference timeline of facet k, the paths for which the symbol is empty park, each
counted once; what was known of symbols up to this one is forgotten. -/
def symbolSleep (s : State) (k : Nat) (y : SymAbs) : State :=
  let t := match s.usedIn k y with
    | none => s
    | some used =>
      if !(s.fld Fld.PWS_SLEEP_AUTO_TX).testBit k || !s.oneNumerology k true then s
      else (List.range 16).foldl (fun t i =>
        let p := 16 * k + i
        if used.testBit p || s.txInUse p || s.dacRow p != DacRow.data then t
        else (t.updPws (fun x => { x with symSleep := putBit x.symSleep p true })).bump (Fld.PWS_FACET_CNT_SYM_SLEEPS k)) s
  t.updPws (fun x => { x with used := x.used.filter (fun e => e.1 != k || decide (s.symFine (s.refTimeline k) y < s.symFine (s.refTimeline k) e.2.1)) })

/-- SYMBOL_SLEEP_WAKE (R460). -/
def execSymbolSleepWake (p : Fin 64) (s : State) : Out :=
  if s.pws.symSleep.testBit p then .next (settle s (s.updPws (fun x => { x with symSleep := putBit x.symSleep p false })))
  else .next s

/-- The start of a symbol of a stored UL section: PRACH by its span (R191). -/
def State.ulStart (s : State) (c : Nat) (d : Section) (sym : Nat) : Int :=
  match d.span with
  | some (t, _) => tcToFine t + (315964819 * 1000000000 + s.alpha + s.fld Fld.TIM_AIR_BETA_BETA * 10000000 : Nat) * 2 ^ 32
  | none => s.symFine c { d.start with symbol := sym }

/-- The earliest start, not over yet, of an UL symbol for which a flow bound to RX path p has a section (R461). -/
def State.nextUlUse (s : State) (p : Nat) : Option Int :=
  let k := p / 16
  let starts := (bitsOf 8 (s.active (Fld.LPE_FACET_PLAN_UL_EN k))).flatMap (fun i =>
    let c := 8 * k + i
    let fs := s.flowsFrom p c
    (s.fpe.sections.filter (fun d => fs.contains d.flow)).flatMap (fun d =>
      (d.todo.filter (fun sym => s.phcFine < s.ulStart c d sym + s.symFineLen c { d.start with symbol := sym })).map (s.ulStart c d)))
  starts.foldl (fun b t => match b with
    | none => some t
    | some u => some (min t u)) none

/-- The largest T_cont of the enabled UL parts of facet k (R183, R461). -/
def State.tContMax (s : State) (k : Nat) : Int :=
  (bitsOf 8 (s.active (Fld.LPE_FACET_PLAN_UL_EN k))).foldl (fun m i => max m (s.tCont (8 * k + i))) 0

/-- Is RX path p in an RX calibration run? -/
def State.rxCal (s : State) (p : Nat) : Bool :=
  match s.cva.run with
  | some r => r.rx && r.mask.testBit p
  | none => false

/-- May RX path p sleep by symbol at all? -/
def State.mayRxSleep (s : State) (p : Nat) : Bool :=
  (s.fld Fld.PWS_SLEEP_AUTO_RX).testBit (p / 16) && s.oneNumerology (p / 16) false && !s.rxCal p

/-- The instant by which a sleeping RX path must wake for its next used symbol. -/
def State.rxWakeAt (s : State) (p : Nat) : Option Int := (s.nextUlUse p).map (fun t => t - usFine 2 - s.tContMax (p / 16))

/-- RX_SLEEP_ENTER (R461): the path sleeps unless its next used symbol leaves less than 1 µs. -/
def execRxSleepEnter (p : Fin 64) (s : State) : Out :=
  let long := match s.rxWakeAt p with
    | some t => decide (s.phcFine + usFine 1 ≤ t)
    | none => true
  if s.mayRxSleep p && long then .next (clearDead (s.updPws (fun x => { x with rxSleep := putBit x.rxSleep p true })))
  else .next s

/-- RX_SLEEP_WAKE (R461): 2 µs and T_cont,max before the next used symbol, or when the path may no longer sleep. -/
def execRxSleepWake (p : Fin 64) (s : State) : Out :=
  let due := match s.rxWakeAt p with
    | some t => decide (t < s.phcFine + s.increment)
    | none => false
  if s.pws.rxSleep.testBit p && (due || !s.mayRxSleep p) then
    .next (s.updPws (fun x => { x with rxSleep := putBit x.rxSleep p false }))
  else .next s

/-! ### SLOT_SLEEP (R462, R463) -/

/-- Show the facets in SLOT_SLEEP or waking. -/
def showSlot (s : State) : State :=
  s.setFld Fld.PWS_SLEEP_SLOT (maskOf 4 (fun k => s.pws.slotSleep.testBit k || s.pws.slotWaking.testBit k))

/-- Facet k enters SLOT_SLEEP. -/
def slotEnter (s : State) (k : Nat) : State :=
  clearDead (settle s (showSlot (s.updPws (fun x =>
    { x with slotSleep := putBit x.slotSleep k true, slotWaking := putBit x.slotWaking k false }))))

/-- Facet k starts to leave SLOT_SLEEP. -/
def slotLeave (s : State) (k : Nat) : State :=
  if s.pws.slotSleep.testBit k then
    showSlot (s.updPws (fun x => { x with slotSleep := putBit x.slotSleep k false, slotWaking := putBit x.slotWaking k true }))
  else s

/-- SLOT_SLEEP_WAKE_DONE (R463). -/
def execSlotSleepWakeDone (k : Fin 4) (s : State) : Out :=
  if s.pws.slotWaking.testBit k then
    .next (settle s (showSlot (s.updPws (fun x => { x with slotWaking := putBit x.slotWaking k false }))))
  else .next s

/-! ### What a power-down keeps -/

/-- The registers that satisfy `lost` keep the bits the host writes, from the configuration shadow, and lose the others
(R475). -/
def powerDownRegs (s : State) (lost : Nat → Bool) : State :=
  { s with regs := s.regs.foldl (fun m e =>
      if lost e.1 then
        let mask := BitVec.ofNat 32 (accessBits (fun t => t == .rw || t == .sh) e.1)
        mapSet regReset m e.1 ((e.2 &&& mask) ||| (regReset e.1 &&& ~~~mask))
      else m) s.regs }

/-- BANK_VALID of every path stays with the banks in KEEP7 (R214). -/
def keepBanks (old s : State) : State :=
  (List.range 64).foldl (fun s p => s.setFld (Fld.LDE_PATH_STAT_BANK_VALID p) (old.fld (Fld.LDE_PATH_STAT_BANK_VALID p))) s

/-- The per-facet registers of the linearisation and converter blocks. -/
def facetReg (a : Nat) : Bool :=
  (0x08000100 ≤ a && a < 0x08200000) || (0x09000100 ≤ a && a < 0x0A000000)

/-- DOM_FACET0 to DOM_FACET3 switch off (R465): trims and banks are held in KEEP7; the facets are no longer anchored. -/
def facetsDown (s : State) : State :=
  let t := keepBanks s (powerDownRegs s facetReg)
  let t := (List.range 4).foldl (fun t k => t.updFacet k (fun f => { f with anchored := false, realigning := false })) t
  let t := (t.flag Fld.RCS_STATUS_ANCHORED false).flag Fld.TIM_STATUS_REALIGNING false
  let t := { t with lde := { inForce := s.lde.inForce }, cva := { trims := s.cva.trims }
                    mem := { t.mem with sram := t.mem.sram.filter (fun e => !(0x41CA0000 ≤ e.1 && e.1 < 0x41DA0000)) } }
  t.updPws (fun x => { x with facetsOff := true, symSleep := 0, rxSleep := 0, slotSleep := 0, slotWaking := 0, used := [] })

/-- The registers of the blocks that DOM_CORE, DOM_RCS, DOM_LANE, DOM_LP and the facets hold: all but those of the BOOT, FLT and
PWS blocks, the monitors, the Locket, CE0, the tune cache and the banks of KEEP7 (R16, R466). -/
def coreReg (a : Nat) : Bool :=
  0x03000000 ≤ a && !(0x0F000000 ≤ a && a < 0x0F001000) && !(0x0F003000 ≤ a && a < 0x0F004000)
    && !(0x0D000000 ≤ a && a < 0x0D000100) && !(Reg.RCS_TC_FREQ 0 ≤ a && a < Reg.RCS_TC_FREQ 64)
    && !(0x08200000 ≤ a && a < 0x09000000)

/-- Every domain but those that STANDBY keeps switches off (R466): the PHC stops at its saved value, the DRAM keeps its contents in
self-refresh, and SRAM outside the KEEP banks is lost. -/
def coreDown (s : State) : State :=
  let t := facetsDown s
  let t := keepBanks s (powerDownRegs t coreReg)
  { t with
    acc := { active := s.acc.active, facetCyc := s.acc.facetCyc, facetRem := s.acc.facetRem, jtag := s.acc.jtag }
    time := { now := s.time.now, phc := s.time.phc }
    fpe := { portOrder := s.fpe.portOrder, raised := s.fpe.raised, evSeq := s.fpe.evSeq, evAddr := s.fpe.evAddr }
    bfe := {}
    ws := { sets := s.ws.sets.filter (fun e => decide (e.1 < 2048) && e.2.locked), regul := [] }
    lpe := {}
    rcs := {}
    srd := {}
    lgc := { s.lgc with links := [], regrid := [], axcNext := none, txenOn := 0, txenWait := [], quietDue := false }
    dsp := { cores := (List.range 4).foldl (fun m n => m.put n { resetAt := s.time.now, wdogFrom := s.time.now }) []
             kernels := s.dsp.kernels }
    cls := (List.range 4).foldl (fun m e => if e = 0 then m.put 0 (s.ce 0) else m.put e { prog := (s.ce e).prog, data := (s.ce e).data }) []
    mem := { dram := s.mem.dram, dramUe := s.mem.dramUe, repair := s.mem.repair, spares := s.mem.spares }
    mon := s.mon.coreLost
    boot := { s.boot with pll := false }
    pws := { t.pws with coreOff := true, ramp := none, tuned := if s.rcsState = 0 then none else some (s.fld Fld.RCS_STATUS_ENTRY) } }

/-! ### The entry (R464 to R467) -/

/-- The listening port and lane (R466): none unless LISTEN.EN is 1. -/
def State.listenLane (s : State) : Option Nat :=
  if s.on Fld.PWS_LISTEN_EN then some (s.fld (Fld.FPE_PORT_CFG_LANE (s.fld Fld.PWS_LISTEN_PORT))) else none

/-- The lane source, as it counts for STANDBY. -/
def State.laneSource (s : State) : Bool := s.on Fld.PWS_WAKE_LANE && s.on Fld.PWS_LISTEN_EN

/-- The current state in the code of TARGET. -/
def State.phaseCode (s : State) : Nat :=
  match s.pws.phase with
  | .active => 0
  | .array => 1
  | _ => 2

/-- The first check of R464 that fails, 0 for none. -/
def State.sleepCause (s : State) : Nat :=
  let target := s.fld Fld.PWS_MODE_TARGET
  let port := s.fld Fld.PWS_LISTEN_PORT
  if s.on Fld.PWS_STATUS_BUSY then 1
  else if target == 3 || target == s.phaseCode then 2
  else if s.anyPart then 3
  else if target == 2 && !(s.laneSource || s.on Fld.PWS_WAKE_WAKEN || s.on Fld.PWS_WAKE_TRIG || s.on Fld.PWS_WAKE_MON) then 4
  else if target == 2 && s.laneSource
      && (!s.portUp port || (s.on Fld.PWS_LISTEN_MODE && s.fld (Fld.FPE_PORT_CFG_RATE port) == 2) || s.persona) then 5
  else 0

/-- The PHC time in ns of the earliest PHC-mode trigger armed with class 0x4 and action 0x3 (R470). -/
def State.wakeTimer (s : State) : Option Nat :=
  (((List.range 64).filter (fun n => s.on (Fld.TIM_TRG_CFG_ARM n) && !s.on (Fld.TIM_TRG_CFG_MODE n)
      && s.fld (Fld.TIM_TRG_CFG_CLASS n) == 4 && s.fld (Fld.TIM_TRG_CFG_ARG n) / 16 == 3)).map (fun n =>
    s.fld (Fld.TIM_TRG_TIME_HI_SEC n) * 1000000000 + s.fld (Fld.TIM_TRG_TIME_LO_NS n))).foldl (fun b t =>
      match b with
      | none => some t
      | some u => some (min t u)) none

/-- Steps 1, 2 and 6 of R466: flows go to IDLE, every port and lane but the listening one leaves service, and the destination of
event 0x811 and the wake timer are saved. -/
def goDark (s : State) : State :=
  let t := (List.range 256).foldl (fun t f => if t.on (Fld.FPE_FLOW_CFG_EN f) then disableFlow t f else t) s
  let keep (n : Nat) : Bool := s.on Fld.PWS_LISTEN_EN && n == s.fld Fld.PWS_LISTEN_PORT
  let u := (List.range 8).foldl (fun u n => if keep n then u else u.flag (Fld.FPE_PORT_CFG_EN n) false) t
  let u := judge t (u.updFpe (fun x => { x with portOrder := x.portOrder.filter keep })) []
  let u := (List.range 16).foldl (fun u l => if s.listenLane == some l then u else setLane u l 0 true) u
  u.updPws (fun x => { x with dest := s.fpe.evAddr, timer := s.wakeTimer, ports := s.fpe.portOrder
                              kept := Nat.lor (s.fld Fld.PWS_KEEP_KEEP_SEL) 0x40 })

/-- The entry starts (R465, R466): every path is quiet until the steward takes over. -/
def beginSleep (s : State) (deep : Bool) : State :=
  let t := setPhase s (.entering deep)
  let t := if deep then goDark t else t
  settle s (t.updPws (fun x => { x with quiet := true }))

/-- The entry is aborted (R467): what the clause stopped comes back, but ports and flows, which are the host's to bring back. An
entry from ARRAY_SLEEP goes on as a wake from it. -/
def abortSleep (s : State) (src : Nat) : State :=
  let t := (s.flag Fld.PWS_STATUS_ABORTED true).bump Fld.PWS_CNT1_ABORTS
  let t := (List.range 16).foldl (fun t l => if t.laneState l == 0 then setLane t l (t.firstState l) true else t) t
  if s.pws.facetsOff then (setPhase t (.waking false)).setFld Fld.PWS_STATUS_WAKE_SRC src
  else settle s ((setPhase t .active).updPws (fun x => { x with quiet := false }))

/-- Set or clear PMIC_EN outputs. -/
def setPmic (s : State) (groups : List Nat) (b : Bool) : State :=
  s.setFld Fld.PWS_PMIC_EN (groups.foldl (fun m g => putBit m g b) (s.fld Fld.PWS_PMIC_EN))

/-- Is a group's supply good, or ignored (R471)? -/
def State.pgOk (s : State) (g : Nat) : Bool :=
  (s.fld Fld.PWS_PMIC_PG).testBit g || (s.fld Fld.PWS_PMIC_PG_MASK).testBit g

/-- A wake source becomes pending (R467 to R469, R472): during an entry it aborts it; asleep it wakes the part. Of sources in one
tick the lowest code is recorded. -/
def wakeSource (s : State) (src : Nat) : State :=
  match s.pws.phase with
  | .active => s
  | .entering _ => abortSleep s src
  | .array =>
    let t := (setPhase s (.waking false)).setFld Fld.PWS_STATUS_WAKE_SRC src
    (setPmic t [5] true).updPws (fun x => { x with wokeAt := s.time.now })
  | .standby =>
    let t := (setPhase s (.waking true)).setFld Fld.PWS_STATUS_WAKE_SRC src
    let t := (t.ceEvent 0 9).setFld Fld.PWS_STATUS_ATTEMPTS 1
    (setPmic t [2, 3, 4] true).updPws (fun x => { x with wokeAt := s.time.now })
  | .waking _ =>
    if s.pws.wokeAt = s.time.now && src < s.fld Fld.PWS_STATUS_WAKE_SRC then s.setFld Fld.PWS_STATUS_WAKE_SRC src else s

/-- PWS_MODE.REQ is set (R464): CE0's event line 8, and the sleep clause's answer. -/
def modeRequest (s : State) : State :=
  let s := s.ceEvent 0 8
  if s.sleepCause != 0 then (s.flag Fld.PWS_STATUS_REFUSED true).setFld Fld.PWS_STATUS_CAUSE s.sleepCause
  else match s.fld Fld.PWS_MODE_TARGET with
    | 0 => wakeSource s 6
    | 1 => beginSleep s false
    | _ => beginSleep s true

/-- PWS_MODE_REQ (R464, R468). -/
def execPwsModeReq (v : Word) (s : State) : Out := .next (modeRequest (s.writeRw Reg.PWS_MODE v))

/-- Is a wake source enabled in PWS_WAKE? -/
def State.wakeOn (s : State) (src : Nat) : Bool :=
  match src with
  | 1 | 2 => s.on Fld.PWS_WAKE_LANE
  | 3 => s.on Fld.PWS_WAKE_WAKEN
  | 4 => s.on Fld.PWS_WAKE_TRIG
  | 5 => s.on Fld.PWS_WAKE_MON
  | 6 => true
  | _ => false

/-- Is an entry in progress? -/
def State.enteringSleep (s : State) : Bool :=
  match s.pws.phase with
  | .entering _ => true
  | _ => false

/-- SLEEP_ABORT (R467). -/
def execSleepAbort (src : Fin 8) (s : State) : Out :=
  if s.enteringSleep && s.wakeOn src then .next (abortSleep s src) else .next s

/-- The steward takes over (R465, R466): the last Bezel closes and the domains switch off. -/
def powerOff (s : State) : State :=
  match s.pws.phase with
  | .entering false =>
    let t := setPhase (facetsDown s) .array
    settle s (if (s.fld Fld.PWS_PMIC_AUX_OFF).testBit 0 then setPmic t [5] false else t)
  | .entering true =>
    let off := [0, 1, 2, 4] ++ (if s.laneSource then [] else [3]) ++ (if (s.fld Fld.PWS_PMIC_AUX_OFF).testBit 1 then [5] else [])
    setPhase (setPmic (coreDown s) off false) .standby
  | _ => s

/-- CE_WAIT_POWER (R397): WAIT with P at 1; on CE1 to CE3 it raises an exception. -/
def execCeWaitPower (e : Fin 4) (f : BitVec 27) (s : State) : Out :=
  ceIssue s e (f == 0) (fun s => if e.val = 0 then powerOff (ceEnd s 0) else ceAbandon s e 6)

/-! ### Wakes -/

/-- Report a failed KEEP bank (R475). -/
def keepFailed (s : State) (b : Nat) : State :=
  reportFault (s.setFld Fld.PWS_KEEP_KEEP_FAIL (putBit (s.fld Fld.PWS_KEEP_KEEP_FAIL) b true)) 0x55 b

/-- The facets are powered again (R468): those whose trims hold restore them, the others calibrate; they anchor again at the
next boundary that R283 allows. -/
def facetsUp (s : State) (fail : Nat) : State :=
  let t := s.updPws (fun x => { x with facetsOff := false, quiet := false })
  let t := (List.range 4).foldl (fun t k => if fail.testBit k then t.updCva (fun x => { x with trims := x.trims.put k false }) else t) t
  let t := t.updRcs (fun r => { r with lockedAt := s.time.now, waitPulse := t.rcsLocked && t.syncMode == 2 })
  (List.range 4).foldl powerFacet t

/-- ARRAY_SLEEP_WAKE (R468). -/
def execArraySleepWake (fail : Fin 16) (s : State) : Out :=
  if s.pws.phase == .waking false && (!(s.fld Fld.PWS_PMIC_AUX_OFF).testBit 0 || s.pgOk 5) then
    let t := (setPhase (facetsUp s fail) .active).bump Fld.PWS_CNT0_WAKES
    .next (settle s (if fail.val = 0 then t else keepFailed t 7))
  else .next s

/-- A wake attempt from STANDBY fails (R473): the next one starts; after the fourth the part stays in STANDBY. -/
def wakeAttemptFail (s : State) (locked : Bool) : State :=
  if s.pws.phase != .waking true then s
  else
    let n := s.fld Fld.PWS_STATUS_ATTEMPTS
    let t := (setPmic s [0, 1, 2, 4, 5] false)
    let t := { t with boot := { t.boot with pll := false } }
    let t := if s.laneSource then t else setPmic t [3] false
    if n < 4 then setPmic (t.setFld Fld.PWS_STATUS_ATTEMPTS (n + 1)) [2, 3, 4] true
    else
      let t := (setPhase t .standby).flag Fld.PWS_STATUS_WAKE_FAILED true
      let t := reportFault (t.bump Fld.PWS_CNT0_WAKE_FAILS) 0x56 0
      match s.pws.dest with
      | some _ =>
        if s.laneSource && s.on Fld.PWS_LISTEN_MODE && locked then
          t.emit (.event (s.fld Fld.PWS_LISTEN_PORT) 2 s.fpe.evSeq [(0xFFFF, false, 0x811, 4)])
        else t
      | none => t

/-! ### Wake sources (R469, R470) -/

/-- WAKE_LANE_ENERGY (R469). -/
def execWakeLaneEnergy (s : State) : Out :=
  if s.laneSource && !s.on Fld.PWS_LISTEN_MODE && (s.pws.phase == .standby || s.pws.phase == .entering true) then
    .next (wakeSource s 1)
  else .next s

/-- Is a message a wake notification (R470)? -/
def State.wakeMsg (s : State) (typ rev kind : Nat) (elems : List (Nat × Nat)) : Bool :=
  typ == 7 && rev == 1 && kind == 2 && elems.any (fun e => e.2 == 0x810 && (e.1 == 0xFFFF || e.1 == s.fld Fld.FPE_RMA_CFG_ELEM))

/-- Does a port take wake frames now: the listening port in STRICT mode for STANDBY, any up port in ARRAY_SLEEP? -/
def State.wakePort (s : State) (port : Nat) : Bool :=
  match s.pws.phase with
  | .standby | .entering true => s.laneSource && s.on Fld.PWS_LISTEN_MODE && port == s.fld Fld.PWS_LISTEN_PORT
  | .array | .entering false => s.on Fld.PWS_WAKE_LANE && s.portUp port
  | _ => false

/-- WAKE_FRAME (R470); in ACTIVE the notification is discarded. -/
def execWakeFrame (port : Fin 8) (own : Bool) (typ rev kind : Nat) (elems : List (Nat × Nat)) (fcsOk transport : Bool) (s : State) : Out :=
  if own && fcsOk && transport && s.wakeMsg typ rev kind elems && s.wakePort port then .next (wakeSource s 2) else .next s

/-- WAKE_N_ASSERT (R469). -/
def execWakeNAssert (s : State) : Out := if s.wakeOn 3 then .next (wakeSource s 3) else .next s

/-- WAKE_TIMER (R470). -/
def execWakeTimer (s : State) : Out :=
  if s.pws.phase == .standby && s.pws.timer.isSome && s.wakeOn 4 then .next (wakeSource s 4) else .next s

/-! ### Trigger class 0x4 (R462) -/

/-- The action ARG[7:4] on the facets of ARG[3:0]. -/
def powerAction (s : State) (arg : Nat) : State :=
  match arg / 16 with
  | 1 => (bitsOf 4 (arg % 16)).foldl slotEnter s
  | 2 => (bitsOf 4 (arg % 16)).foldl slotLeave s
  | 3 => if s.wakeOn 4 then wakeSource s 4 else s
  | 4 => modeRequest s
  | _ => s

/-! ### The budget (R477, R478) -/

/-- Of the throttleable clients that satisfy a test, the best by an order. -/
def pickClient (ok : Nat → Bool) (better : Nat → Nat → Bool) : Option Nat :=
  ([7, 8, 9, 10].filter ok).foldl (fun b c => match b with
    | none => some c
    | some d => if better c d then some c else some d) none

/-- The client that is throttled next: the lowest PRIO below level 3, the higher number of equals. -/
def State.toThrottle (s : State) : Option Nat :=
  pickClient (fun c => s.fld (Fld.PWS_CLIENT_LEVEL c) < 3)
    (fun c d => s.fld (Fld.PWS_CLIENT_PRIO c) < s.fld (Fld.PWS_CLIENT_PRIO d)
      || (s.fld (Fld.PWS_CLIENT_PRIO c) == s.fld (Fld.PWS_CLIENT_PRIO d) && d < c))

/-- The client that is relieved next: the highest PRIO of those throttled, the lower number of equals. -/
def State.toRelieve (s : State) : Option Nat :=
  pickClient (fun c => s.on (Fld.PWS_CLIENT_LEVEL c))
    (fun c d => s.fld (Fld.PWS_CLIENT_PRIO d) < s.fld (Fld.PWS_CLIENT_PRIO c)
      || (s.fld (Fld.PWS_CLIENT_PRIO c) == s.fld (Fld.PWS_CLIENT_PRIO d) && c < d))

/-- One change of a client's level. -/
def setLevel (s : State) (c n : Nat) : State := (s.setFld (Fld.PWS_CLIENT_LEVEL c) n).bump Fld.PWS_CNT1_THROTTLES

/-- Throttle or relieve by TOTAL_MW. -/
def throttle (s : State) (total : Nat) : State :=
  let budget := s.fld Fld.PWS_BUDGET_BUDGET_MW
  if budget < total then
    match s.toThrottle with
    | some c => setLevel s c (s.fld (Fld.PWS_CLIENT_LEVEL c) + 1)
    | none => s
  else if 10 * total ≤ 9 * budget then
    match s.toRelieve with
    | some c => setLevel s c (s.fld (Fld.PWS_CLIENT_LEVEL c) - 1)
    | none => s
  else s

/-- PWR_OVER (R478): after 100 windows in a row over budget with every client at level 3, once until a window is within budget. -/
def watchBudget (s : State) (allThree : Bool) (total : Nat) : State :=
  if total ≤ s.fld Fld.PWS_BUDGET_BUDGET_MW then
    endCondition (s.updPws (fun x => { x with overRun := 0, overSaid := false })) 0x57 0
  else if !allThree then s.updPws (fun x => { x with overRun := 0 })
  else
    let t := s.updPws (fun x => { x with overRun := min 100 (x.overRun + 1) })
    if t.pws.overRun < 100 then t
    else if t.pws.overSaid then refreshCondition t 0x57 0
    else reportCondition (t.updPws (fun x => { x with overSaid := true })) 0x57 0

/-- The window in ticks. -/
def State.budgetWindow (s : State) : Nat := max 1 (s.fld Fld.PWS_BUDGET_WINDOW) * ticksMs

/-- Show the sum of the clients in TOTAL_MW, and the highest one in PEAK_MW. The spec does not say what TOTAL_MW shows of a sum
above 65,535: a free value (assumption log 2). -/
def showTotal (s : State) (total : Nat) : State :=
  let shown := if total < 65536 then total else (s.free 16).toNat
  let t := (s.setFld Fld.PWS_EST_TOTAL_MW shown).setFld Fld.PWS_EST_PEAK_MW (max (s.fld Fld.PWS_EST_PEAK_MW) shown)
  if total < 65536 then t else t.tookFree

/-- BUDGET_WINDOW (R477, R478): WINDOW ms after the last one. -/
def execBudgetWindow (est : List (Fin 65536)) (s : State) : Out :=
  if s.time.now < s.pws.winFrom + s.budgetWindow then .next s
  else
    let mw (c : Nat) : Nat := ((est.map (·.val)).getD c 0)
    let t := (List.range 14).foldl (fun t c => t.setFld (Fld.PWS_CLIENT_EST_MW c) (mw c)) s
    let total := ((List.range 14).map mw).foldl (· + ·) 0
    let t := showTotal t total
    let allThree := [7, 8, 9, 10].all (fun c => t.fld (Fld.PWS_CLIENT_LEVEL c) == 3)
    .next (watchBudget (throttle (t.updPws (fun x => { x with winFrom := s.time.now })) total) allThree total)

/-! ### Current ramps (R479, R480) -/

/-- A trigger of class 0x5 starts profile r in place of any ramp that runs. -/
def fireRamp (s : State) (r : Nat) : State :=
  let delta := min 120 (s.fld (Fld.PWS_RAMP_DELTA r))
  let steps := 10 * max 1 (s.fld (Fld.PWS_RAMP_RAMP_US r))
  let down := s.on (Fld.PWS_RAMP_DIR r)
  let t := s.updPws (fun x => { x with ramp := some { down, start := s.fld Fld.PWS_RAMP_STAT_BALLAST, delta, steps, since := s.time.now } })
  if down then t.setFld Fld.PWS_RAMP_STAT_BALLAST delta else t

/-- The ballast after n steps, as a quotient by the number of steps. -/
def Ramp.numer (r : Ramp) (n : Nat) : Nat :=
  if r.down then r.delta * (r.steps - n)
  else if r.start ≤ r.delta then r.start * r.steps + (r.delta - r.start) * n else r.start * r.steps - (r.start - r.delta) * n

/-- RAMP_BALLAST_STEP (R479): 100 ns after the last step the ballast moves along its line; the tick that ends the ramp takes it to
0. Between two steps of 0.1 A the spec does not say which, so the choice is a free value (assumption log 2). -/
def execRampBallastStep (s : State) : Out :=
  match s.pws.ramp with
  | none => .next s
  | some r =>
    if s.time.now < r.since + 80 * (r.made + 1) then .next s
    else
      let n := r.made + 1
      if r.steps ≤ n then .next ((s.updPws (fun x => { x with ramp := none })).setFld Fld.PWS_RAMP_STAT_BALLAST 0)
      else
        let q := r.numer n / r.steps
        let t := s.updPws (fun x => { x with ramp := some { r with made := n } })
        if r.numer n % r.steps = 0 then .next (t.setFld Fld.PWS_RAMP_STAT_BALLAST q)
        else .next ((t.setFld Fld.PWS_RAMP_STAT_BALLAST (q + (s.free 1).toNat)).tookFree)

end Sys2Proof.Machine
end

