-- ==== Sys2Proof/Machine/Mon.lean ====
section
/-! DEFINITION. Machine/Mon.lean: the monitor converters, their sequences and urgent queues, the cross-check and the thresholds
(R435 to R442). -/

namespace Sys2Proof.Machine

def State.madc (s : State) (x : Nat) : MadcState := s.mon.madc.at x
def State.updMadc (s : State) (x : Nat) (f : MadcState → MadcState) : State := s.updMon (fun m => { m with madc := m.madc.upd x f })

/-- Does a channel number name a channel (R435)? -/
def monChannel (ch : Nat) : Bool := ch < 55

/-- The duration of a conversion in ticks (R436, R440): SAMP + 16 cycles of 25 ns, or of 26.04 ns in STANDBY. -/
def State.convTicks (s : State) (samp : Nat) : Nat :=
  let n := max 4 (min 256 samp) + 16
  if s.pws.coreOff then (n * 125 + 5) / 6 else n * 20

/-- Show what a converter does in MON_x_STAT. -/
def showMadc (s : State) (x : Nat) : State :=
  let m := s.madc x
  let s := s.flag (Fld.MON_STAT_BUSY x) m.job.isSome
  let s := s.flag (Fld.MON_STAT_SEQ_RUN x) m.seqRun
  s.setFld (Fld.MON_STAT_URG_LVL x) m.urgent.length

/-- A conversion starts. -/
def startConv (s : State) (x : Nat) (j : MonJob) : State := s.updMadc x (fun m => { m with job := some (j, s.time.now) })

/-- The sequence entry that runs next: the first enabled one at or after SEQ_POS (R438). -/
def State.seqEntry (s : State) (x : Nat) : Option Nat :=
  ((List.range 16).map (fun i => (s.fld (Fld.MON_STAT_SEQ_POS x) + i) % 16)).find? (fun e => s.on (Fld.MON_SEQ_EN x e))

/-- The next conversion of the sequence starts; an entry of a reserved channel converts nothing, sets BAD_CH and is passed over,
and with no entry enabled nothing runs. -/
def seqNext (s : State) (x : Nat) (tries : Nat := 16) : State :=
  match tries with
  | 0 => s.updMadc x (fun m => { m with seqRun := false })
  | n + 1 =>
    match s.seqEntry x with
    | none => s.updMadc x (fun m => { m with seqRun := false })
    | some e =>
      let s := s.setFld (Fld.MON_STAT_SEQ_POS x) e
      let ch := s.fld (Fld.MON_SEQ_CH x e)
      if monChannel ch then startConv s x { kind := .seq, ch, samp := s.fld (Fld.MON_SEQ_SAMP x e) }
      else seqNext ((s.flag (Fld.MON_STAT_BAD_CH x) true).setFld (Fld.MON_STAT_SEQ_POS x) ((e + 1) % 16)) x n

/-- What the core does at a conversion boundary (R438, R439): the head of the urgent queue, else the sequence. An entry that is
interrupted loses its partial average. -/
def monBoundary (s : State) (x : Nat) : State :=
  let m := s.madc x
  match m.urgent with
  | j :: rest => startConv (s.updMadc x (fun m => { m with urgent := rest, seqCnt := 0, seqSum := 0 })) x j
  | [] =>
    let s := s.updMadc x (fun m => { m with job := none })
    if m.seqRun then seqNext s x else s

/-- Put an urgent request into a queue (R439): it starts at once on an idle core. The flag says whether it was taken. -/
def urgent (s : State) (x : Nat) (j : MonJob) : State × Bool :=
  if !monChannel j.ch then (s.flag (Fld.MON_STAT_BAD_CH x) true, false)
  else if (s.madc x).job.isNone then (showMadc (startConv s x j) x, true)
  else if 4 ≤ (s.madc x).urgent.length then (s.bump (Fld.MON_CNT_URG_DROP x), false)
  else (showMadc (s.updMadc x (fun m => { m with urgent := m.urgent ++ [j] })) x, true)

/-- A start pulse (R437): it restarts the idle timer and ends the sequence run; a busy core drops it. -/
def monPulse (s : State) (x : Nat) : State :=
  let busy := (s.madc x).job.isSome
  let ch := s.fld (Fld.MON_SEL_CH x)
  let inEntry := (s.madc x).seqRun && busy
  let s := s.updMadc x (fun m => { m with lastPulse := s.time.now, endRun := inEntry, seqRun := inEntry })
  let s := if busy then s.bump (Fld.MON_CNT_START_DROP x)
    else if !monChannel ch then s.flag (Fld.MON_STAT_BAD_CH x) true
    else startConv s x { kind := .pulse, ch, samp := s.fld (Fld.MON_SEL_SAMP x) }
  showMadc s x

/-- MON_GO (R437). -/
def execMonGo (x : Fin 2) (v : Word) (s : State) : Out := .next (monPulse (s.writeRw (Reg.MON_SEL x) v) x)

/-- MON_SEQUENCE_START (R438). -/
def execMonSequenceStart (x : Fin 2) (s : State) : Out :=
  let m := s.madc x
  if m.seqRun || (s.seqEntry x).isNone || !(s.pws.coreOff || m.lastPulse + 100 * ticksUs ≤ s.time.now) then .next s
  else
    let t := s.updMadc x (fun m => { m with seqRun := true, endRun := false, seqCnt := 0, seqSum := 0 })
    .next (showMadc (if m.job.isNone then seqNext t x else t) x)

/-- MON_URGENT_REQUEST (R439, R229): detector conversions go to MADC_A. -/
def execMonUrgentRequest (x : Fin 2) (det : Option (Fin 64)) (v : Word) (s : State) : Out :=
  match det with
  | some p => .next (urgent s 0 { kind := .detector p, ch := s.fld (Fld.LDE_PATH_LOOP_DET_CH p), samp := fieldOf 22 9 v }).1
  | none => .next (urgent s x { kind := .host, ch := fieldOf 0 6 v, samp := fieldOf 22 9 v }).1

/-! ### Cross-check (R441) -/

/-- PLAUSIBILITY_REQUEST (R441). -/
def execPlausibilityRequest (s : State) : Out :=
  if s.time.now < s.mon.plausAt + ticksMs then .next s
  else
    let j : MonJob := { kind := .plaus, ch := 54, samp := 16 }
    let a := urgent s 0 j
    let b := urgent a.1 1 j
    .next (b.1.updMon (fun m => { m with plausA := none, plausB := none, plausAt := s.time.now, plausSkip := !(a.2 && b.2) }))

/-- Compare the two plausibility codes (R441). -/
def comparePlaus (s : State) (a b : Nat) : State :=
  if 16 < max a b - min a b then
    let n := s.mon.differ + 1
    let s := s.updMon (fun m => { m with differ := n, agreeFrom := none })
    if 3 ≤ n then reportCondition (s.flag Fld.MON_STATUS_DISAGREE true) 0x53 0 else s
  else
    let from_ := s.mon.agreeFrom.getD s.time.now
    let s := s.updMon (fun m => { m with differ := 0, agreeFrom := some from_ })
    if s.on Fld.MON_STATUS_DISAGREE && from_ + s.quietPeriod ≤ s.time.now then
      endCondition (s.flag Fld.MON_STATUS_DISAGREE false) 0x53 0
    else s

/-- A plausibility result of converter x. -/
def takePlaus (s : State) (x code : Nat) : State :=
  let s := if x = 0 then (s.setFld Fld.MON_STATUS_PLAUS_A code).updMon (fun m => { m with plausA := some code })
    else (s.setFld Fld.MON_STATUS_PLAUS_B code).updMon (fun m => { m with plausB := some code })
  match s.mon.plausA, s.mon.plausB with
  | some a, some b => if s.mon.plausSkip then s else comparePlaus s a b
  | _, _ => s

/-! ### Thresholds (R442) -/

/-- The latest results of a channel that may be used: of both converters, no older than 10 ms. -/
def State.freshResults (s : State) (ch : Nat) : List Nat :=
  [0, 1].filterMap (fun x => match (s.madc x).latest.at ch with
    | some (code, t) => if s.time.now ≤ t + 10 * ticksMs then some code else none
    | none => none)

/-- The values that the high and the low limit are evaluated against. -/
def State.evaluated (s : State) (ch code : Nat) : Nat × Nat :=
  if s.on Fld.MON_STATUS_DISAGREE then
    let l := s.freshResults ch
    (l.foldl max code, l.foldl min code)
  else (code, code)

/-- The fault kind of a threshold's channel. -/
def thresholdKind (ch : Nat) : Nat := if 41 ≤ ch && ch ≤ 52 then 0x50 else 0x52

/-- A crossing: its actions once while ACTIVE (R442). -/
def crossing (s : State) (t ch : Nat) (hi lo : Bool) : State :=
  let s := if hi then s.flag (Fld.MON_THR_STAT_HI_X t) true else s
  let s := if lo then s.flag (Fld.MON_THR_STAT_LO_X t) true else s
  if s.on (Fld.MON_THR_STAT_ACTIVE t) then
    if s.on (Fld.MON_THR_CFG_FAULT t) then refreshCondition s (thresholdKind ch) ch else s
  else
    let s := s.flag (Fld.MON_THR_STAT_ACTIVE t) true
    let s := if s.on (Fld.MON_THR_CFG_EVT t) then s.ceEvent 3 9 else s
    let s := if s.on (Fld.MON_THR_CFG_FAULT t) then reportCondition s (thresholdKind ch) ch else s
    if s.on (Fld.MON_THR_CFG_WAKE t) && s.wakeOn 5 then wakeSource s 5 else s

/-- Is a reported threshold of a channel still ACTIVE? -/
def State.thresholdStands (s : State) (ch : Nat) : Bool :=
  (List.range 16).any (fun u => s.on (Fld.MON_THR_STAT_ACTIVE u) && s.on (Fld.MON_THR_CFG_FAULT u) && s.fld (Fld.MON_THR_CFG_CH u) == ch)

/-- Threshold t evaluates a result of its channel. While DISAGREE is 1 two values are evaluated, and the spec does not say which of
them LAST shows: it is a free choice of the two (assumption log 2). -/
def evaluate (s : State) (t ch code : Nat) : State :=
  let v := s.evaluated ch code
  let s := if v.1 = v.2 then s.setFld (Fld.MON_THR_STAT_LAST t) v.1
    else (s.setFld (Fld.MON_THR_STAT_LAST t) (if s.free 1 = 0 then v.1 else v.2)).tookFree
  let hyst := s.fld (Fld.MON_THR_CFG_HYST t)
  let hi := s.fld (Fld.MON_THR_LIM_HI t)
  let lo := s.fld (Fld.MON_THR_LIM_LO t)
  if hi < v.1 || v.2 < lo then crossing s t ch (hi < v.1) (v.2 < lo)
  else if s.on (Fld.MON_THR_STAT_ACTIVE t) && v.1 + hyst ≤ hi && lo + hyst ≤ v.2 then
    let s := s.flag (Fld.MON_THR_STAT_ACTIVE t) false
    if s.thresholdStands ch then s else endCondition s (thresholdKind ch) ch
  else s

/-! ### Results -/

/-- A result is written: what others see of it (R442, R451). -/
def monResult (s : State) (x ch code : Nat) : State :=
  let s := s.updMadc x (fun m => { m with latest := m.latest.put ch (some (code, s.time.now)) })
  let s := pmonSample s 8 (some ch) code
  (List.range 16).foldl (fun s t =>
    if s.on (Fld.MON_THR_CFG_EN t) && s.fld (Fld.MON_THR_CFG_CH t) == ch then evaluate s t ch code else s) s

/-- A result word: VALID, CH and CODE. -/
def resultWord (ch code : Nat) : Word := BitVec.ofNat 32 (2 ^ 31 + ch % 64 * 2 ^ 24 + code % 4096)

/-- One conversion of a sequence entry (R438): the last one writes the rounded mean, and a run that was to end does. -/
def seqResult (s : State) (x ch code : Nat) : State :=
  let e := s.fld (Fld.MON_STAT_SEQ_POS x)
  let n := 2 ^ min 6 (s.fld (Fld.MON_SEQ_AVG x e))
  let m := s.madc x
  let sum := m.seqSum + code
  if m.seqCnt + 1 < n then s.updMadc x (fun m => { m with seqCnt := m.seqCnt + 1, seqSum := sum })
  else
    let mean := (2 * sum + n) / (2 * n)
    let s := (s.flag (Fld.MON_SRES_VALID x e) true).setFld (Fld.MON_SRES_CODE x e) mean
    let s := s.setFld (Fld.MON_STAT_SEQ_POS x) ((e + 1) % 16)
    let s := s.updMadc x (fun m => { m with seqCnt := 0, seqSum := 0, seqRun := !m.endRun, endRun := false })
    monResult s x ch mean

/-- MON_CONVERSION_DONE (R436 to R442). -/
def execMonConversionDone (x : Fin 2) (code : Fin 4096) (s : State) : Out :=
  match (s.madc x).job with
  | none => .next s
  | some (j, t) =>
    if s.time.now < t + s.convTicks j.samp then .next s
    else
      let u := match j.kind with
        | .pulse => monResult (s.wr (Reg.MON_RES x) (resultWord j.ch code)) x j.ch code
        | .host => monResult (s.wr (Reg.MON_URES x) (resultWord j.ch code)) x j.ch code
        | .seq => seqResult s x j.ch code
        | .detector _ => monResult s x j.ch code
        | .plaus => takePlaus (monResult s x j.ch code) x code
      .next (showMadc (monBoundary u x) x)

end Sys2Proof.Machine
end

