-- ==== Sys2Proof/Machine/Fen.lean ====
section
/-! DEFINITION. Machine/Fen.lean: the front-end buses and the FETABLE group (R443 to R447), the TDD strobe and ORXSEL patterns (R448
to R450), and the mean-level limiter of the Locket (R454). -/

namespace Sys2Proof.Machine

def State.feb (s : State) (k : Nat) : FebState := s.mon.feb.at k
def State.updFeb (s : State) (k : Nat) (f : FebState → FebState) : State := s.updMon (fun m => { m with feb := m.feb.upd k f })

/-- Start the next entry of the list, if there is one (R443, R444): the table is read as it starts. `gap` is the ticks it has still
to wait. -/
def febStart (s : State) (k gap : Nat) : State :=
  match (s.feb k).todo with
  | [] => (s.updFeb k (fun b => { b with cur := none })).flag (Fld.FEN_FACET_STAT_BUSY k) false
  | i :: rest =>
    let e : FebEntry := { ctl := s.rd (Reg.FEN_FACET_E_CTL k i), dat := s.rd (Reg.FEN_FACET_E_DAT k i), start := s.time.now + gap }
    (s.updFeb k (fun b => { b with cur := some e, todo := rest })).flag (Fld.FEN_FACET_STAT_BUSY k) true

/-- The entries that a play of facet k sends (R446): those of the descriptor at POS, by the committed generation. -/
def State.playEntries (s : State) (k : Nat) : List Nat :=
  let d := s.fld (Fld.FEN_FACET_CTL_POS k)
  (List.range (min 64 (s.active (Fld.FEN_FACET_D_COUNT k d)))).map (fun i => (s.active (Fld.FEN_FACET_D_START k d) + i) % 512)

/-- A list plays (R443, R446, R447): POS advances; a list still being sent loses its rest. -/
def playList (s : State) (k : Nat) : State :=
  if !s.on (Fld.FEN_FACET_BUS_EN k) then s
  else
    let l := s.playEntries k
    let s := s.setFld (Fld.FEN_FACET_CTL_POS k)
      ((s.fld (Fld.FEN_FACET_CTL_POS k) + 1) % (s.active (Fld.FEN_FACET_RING_RLEN k) + 1))
    let s := if (s.feb k).cur.isSome then s.bump (Fld.FEN_FACET_STAT_OVERRUN k) else s
    let s := s.updFeb k (fun b => { b with todo := l, played := some s.time.now })
    if (s.feb k).cur.isSome then s else febStart s k 0

/-- Commit FETABLE of facet k and play (R445, R446). -/
def commitFe (s : State) (k : Nat) : State :=
  playList ((commitGroup s (.fetable k) s.cyc).setFld (Fld.FEN_FACET_CTL_POS k) 0) k

/-- Has the group of facet k a boundary now: its timeline is realised, or is not enabled (R445)? -/
def State.feBoundary (s : State) (k : Nat) : Bool := s.realises k || !s.on (Fld.TIM_AIR_CFG_EN (s.refTimeline k))

/-- FETABLE_COMMIT (R445, R446). -/
def execFetableCommit (k : Fin 4) (s : State) : Out :=
  if s.feBoundary k && s.armedBefore (.fetable k) s.cyc then .next (commitFe s k) else .next s

/-- A trigger of class 0x2 for facet k (R446): it commits when ARM was set outside the fence; a commit and a firing in one tick
make one play. -/
def feFire (s : State) (k : Nat) : State :=
  if s.armedBefore (.fetable k) s.cyc then commitFe s k
  else if (s.feb k).played == some s.time.now then s
  else playList s k

/-- A field of an entry's CTL word. -/
def febLen (ctl : Word) : Nat := if fieldOf 16 5 ctl = 0 then 32 else fieldOf 16 5 ctl
def febGap (ctl : Word) : Nat := max 1 (fieldOf 27 4 ctl)

/-- Some bus clock periods in ticks (R443): 4 ns × DIV. -/
def State.febTicks (s : State) (k n : Nat) : Nat := (n * 4 * max 5 (s.fld (Fld.FEN_FACET_BUS_DIV k)) * 4 + 4) / 5

/-- FEB_ENTRY_DONE (R443): what was sent, the word read, and the next entry after the gap. -/
def execFebEntryDone (k : Fin 4) (miso : Word) (s : State) : Out :=
  match (s.feb k).cur with
  | none => .next s
  | some e =>
    let len := febLen e.ctl
    if s.time.now < e.start + s.febTicks k (len + 1) then .next s
    else
      let read := e.ctl.getLsbD 31
      let s := s.emit (.feb k read len (e.dat.toNat % 2 ^ len))
      let s := if !read then s
        else if 16 ≤ (s.feb k).rd.length then s.bump (Fld.FEN_FACET_STAT_RD_OVF k)
        else
          let s := s.updFeb k (fun b => { b with rd := b.rd ++ [BitVec.ofNat 32 (miso.toNat % 2 ^ len)] })
          s.setFld (Fld.FEN_FACET_STAT_RD_LVL k) (s.feb k).rd.length
      .next (febStart s k (s.febTicks k (febGap e.ctl)))

/-- A read of FEN_FACETk_RD pops the read FIFO; empty it returns 0 (R458). -/
def popFeb (s : State) (k : Nat) : State × Word :=
  match (s.feb k).rd with
  | [] => (s, 0)
  | w :: rest => ((s.updFeb k (fun b => { b with rd := rest })).setFld (Fld.FEN_FACET_STAT_RD_LVL k) rest.length, w)

/-- FEB_RD_POP. -/
def execFebRdPop (path : Path) (k : Fin 4) (s : State) : Out :=
  let r := popFeb s k
  .next (r.1.emit (.read (pathCode path) (Reg.FEN_FACET_RD k) (some r.2.toNat)))

/-- A write of FEN_FACETk_BUS (R443): with EN at 0 nothing is sent. -/
def writeFebBus (s : State) (k : Nat) (v : Word) : State :=
  let t := s.writeRw (Reg.FEN_FACET_BUS k) v
  if t.on (Fld.FEN_FACET_BUS_EN k) then t
  else (t.updFeb k (fun b => { b with cur := none, todo := [] })).flag (Fld.FEN_FACET_STAT_BUSY k) false

/-! ### Strobes and ORXSEL -/

/-- A pattern step of trigger class 0x1 (R448, R449): a CUT ends at a step to 1 while nothing drives the strobe to 0. -/
def tddStep (s : State) (r : Nat) : State :=
  let mask := s.fld (Fld.FEN_TDD_MASK r)
  let lvl := s.fld (Fld.FEN_TDD_LEVEL r)
  let t := s.updMon (fun m => { m with stepped := Nat.lor m.stepped mask
                                       pattern := maskOf 16 (fun i => if mask.testBit i then lvl.testBit i else m.pattern.testBit i) })
  let frees (i : Nat) : Bool := mask.testBit i && lvl.testBit i && !t.strobeQuiet i
    && !(t.fld Fld.LKT_DUTY_DUTY_MAX < 1000 && decide (t.dutyTicks i ≥ t.fld Fld.LKT_DUTY_DUTY_MAX * 8000))
  settleStrobes (t.setFld Fld.FEN_STB_STAT_CUT (maskOf 16 (fun i => (t.fld Fld.FEN_STB_STAT_CUT).testBit i && !frees i)))

/-- A pattern step of trigger class 0x3 (R215, R450): the lines of each ORX with AUTO at 0. -/
def orxRow (s : State) (r : Nat) : State :=
  let mask := s.fld (Fld.FEN_ORX_MASK_MASK r)
  let lvl := s.fld (Fld.FEN_ORX_LVL_LEVEL r)
  let now := s.fld Fld.FEN_ORX_STAT_LEVEL
  let next := maskOf 24 (fun l => if mask.testBit l then lvl.testBit l else now.testBit l)
  (List.range 8).foldl (fun s j => orxStep s j (next / 2 ^ (3 * j) % 8)) s

/-! ### The mean-level limiter (R454) -/

/-- Is the mean of a block above L, multiplied by (g ÷ 2^14)²: sum × g² > 2^42 × 2^28 × 10^(LMAX ÷ 100), raised to the 100th
power? -/
def overLevel (lmax : Int) (sum g : Nat) : Bool :=
  if 0 ≤ lmax then decide ((2 ^ 70) ^ 100 * 10 ^ lmax.toNat < (sum * g * g) ^ 100)
  else decide ((2 ^ 70) ^ 100 < (sum * g * g) ^ 100 * 10 ^ (-lmax).toNat)

/-- The largest gain in 2^-14 that brings a block within L: the 14 bits from the highest down. -/
def limiterGain (lmax : Int) (sum : Nat) : Nat :=
  (List.range 15).foldl (fun g i =>
    let h := g + 2 ^ (14 - i)
    if overLevel lmax sum h then g else h) 0

/-- LEVEL_LIMIT_BLOCK (R454), with what the datapath counted over the block: saturated components of the linearisation, residual peaks
and saturated DAC codes (R198, R200, R241; assumption log 12). -/
def execLevelLimitBlock (p : Fin 64) (sum satDpd resid satDac : Nat) (s : State) : Out :=
  let lmax := s.sfld Fld.LKT_LEVEL_LMAX
  let s := ((s.bump (Fld.LDE_PATH_CNT0_SAT_DPD p) satDpd).bump (Fld.LDE_PATH_CNT0_CFR_RESID p) resid).bump (Fld.CVA_TX_CNT0_SAT_DAC p) satDac
  if overLevel lmax sum 16384 then
    .next ((s.bump (Fld.LKT_PATH_CNT_LVL_CLIP p)).updMon (fun m => { m with limGain := m.limGain.put p (limiterGain lmax sum) }))
  else .next (s.updMon (fun m => { m with limGain := m.limGain.put p 16384 }))

end Sys2Proof.Machine
end

