-- ==== Sys2Proof/Machine/Locket.lean ====
section
/-! DEFINITION. Machine/Locket.lean: the seal of the Locket, its load at boot, and the JTAG challenge (R453, R456, R457). -/

namespace Sys2Proof.Machine

/-- The Locket's registers that OTP holds: ranges, level, duty and key hash (R453, R456). -/
def locketRegs : List Nat :=
  (List.range 8).flatMap (fun n => [Reg.LKT_RNG_LO n, Reg.LKT_RNG_HI n]) ++ [Reg.LKT_LEVEL, Reg.LKT_DUTY]
    ++ (List.range 12).map Reg.LKT_JKEY

/-- LOCKET_SEAL_FIRST (R456). -/
def sealFirst (s : State) (path : Nat) : State := s.updMon (fun m => { m with sealOpen := putBit m.sealOpen path true })

def execLocketSealFirst (path : Path) (s : State) : Out := .next (sealFirst s (pathCode path))

/-- May the Locket be sealed by this path's access now (R456)? -/
def State.sealOk (s : State) (path : Nat) : Bool :=
  s.mon.sealOpen.testBit path && !s.on Fld.LKT_STAT_SEALED && !s.on Fld.LKT_STAT_SEAL_BUSY
    && (List.range 4).all (fun k => !s.on (Fld.CVA_FACET_CFG_EN k))
    && (List.range 8).all (fun n => !s.on (Fld.LKT_RNG_LO_EN n) || s.fld (Fld.LKT_RNG_LO_F_KHZ n) ≤ s.fld (Fld.LKT_RNG_HI_F_KHZ n))

/-- LOCKET_SEAL_SECOND (R456). -/
def sealSecond (s : State) (path : Nat) : State :=
  let ok := s.sealOk path
  let t := if ok then s.flag Fld.LKT_STAT_SEAL_BUSY true else s.flag Fld.LKT_STAT_SEAL_ERR true
  t.updMon (fun m => { m with sealOpen := putBit m.sealOpen path false, sealJtag := if ok then path == pathCode .jtag else m.sealJtag })

def execLocketSealSecond (path : Path) (s : State) : Out := .next (sealSecond s (pathCode path))

/-- LOCKET_SEAL_DONE (R456). -/
def execLocketSealDone (s : State) : Out :=
  if s.on Fld.LKT_STAT_SEAL_BUSY then
    let t := (s.flag Fld.LKT_STAT_SEAL_BUSY false).flag Fld.LKT_STAT_SEALED true
    .next (t.updMon (fun m => { m with otp := some (locketRegs.map s.rd) }))
  else .next s

/-- The Locket at boot (R456): a sealed one is loaded and checked. What a partly written OTP gives is free (assumption log 2); its
CRC fails, and LOCKET_CRC is reported. -/
def loadLocket (s : State) : State :=
  match s.mon.otp with
  | none => s
  | some l =>
    let s := s.flag Fld.LKT_STAT_SEALED true
    if s.mon.otpBad then
      let s := locketRegs.foldl (fun s a => (s.wr a (s.free 32)).tookFree) s
      reportCondition (s.flag Fld.LKT_STAT_CRC_OK false) 0x54 0
    else (locketRegs.zip l).foldl (fun s e => s.wr e.1 e.2) s

/-! ### The challenge (R457) -/

/-- Draw a new nonce: 128 bits that the spec does not state (assumption log 2). -/
def drawNonce (s : State) : State :=
  (List.range 4).foldl (fun s w => (s.setFld (Fld.LKT_CHAL_NONCE w) (s.free 32).toNat).tookFree) s

/-- The bytes of a list of registers, most significant first. -/
def State.regBytes (s : State) (l : List Nat) : List Byte := l.flatMap (fun a => (bytesOf (s.rd a).toNat 4).map (BitVec.ofNat 8))

/-- Is an answer right: the key's hash is LKT_JKEY, and the signature covers the nonce and the die identifier? -/
def State.answerOk (s : State) (key sig : List Byte) : Bool :=
  Config.sha384 key == s.regBytes ((List.range 12).map Reg.LKT_JKEY)
    && Config.ecdsaP384 key (Config.sha384 (s.regBytes ((List.range 4).map Reg.LKT_CHAL ++ [Reg.BOOT_DIEID_HI, Reg.BOOT_DIEID_LO]))) sig

/-- CHAL_CHECK_DONE (R457): CE0 judges the answer it holds; after 8 failures no answer is accepted. -/
def execChalCheckDone (s : State) : Out :=
  match s.acc.jtag.answer with
  | none => .next s
  | some (key, sig) =>
    let s := { s with acc := { s.acc with jtag := { s.acc.jtag with answer := none } } }
    if 8 ≤ s.fld Fld.LKT_STAT_CHAL_FAIL then .next s
    else if s.answerOk key sig then .next (s.flag Fld.LKT_STAT_JTAG_OPEN true)
    else .next (drawNonce (s.setFld Fld.LKT_STAT_CHAL_FAIL (s.fld Fld.LKT_STAT_CHAL_FAIL + 1)))

end Sys2Proof.Machine
end

