-- ==== Sys2Proof/Machine/Triggers.lean ====
section
/-! DEFINITION. Machine/Triggers.lean: the 64 trigger channels and their actions (R42 to R46, R568, R572), the steps of the PHC that
pass over trigger times (R58), and the servo's updates and captures that act with them (R27, R35, R37, R47). -/

namespace Sys2Proof.Machine

/-! ### Actions (R45 table) -/

/-- An explicit GO of a shadow group (R568): the firing counts as a boundary of the group; FETABLE also plays. -/
def explicitGo (s : State) (g : ShGroup) : State :=
  match g with
  | .fetable k => feFire s k
  | .ncoplan k => if s.realises k && s.armedBefore g s.cyc then commitNco s k s.cyc else s
  | .symcfg c => if s.realises (c / 8) && s.armedBefore g s.cyc then commitGroup s g s.cyc else s
  | .dpdbank p => if s.realises (p / 16) && s.armedBefore g s.cyc then commitBank s p s.cyc else s
  | .txrange p =>
    if s.realises (p / 16) && s.on (Fld.CVA_FACET_STAT_READY (p / 16)) && s.armedBefore g s.cyc then commitRange s p s.cyc true else s

/-- The action of trigger n: its class and argument; a class without a target sets FIRED only. -/
def triggerAction (s : State) (n : Nat) : State :=
  let a := s.fld (Fld.TIM_TRG_CFG_ARG n)
  match s.fld (Fld.TIM_TRG_CFG_CLASS n) with
  | 0x1 => tddStep s (a % 64)
  | 0x2 => feFire s (a % 4)
  | 0x3 => orxRow s (a % 32)
  | 0x4 => powerAction s a
  | 0x5 => fireRamp s (a % 8)
  | 0x6 => rcsTune s (a % 64)
  | 0x7 => match groupOfCode a with
    | some g => explicitGo s g
    | none => s
  | 0x8 => s.updCva (fun x => { x with gpioKept := x.gpioKept.put (a % 16) (some (a.testBit 4)) })
  | 0x9 => s.ceEvent (a % 4) (16 + n % 16)
  | 0xA => hostCapture s (a % 8)
  | _ => s

/-- Trigger n fires: FIRED and its action. -/
def fireTrigger (s : State) (n : Nat) : State := triggerAction (s.flag (Fld.TIM_TRG_STAT_FIRED n) true) n

/-! ### PHC mode -/

/-- Is trigger n armed in PHC mode? -/
def State.trgPhc (s : State) (n : Nat) : Bool := s.on (Fld.TIM_TRG_CFG_ARM n) && !s.on (Fld.TIM_TRG_CFG_MODE n)

/-- The time of trigger n in ns, with seconds[47:32] of a PHC (R42). -/
def State.trgTime (s : State) (n : Nat) (p : Phc) : Nat :=
  (p.sec / 2 ^ 32 * 2 ^ 32 + s.fld (Fld.TIM_TRG_TIME_HI_SEC n)) * 1000000000 + s.fld (Fld.TIM_TRG_TIME_LO_NS n)

/-- The period of trigger n in ns: 1 to 99 act as 100 (R42). -/
def State.trgPeriod (s : State) (n : Nat) : Nat := max 100 (s.fld (Fld.TIM_TRG_PERIOD_PERIOD n))

/-- Set the time of trigger n. -/
def setTrgTime (s : State) (n t : Nat) : State :=
  (s.setFld (Fld.TIM_TRG_TIME_LO_NS n) (t % 1000000000)).setFld (Fld.TIM_TRG_TIME_HI_SEC n) (t / 1000000000)

/-- After a firing (R42): a one-shot disarms, a periodic one passes `k` instances on. -/
def advanceTrg (s : State) (n k : Nat) : State :=
  if s.fld (Fld.TIM_TRG_PERIOD_PERIOD n) = 0 then s.flag (Fld.TIM_TRG_CFG_ARM n) false
  else setTrgTime s n (s.trgTime n s.time.phc + k * s.trgPeriod n)

/-- TRIGGER_FIRE (R42). -/
def execTriggerFire (n : Fin 64) (s : State) : Out :=
  if s.trgPhc n && s.trgTime n s.time.phc ≤ s.phcNs then .next (fireTrigger (advanceTrg s n 1) n) else .next s

/-! ### AIR mode -/

/-- OFS of trigger n in ns. -/
def State.trgOfs (s : State) (n : Nat) : Int := s.sfld (Fld.TIM_TRG_TIME_LO_NS n)

/-- Does the facet realise the boundary an AIR-mode instance belongs to (R572)? While a realignment mutes the timeline: a boundary
before the muting one, or from the re-anchor on. -/
def State.trgBoundary (s : State) (n : Nat) : Bool :=
  let c := s.fld (Fld.TIM_TRG_CFG_CAR n)
  let l := s.line c
  s.on (Fld.TIM_AIR_CFG_EN c) && l.running && (s.facetT (c / 8)).anchored
    && (!l.muted || decide ((s.time.now : Int) * 5 - s.trgOfs n * 4 < (l.mutedAt : Int) * 5)
        || decide (((s.facetT (c / 8)).reanchorNs : Int) + s.trgOfs n ≤ s.phcNs + 2))

/-- TRIGGER_FIRE_AIR (R43, R572). -/
def execTriggerFireAir (n : Fin 64) (sym : Fin 14) (s : State) : Out :=
  if s.on (Fld.TIM_TRG_CFG_ARM n) && s.on (Fld.TIM_TRG_CFG_MODE n) && (s.fld (Fld.TIM_TRG_TIME_HI_SEC n)).testBit sym
      && decide (sym.val < perSlot (s.ecp (s.fld (Fld.TIM_TRG_CFG_CAR n)))) && s.trgBoundary n then
    .next (fireTrigger s n)
  else .next s

/-! ### Arming -/

/-- Are the values of trigger n refused when ARM is set (R45)? -/
def State.trgBad (s : State) (n : Nat) : Bool :=
  if s.on (Fld.TIM_TRG_CFG_MODE n) then 500000 < (s.trgOfs n).natAbs
  else 1000000000 ≤ s.fld (Fld.TIM_TRG_TIME_LO_NS n)

/-- A write of TIM_TRGn_CFG (R45). -/
def writeTrgCfg (s : State) (n : Nat) (v : Word) : State :=
  let s := s.writeRw (Reg.TIM_TRG_CFG n) v
  if !s.on (Fld.TIM_TRG_CFG_ARM n) then s
  else if s.trgBad n then (s.flag (Fld.TIM_TRG_CFG_ARM n) false).flag (Fld.TIM_TRG_STAT_BAD n) true
  else if s.trgPhc n && s.trgTime n s.time.phc < s.phcNs then
    fireTrigger ((advanceTrg s n 1).flag (Fld.TIM_TRG_STAT_LATE n) true) n
  else s

/-- TRIGGER_ARM: a write with ARM at 1. -/
def execTriggerArm (n : Fin 64) (cfg : Word) (s : State) : Out := .next (writeTrgCfg s n (setField 31 1 cfg 1))

/-! ### Steps (R58) -/

/-- The number of instances of trigger n that a step from `old` to `new` ns passes over. -/
def passedOver (t old new per : Nat) (oneShot : Bool) : Nat :=
  let first := if old < t then 0 else if oneShot then 1 else (old - t) / per + 1
  if oneShot then (if first = 0 && t ≤ new then 1 else 0)
  else if new < t + first * per then 0
  else (new - (t + first * per)) / per + 1

/-- Trigger n in the tick of a forward step: it fires once with SKIPPED for the instances passed over. -/
def skipTrigger (old new : Nat) (s : State) (n : Nat) : State :=
  let per := s.trgPeriod n
  let one := s.fld (Fld.TIM_TRG_PERIOD_PERIOD n) == 0
  let t := s.trgTime n s.time.phc
  let m := passedOver t old new per one
  if !s.trgPhc n || m = 0 then s
  else
    let s := advanceTrg s n ((new - t) / per + 1)
    let s := (s.flag (Fld.TIM_TRG_STAT_SKIPPED n) true).bump (Fld.TIM_TRG_STAT_SKIP_CNT n) (m - 1)
    fireTrigger s n

/-- A step of the PHC to `p`, with the triggers it passes over, in ascending channel order (R46, R58). -/
def stepPhc (s : State) (p : Phc) : State :=
  let old := s.phcNs
  let t := phcStep s p
  if old < p.total then (List.range 64).foldl (skipTrigger old p.total) t else t

/-- TIM_LOAD (R27, R28): ADJ_GO in the same write adds the adjustment to it. -/
def execTimLoad (ce2 adj : Bool) (s : State) : Out :=
  if s.servoOwns ce2 then .next s
  else .next (stepPhc s (if adj then s.loadValue.move s.adjFine else s.loadValue))

/-- TIM_ADJ_GO (R27, R28). -/
def execTimAdjGo (ce2 : Bool) (s : State) : Out :=
  if s.servoOwns ce2 then .next s else .next (stepPhc s (s.time.phc.move s.adjFine))

/-! ### Servo updates (R34 to R37) -/

/-- Does the servo clause run: CE2 is running (R36)? -/
def State.servoRuns (s : State) : Bool := s.on (Fld.CLS_CE_CTRL_RUN 2)

/-- One update with offset `off` in 2^-16 ns: the registers and states, and the step or the slew. -/
def updateServo (s : State) (off : Int) : State :=
  let t := pmonSample (servoUpdate s off) 10 none (off / 2 ^ 16)
  if s.servoSteps off then stepPhc t (t.time.phc.move (-(off * 2 ^ 16))) else t

/-- SERVO_UPDATE (R34 to R36): the tuple is taken; it counts when it comes from the parent clock at a port that may be slave. -/
def execServoUpdate (port : Fin 8) (seq : Fin 65536) (parent : Bool) (s : State) : Out :=
  match s.tuple port seq with
  | none => .next s
  | some t =>
    if !t.full || !s.servoRuns then .next s
    else
      let s := { s with time := { s.time with tuples := s.time.tuples.filter (fun u => !(u.port == port.val && u.seq == seq.val)) } }
      if parent && s.ptpOn port && !s.on (Fld.TIM_PORT_CFG_MASTER_ONLY port) && s.fld Fld.TIM_CTRL_TSRC = 0 then
        .next (updateServo { s with time := { s.time with slave := some port.val } } (s.tupleOffset t))
      else .next s

/-- PPS_IN_EDGE (R37): CE2 event 9, and with TSRC at 1 one update. -/
def execPpsInEdge (s : State) : Out :=
  let s := s.ceEvent 2 9
  if s.fld Fld.TIM_CTRL_TSRC = 1 && s.servoRuns then .next (updateServo s s.ppsOffset) else .next s

/-! ### Captures -/

/-- Hold the upper half of a pair for a path (R562). -/
def holdRead (s : State) (path lo : Nat) (half : Word) : State :=
  s.updAcc (fun x => { x with heldRd := x.heldRd.put path (some { lo, half }) })

/-- A read of TIM_CAPn_TS_LO (R47, R563): the value and the state after it. -/
def readCapture (s : State) (path ch : Nat) : State × Word :=
  let r := popCapture s ch
  (holdRead r.1 path (Reg.TIM_CAP_TS_LO ch) r.2.2, r.2.1)

/-- CAP_TS_READ (R47). -/
def execCapTsRead (path : Path) (ch : Fin 16) (s : State) : Out :=
  let r := readCapture s (pathCode path) ch
  .next (r.1.emit (.read (pathCode path) (Reg.TIM_CAP_TS_LO ch) (some r.2.toNat)))

end Sys2Proof.Machine
end

