-- ==== Sys2Proof/Machine/Boundary.lean ====
section
/-! DEFINITION. Machine/Boundary.lean: a facet realises a symbol boundary of a carrier timeline (R54): what takes effect there that
has no row of its own. -/

namespace Sys2Proof.Machine

/-- The symbol of timeline c at an air time in Tc. -/
def State.symAtTc (s : State) (c : Nat) (tc : Int) : SymAbs :=
  let y := airPos (s.mu c) (s.ecp c) tc
  { frame := tc / 19660800, subframe := y.subframe, slot := y.slot, symbol := y.symbol }

/-- The symbol that begins at a boundary realised now, and the one that ends: those 1 µs on and 1 µs back, since a facet realises
a boundary within 1 µs of its air time (R51, R52). -/
def State.symBegins (s : State) (c : Nat) : SymAbs := s.symAtTc c (s.airTc + 1966)
def State.symEnds (s : State) (c : Nat) : SymAbs := s.symAtTc c (s.airTc - 1966)

/-- Does the facet of timeline c realise its boundaries (R48, R56, R283)? -/
def State.lineRealises (s : State) (c : Nat) : Bool :=
  s.on (Fld.TIM_AIR_CFG_EN c) && (s.line c).running && !(s.line c).muted && (s.facetT (c / 8)).anchored

/-- The boundary at which a realignment mutes timeline c: its TX paths hold the quiet code (R53, R56). -/
def muteLine (s : State) (c : Nat) : State :=
  let t := s.updLine c (fun l => { l with muteDue := false, muted := true, mutedAt := s.time.now })
  settle s (t.updCva (fun x => { x with realignQuiet := x.realignQuiet.put (c / 8) true }))

/-- What follows the EVM of the DL symbol that ends on the reference timeline of facet k (R202, R203). -/
def evmStep (s : State) (k : Nat) (y : SymAbs) (bad good : Nat) : State :=
  if s.lde.syms.any (fun e => e.1 == k && e.2.1 == y) then
    (List.range 16).foldl (fun s i => paprStep s (16 * k + i) (bad.testBit i) (good.testBit i)) s
  else s

/-- What the reference timeline of facet k does at a boundary: EVM adaptation, the symbols a sleeping facet drops (R463), and
symbol sleep (R460). -/
def refBoundary (s : State) (k c : Nat) (bad good : Nat) : State :=
  let y := s.symBegins c
  let t := evmStep s k (s.symEnds c) bad good
  let t := if t.facetAsleep k && (t.usedIn k y).isSome then t.bump (Fld.PWS_FACET_CNT_SLEEP_DROP k) else t
  settle t (symbolSleep t k y)

/-- The run of array calibration that injects since an earlier boundary ends its symbol (R264, R265). -/
def endRunSymbol (s : State) (c : Nat) : State :=
  match s.cva.run with
  | some r => if s.fld Fld.CVA_CAL_CFG_CAR = c && r.since < s.time.now then endInjection s else s
  | none => s

/-- A boundary that timeline c realises: its SYMCFG group commits (R195), the UL values of its plan come into effect (R180), the
written gains at a slot boundary (R116), and what follows its reference timeline. NCOs are set to phase zero at each subframe
boundary (R177), which leaves nothing in State. -/
def boundary (s : State) (c bad good : Nat) : State :=
  let k := c / 8
  let t := if !(s.facetT k).realigning && s.armedBefore (.symcfg c) s.cyc then commitGroup s (.symcfg c) s.cyc else s
  let t := takeUlForce t c
  let t := if (t.symBegins c).symbol = 0 && (t.fld (Fld.BFE_AC_CFG_FACETS (c % 8))).testBit k then takeGains t (c % 8) else t
  let t := if t.refTimeline k = c then refBoundary t k c bad good else t
  let t := endRunSymbol t c
  if t.persona then holdColumns t else t

/-- REALISED_SYMBOL_BOUNDARY (R54, R56). -/
def execRealisedSymbolBoundary (c : Fin 32) (evmOver evmGood : BitVec 16) (s : State) : Out :=
  if !s.lineRealises c then .next s
  else if (s.line c).muteDue then .next (muteLine s c)
  else .next (boundary s c evmOver.toNat evmGood.toNat)

end Sys2Proof.Machine
end

