-- ==== Sys2Proof/Machine/Flash.lean ====
section
/-! DEFINITION. Machine/Flash.lean: the flash and the Waido image (R507 to R510), the calibration set (R516 to R519), and the
flash commands (R522). -/

namespace Sys2Proof.Machine

/-- Change what BOOT keeps. -/
def State.updBoot (s : State) (f : BootState → BootState) : State := { s with boot := f s.boot }

/-! ### The flash -/

/-- Bytes of the flash; an erased byte reads 0xFF. -/
def State.flBytes (s : State) (a n : Nat) : List Byte := (List.range n).map (fun i => mapGet (fun _ => 0xFF) s.boot.flash (a + i))

/-- A number of the flash, most significant byte first (R507). -/
def State.flNum (s : State) (a n : Nat) : Nat := ofBytes ((s.flBytes a n).map (·.toNat))

/-- The size of a slot, and where each starts (R507). -/
def State.slotSize (s : State) : Nat := s.calBase / 2
def State.slotBase (s : State) (b : Bool) : Nat := if b then s.slotSize else 0

/-! ### Images -/

/-- An entry of the section table (R508). -/
structure ImgSec where
  typ : Nat
  index : Nat
  sflags : Nat
  off : Nat
  len : Nat
  dest : Nat
  hash : List Byte
deriving DecidableEq, Repr

/-- Header fields (R507). -/
def State.imgMode (s : State) (b : Bool) : Nat := s.flNum (s.slotBase b + 6) 1
def State.imgFlags (s : State) (b : Bool) : Nat := s.flNum (s.slotBase b + 7) 1
def State.imgSeq (s : State) (b : Bool) : Nat := s.flNum (s.slotBase b + 8) 4
def State.imgLen (s : State) (b : Bool) : Nat := s.flNum (s.slotBase b + 12) 4
def State.imgNsec (s : State) (b : Bool) : Nat := s.flNum (s.slotBase b + 16) 2

/-- The section table of a slot. -/
def State.imgSecs (s : State) (b : Bool) : List ImgSec :=
  (List.range (s.imgNsec b)).map (fun i =>
    let a := s.slotBase b + 0xA0 + 64 * i
    { typ := s.flNum a 1, index := s.flNum (a + 1) 1, sflags := s.flNum (a + 2) 2, off := s.flNum (a + 4) 4
      len := s.flNum (a + 8) 4, dest := s.flNum (a + 12) 4, hash := s.flBytes (a + 16) 48 })

/-- Does MODE pass R325? -/
def modeOk (persona : Bool) (mode : Nat) : Bool := mode == 2 || mode == if persona then 1 else 0

/-- Checks 1 to 4 of R509 on the header of a slot: the code of R515, or 0. -/
def State.headerCode (s : State) (b : Bool) : Nat :=
  let a := s.slotBase b
  let n := 0xA0 + 64 * s.imgNsec b
  let key := s.flBytes (a + 0x20) 97
  if !s.boot.env.flashOk then 2
  else if s.flNum a 4 != 0x57414944 || s.flNum (a + 4) 2 != 1 || s.imgNsec b = 0 || 64 < s.imgNsec b
      || s.slotSize < s.imgLen b || s.imgLen b < n + 96 then 3
  else if s.boot.imgHash.any (fun h => Config.sha384 key != h) then 4
  else if !Config.ecdsaP384 key (Config.sha384 (s.flBytes a n)) (s.flBytes (a + n) 96) then 5
  else if !modeOk (s.on Fld.BOOT_STRAP_PERSONA) (s.imgMode b) then 6
  else 0

/-- Are a section's type, INDEX and encryption among those of R508? -/
def ImgSec.typeOk (x : ImgSec) : Bool :=
  let enc := x.sflags.testBit 0
  match x.typ with
  | 0x01 => x.index < 4 && !enc
  | 0x02 => 1 ≤ x.index && x.index < 4 && !enc
  | 0x03 => x.index < 4
  | 0x04 => x.index < 16
  | 0x05 | 0x06 | 0x07 | 0x09 => x.index == 0 && !enc
  | 0x08 => x.index < 8 && !enc
  | _ => false

/-- Do two sections overlap? -/
def ImgSec.meets (x y : ImgSec) : Bool := x.off < y.off + y.len && y.off < x.off + x.len

/-- Does no section of a list overlap a later one? -/
def sectionsApart : List ImgSec → Bool
  | [] => true
  | x :: l => !l.any x.meets && sectionsApart l

/-- Does the section table pass R508? -/
def State.tableOk (s : State) (b : Bool) : Bool :=
  (s.imgSecs b).all (fun x => x.typeOk && x.off + x.len ≤ s.imgLen b) && sectionsApart (s.imgSecs b)

/-- What the checks of R509 make of a section: its contents, a user section that is not loaded, or a code of R515. -/
inductive SecResult where
  | ok (bytes : List Byte)
  | rejected
  | fail (code : Nat)
deriving DecidableEq, Repr

/-- The signature of a vendor section, its last 96 bytes over the others. -/
def vendorCheck (l : List Byte) : SecResult :=
  let n := l.length - 96
  if 96 ≤ l.length && Config.ecdsaP384 Config.skovrelKey (Config.sha384 (l.take n)) (l.drop n) then .ok (l.take n) else .fail 8

/-- The key and signature of a user section, its last 193 bytes. -/
def userCheck (keyHash : Option (List Byte)) (l : List Byte) : SecResult :=
  let n := l.length - 96
  let key := (l.take n).drop (n - 97)
  if 193 ≤ l.length && keyHash == some (Config.sha384 key) && Config.ecdsaP384 key (Config.sha384 (l.take n)) (l.drop n) then
    .ok (l.take (n - 97))
  else .rejected

/-- The hash, decryption and extra signature of one section (R509, R510). -/
def State.checkSec (s : State) (b : Bool) (x : ImgSec) : SecResult :=
  let stored := s.flBytes (s.slotBase b + x.off) x.len
  let user := x.typ == 2 || x.typ == 4
  let sign (l : List Byte) : SecResult :=
    if x.typ == 1 || x.typ == 3 then vendorCheck l else if user then userCheck s.boot.userHash l else .ok l
  if Config.sha384 stored != x.hash then .fail 7
  else if x.sflags.testBit 0 then
    match s.boot.aesKey with
    | none => .fail 9
    | some k =>
      match Config.aesGcm k (stored.take 12) ((stored.drop 12).take (x.len - 28)) (stored.drop (x.len - 16)) with
      | some l => sign l
      | none => if user then .rejected else .fail 9
  else sign stored

/-- The first failure among some sections, or 0. -/
def State.secsCode (s : State) (b : Bool) (l : List ImgSec) : Nat :=
  ((l.map (s.checkSec b)).findSome? (fun r => match r with
    | .fail c => some c
    | _ => none)).getD 0

/-! ### Persona sections (R339) -/

/-- The words of some bytes, most significant byte first. -/
def wordsOf (l : List Byte) (n : Nat) : List Word :=
  (List.range n).map (fun i => BitVec.ofNat 32 (ofBytes (((l.drop (4 * i)).take 4).map (·.toNat))))

/-- The column words of a persona section (assumption log 17): after the four lane roles, for each column its PATHS and weights. -/
def personaColumns (l : List Byte) : List (List Word) := (List.range 16).map (fun i => wordsOf (l.drop (4 + 20 * i)) 5)

/-- The four paths of a column. -/
def columnPaths (w : Word) : List Nat := (List.range 4).map (fun j => w.toNat / 2 ^ (6 * j) % 64)

/-- Do the columns obey R339: each within one facet, no path in two columns? -/
def personaOk (l : List Byte) : Bool :=
  let cols := (personaColumns l).map (fun c => columnPaths (c.headD 0))
  324 ≤ l.length && cols.all (fun c => c.all (fun p => p / 16 == c.headD 0 / 16))
    && ((cols.flatMap id).eraseDups.length == 64)

/-- Every check of R509 on a slot, as VERIFY makes them (R522): the code, or 0. -/
def State.slotCode (s : State) (b : Bool) : Nat :=
  let h := s.headerCode b
  if h != 0 then h
  else if !s.tableOk b then 10
  else
    let c := s.secsCode b (s.imgSecs b)
    if c != 0 then c
    else if (s.imgSecs b).any (fun x => x.typ == 9 && !(match s.checkSec b x with
      | .ok l => personaOk l
      | _ => true)) then 11
    else 0

/-! ### The calibration set (R516, R517) -/

/-- CRC-32 of IEEE 802.3 (R516). -/
def crc32 (l : List Byte) : Nat :=
  Nat.xor 0xFFFFFFFF (l.foldl (fun c b => (List.range 8).foldl (fun c _ =>
    if c % 2 = 1 then Nat.xor (c / 2) 0xEDB88320 else c / 2) (Nat.xor c b.toNat)) 0xFFFFFFFF)

/-- The records of a calibration set; a record that is cut short ends them. -/
def calRecords : Nat → List Byte → List CalRec
  | 0, _ => []
  | n + 1, t :: i :: h :: l :: rest =>
    let len := h.toNat * 256 + l.toNat
    if rest.length < len then [] else { typ := t.toNat, idx := i.toNat, body := rest.take len } :: calRecords n (rest.drop len)
  | _ + 1, _ => []

/-- What a read of the calibration region finds (R517): absent, bad, or WRITER, WRITES and the records. -/
inductive CalSet where
  | absent
  | bad
  | ok (writer writes : Nat) (recs : List CalRec)
deriving DecidableEq, Repr

/-- Read the set: a header of four words, records and a CRC-32; LENGTH counts them all (assumption log 18). -/
def State.readCal (s : State) : CalSet :=
  let a := s.calBase
  let n := s.flNum (a + 4) 4
  if s.flNum a 4 != 0x43414C31 then .absent
  else if n < 20 || 0x40000 < n then .bad
  else if crc32 (s.flBytes a (n - 4)) != s.flNum (a + n - 4) 4 then .bad
  else .ok (s.flNum (a + 8) 4) (s.flNum (a + 12) 4) (calRecords n (s.flBytes (a + 16) (n - 20)))

/-- Apply one record (R516); an index beyond its range applies to nothing. -/
def applyCalRec (s : State) (r : CalRec) : State :=
  let w := fun i => ((wordsOf (r.body.drop (4 * i)) 1).headD 0)
  let p := r.idx
  match r.typ with
  | 1 =>
    if 64 ≤ p then s
    else
      let s := (s.wr (Reg.BFE_PATH_CAL_TX p) (w 0)).wr (Reg.CVA_TX_DLY p) (w 1)
      let s := { s with acc := { s.acc with active := mapSet regReset s.acc.active (Reg.CVA_TX_DLY p) (w 1) } }
      s.updBoot (fun b => { b with gRef := b.gRef.put p (ofBytes (((r.body.drop 8).take 2).map (·.toNat))) })
  | 2 =>
    if 64 ≤ p then s
    else
      let s := (s.wr (Reg.BFE_PATH_CAL_RX p) (w 0)).wr (Reg.CVA_RX_DLY p) (w 1)
      s.updCva (fun x => { x with rxDly := x.rxDly.put p ((w 1).toNat % 2 ^ 14) })
  | 4 =>
    let b := (r.body.headD 0).toNat
    if 64 ≤ p || 8 ≤ b then s
    else
      let s := ((wordsOf (r.body.drop 1) 80).zip (List.range 80)).foldl (fun s e =>
        (s.wr (Reg.LDE_PATH_BANK_ACT_C p b e.2) e.1).wr (Reg.LDE_PATH_BANK_PREV_C p b e.2) e.1) s
      s.setFld (Fld.LDE_PATH_STAT_BANK_VALID p) (putBit (s.fld (Fld.LDE_PATH_STAT_BANK_VALID p)) b true)
  | 7 => if 64 ≤ p then s else ((wordsOf r.body 8).zip (List.range 8)).foldl (fun s e => s.wr (Reg.RCS_TC_FREQ p + 4 * e.2) e.1) s
  | _ => s

/-- Read and check the calibration set and apply a valid one (R512 step 8, R517). -/
def loadCal (s : State) : State :=
  match s.readCal with
  | .absent => s.flag Fld.BOOT_STATUS_CAL_ABSENT true
  | .bad => s.flag Fld.BOOT_STATUS_CAL_BAD true
  | .ok writer writes recs =>
    let s := (s.setFld Fld.BOOT_CAL_WRITES writes).setFld Fld.BOOT_CAL_WRITER writer
    recs.foldl applyCalRec (s.updBoot (fun b => { b with calValid := true, calRecs := recs }))

/-- A number as bytes, most significant first. -/
def beBytes (n k : Nat) : List Byte := (bytesOf n k).map (BitVec.ofNat 8)

/-- A record's bytes. -/
def CalRec.bytes (r : CalRec) : List Byte := beBytes r.typ 1 ++ beBytes r.idx 1 ++ beBytes r.body.length 2 ++ r.body

/-- The records that CAL_SAVE writes (R519): the values in force, and the records it copies. -/
def State.newCalRecs (s : State) : List CalRec :=
  let reg (a : Nat) : List Byte := beBytes (s.rd a).toNat 4
  let rxDly (p : Nat) : Nat := s.cva.rxDly.at p
  (List.range 64).map (fun p => { typ := 1, idx := p
                                  body := reg (Reg.BFE_PATH_CAL_TX p) ++ beBytes (mapGet regReset s.acc.active (Reg.CVA_TX_DLY p)).toNat 4
                                    ++ beBytes (s.boot.gRef.at p) 2 })
    ++ (List.range 64).map (fun p => { typ := 2, idx := p, body := reg (Reg.BFE_PATH_CAL_RX p) ++ beBytes (rxDly p) 4 })
    ++ (List.range 64).flatMap (fun p => (bitsOf 8 (s.fld (Fld.LDE_PATH_STAT_BANK_VALID p))).map (fun b =>
      { typ := 4, idx := p, body := beBytes b 1 ++ (List.range 80).flatMap (fun i => reg (Reg.LDE_PATH_BANK_ACT_C p b i)) }))
    ++ ((List.range 64).filter (fun e => s.on (Fld.RCS_TC_CFG_VALID_A e) || s.on (Fld.RCS_TC_CFG_VALID_B e))).map (fun e =>
      { typ := 7, idx := e, body := (List.range 8).flatMap (fun i => reg (Reg.RCS_TC_FREQ e + 4 * i)) })
    ++ s.boot.calRecs.filter (fun r => r.typ == 3 || r.typ == 5 || r.typ == 6)

/-- The set that CAL_SAVE writes: WRITER 1, and WRITES one more. -/
def State.newCal (s : State) : List Byte :=
  let recs := s.newCalRecs.flatMap CalRec.bytes
  let l := [0x43, 0x41, 0x4C, 0x31] ++ beBytes (recs.length + 20) 4 ++ beBytes 1 4 ++ beBytes (s.fld Fld.BOOT_CAL_WRITES + 1) 4 ++ recs
  l ++ beBytes (crc32 l) 4

/-! ### Flash commands (R522) -/

/-- Does an address lie in the calibration region? -/
def State.inCal (s : State) (a : Nat) : Bool := s.calBase ≤ a && a < s.boot.flashSize

/-- Does an address lie in the slot that booted? -/
def State.inBooted (s : State) (a : Nat) : Bool :=
  let base := s.slotBase (s.on Fld.BOOT_STATUS_SLOT)
  s.boot.booted && base ≤ a && a < base + s.slotSize

/-- Is key ARG of OP 6 programmed? -/
def State.keyThere (s : State) (arg : Nat) : Bool :=
  match arg with
  | 0 => s.boot.imgHash.isSome
  | 1 => s.boot.userHash.isSome
  | 2 => s.boot.aesKey.isSome
  | _ => false

/-- The cause for which an operation is refused (R522), or 0. -/
def State.flCause (s : State) (op arg : Nat) (unlock : Byte) : Nat :=
  let a := s.fld Fld.BOOT_FL_ADDR_ADDR
  if s.on Fld.BOOT_FL_STAT_BUSY then 1
  else if (op = 2 || op = 3) && s.inBooted a then 2
  else if op != 1 && (s.inCal a || op = 5) && unlock != 0xCA then 3
  else if a % (if op = 3 then 65536 else 256) != 0 || s.boot.flashSize ≤ a then 4
  else if op = 6 && (!s.on Fld.BOOT_STATUS_RECOVERY || s.keyThere arg) then 5
  else 0

/-- Start an operation, or refuse it. -/
def flCommand (s : State) (op arg : Nat) (unlock : Byte) : State :=
  let c := s.flCause op arg unlock
  let a := s.fld Fld.BOOT_FL_ADDR_ADDR
  if c != 0 then (s.flag Fld.BOOT_FL_STAT_REFUSED true).setFld Fld.BOOT_FL_STAT_CAUSE c
  else
    let o : FlOp := match op with
      | 1 => .read a
      | 2 => .program a
      | 3 => .erase a
      | 4 => .verify (arg % 2 == 1)
      | 5 => .calSave s.newCal
      | _ => .key arg
    (s.flag Fld.BOOT_FL_STAT_BUSY true).updBoot (fun b => { b with op := some o })

/-- A write of 0xB007 to BOOT_CTRL.REBOOT (R505): ignored while a flash operation is in progress. -/
def reboot (s : State) : State := if s.on Fld.BOOT_FL_STAT_BUSY then s else resetPart s .reboot

/-- FL_READ (R522). -/
def execFlRead (s : State) : Out := .next (flCommand s 1 0 0)
/-- FL_PROGRAM (R522). -/
def execFlProgram (unlock : Byte) (s : State) : Out := .next (flCommand s 2 0 unlock)
/-- FL_ERASE (R522). -/
def execFlErase (unlock : Byte) (s : State) : Out := .next (flCommand s 3 0 unlock)
/-- FL_VERIFY (R522). -/
def execFlVerify (arg : Fin 4) (unlock : Byte) (s : State) : Out := .next (flCommand s 4 arg unlock)
/-- CAL_SAVE (R519). -/
def execCalSave (unlock : Byte) (s : State) : Out := .next (flCommand s 5 0 unlock)
/-- OTP_KEY_PROGRAM (R510). -/
def execOtpKeyProgram (arg : Fin 4) (unlock : Byte) (s : State) : Out := .next (flCommand s 6 arg unlock)

/-- The bytes of buffer words 0 to n − 1 (R523). -/
def State.bufBytes (s : State) (n : Nat) : List Byte := (List.range n).flatMap (fun i => beBytes (s.rd (Reg.BOOT_FL_BUF i)).toNat 4)

/-- Write the flash. -/
def writeFlash (s : State) (a : Nat) (l : List Byte) : State := s.updBoot (fun b => { b with flash := putFlash b.flash a l })

/-- BOOT_OTP shows the keys programmed. -/
def showKeys (s : State) : State :=
  ((s.flag Fld.BOOT_OTP_IMG_KEY s.boot.imgHash.isSome).flag Fld.BOOT_OTP_USER_KEY s.boot.userHash.isSome).flag
    Fld.BOOT_OTP_AES_KEY s.boot.aesKey.isSome

/-- Perform an operation (R510, R519, R522). -/
def performFl (s : State) (o : FlOp) : State :=
  match o with
  | .read a => ((wordsOf (s.flBytes a 256) 64).zip (List.range 64)).foldl (fun s e => s.wr (Reg.BOOT_FL_BUF e.2) e.1) s
  | .program a => writeFlash s a (s.bufBytes 64)
  | .erase a => writeFlash s a (List.replicate 65536 0xFF)
  | .verify b =>
    let c := s.slotCode b
    (s.setFld Fld.BOOT_FL_STAT_VRES (if c = 0 then 1 else 2)).setFld Fld.BOOT_FL_STAT_VERR c
  | .calSave l => writeFlash (writeFlash s s.calBase (List.replicate 0x40000 0xFF)) s.calBase l
  | .key 0 => showKeys (s.updBoot (fun b => { b with imgHash := some (s.bufBytes 12) }))
  | .key 1 => showKeys (s.updBoot (fun b => { b with userHash := some (s.bufBytes 12) }))
  | .key 2 => showKeys (s.updBoot (fun b => { b with aesKey := some (s.bufBytes 8) }))
  | .key _ => s

/-- FL_OP_DONE (R522). -/
def execFlOpDone (s : State) : Out :=
  match s.boot.op with
  | none => .next s
  | some o => .next (((performFl s o).flag Fld.BOOT_FL_STAT_BUSY false).updBoot (fun b => { b with op := none }))

/-! ### Temperature correction (R518) -/

/-- A signed pair of bytes. -/
def sbe16 (l : List Byte) : Int := signed 16 (ofBytes ((l.take 2).map (·.toNat)))

/-- The points of a record of type 0x05: temperature, TX and RX correction. -/
def calPoints (r : CalRec) : List (Int × Int × Int) :=
  (List.range 16).map (fun i => (sbe16 (r.body.drop (6 * i)), sbe16 (r.body.drop (6 * i + 2)), sbe16 (r.body.drop (6 * i + 4))))

/-- Linear interpolation between rising points, the nearest one applying outside: the correction as a quotient. -/
def interpolate (t : Int) : List (Int × Int) → Int × Int
  | [] => (0, 1)
  | [p] => (p.2, 1)
  | p :: q :: l =>
    if t ≤ p.1 then (p.2, 1)
    else if t < q.1 then (p.2 * (q.1 - p.1) + (q.2 - p.2) * (t - p.1), q.1 - p.1)
    else interpolate t (q :: l)

/-- κ corrected in magnitude by a gain in 0.01 dB, given as a quotient: the spec states no rounding, so the word is a free value of
them (assumption log 2). -/
def corrected (k : Word) (g : Int × Int) : Word := Config.freeOf 32 [518, k.toNat, unsigned 32 g.1, unsigned 32 g.2]

/-- CAL_TEMP_CORRECT (R518). -/
def execCalTempCorrect (t0 t1 t2 t3 : Int) (s : State) : Out :=
  if !s.boot.calValid then .next s
  else .next ((List.range 4).foldl (fun s k =>
    match s.boot.calRecs.find? (fun r => r.typ == 5 && r.idx == k) with
    | none => s
    | some r =>
      let t := [t0, t1, t2, t3].getD k 0
      let tx := interpolate t ((calPoints r).map (fun p => (p.1, p.2.1)))
      let rx := interpolate t ((calPoints r).map (fun p => (p.1, p.2.2)))
      (List.range 16).foldl (fun s i =>
        let p := 16 * k + i
        (s.wr (Reg.BFE_PATH_CAL_TX p) (corrected (s.rd (Reg.BFE_PATH_CAL_TX p)) tx)).wr (Reg.BFE_PATH_CAL_RX p)
          (corrected (s.rd (Reg.BFE_PATH_CAL_RX p)) rx)) s) s)

/-! ### TX release (R520, R521) -/

/-- Does the calibration condition of R520 hold? -/
def State.calOk (s : State) : Bool := s.boot.calValid || s.boot.noCalOk

/-- Does FREE_RUN apply (R520)? -/
def State.freeRuns (s : State) : Bool := s.boot.freeRun && !s.on Fld.LKT_STAT_SEALED

/-- Do the conditions of R520 hold? -/
def State.mayRelease (s : State) : Bool :=
  s.on Fld.BOOT_STATUS_RADIO_READY && s.on Fld.LKT_STAT_CRC_OK && s.calOk && (s.on Fld.TIM_STATUS_TIME_OK || s.freeRuns)

/-- TX_RELEASE (R520): the hold ends, and each path resumes under R239. -/
def execTxRelease (s : State) : Out :=
  if s.boot.txHold && s.mayRelease then
    .next (settle s ((s.flag Fld.BOOT_TXREL_RELEASED true).updBoot (fun b => { b with txHold := false })))
  else .next s

/-- TX_RELEASE_WITHDRAW (R521): a return of TIME_OK in the cycle of the expiry keeps the release. -/
def execTxReleaseWithdraw (s : State) : Out :=
  match s.boot.timeLost with
  | none => .next s
  | some t =>
    if s.on Fld.BOOT_TXREL_RELEASED && !s.on Fld.TIM_STATUS_TIME_OK && !s.freeRuns
        && t + s.fld Fld.BOOT_TXREL_GRACE_MS * ticksMs ≤ s.time.now then
      .next (settle s (((s.flag Fld.BOOT_TXREL_RELEASED false).bump Fld.BOOT_TXREL_HOLDS).updBoot (fun b => { b with txHold := true })))
    else .next s

end Sys2Proof.Machine
end

