-- ==== Sys2Proof/Machine/Access.lean ====
section
/-! DEFINITION. Machine/Access.lean: the native map as every access path reaches it (R552 to R564): which accesses are possible,
what each register reads, and what a read or write of each register does. -/

namespace Sys2Proof.Machine

/-! ### Requests and results -/

/-- A request: its path, with its holding registers; the path whose permissions it has (R555); for RMA, whether it arrived on a
protected port (R70). -/
structure Req where
  path : Path
  perm : Path
  prot : Bool := false
deriving DecidableEq, Repr

/-- How an access ends (R553). -/
inductive Acc where
  | ok (v : Word)
  | bus
  | fault
deriving DecidableEq, Repr

/-- The access path of an owner code (R423). -/
def ownerPath (o : Nat) : Path :=
  match o with
  | 1 => .rma
  | 2 => .mspi
  | 3 => .jtag
  | 4 => .y 0
  | 5 => .y 1
  | 6 => .y 2
  | 7 => .y 3
  | 8 => .ce 1
  | 9 => .ce 2
  | 10 => .ce 3
  | _ => .mspi

/-- A request on a path, with its permissions (R555): a user clause has those of MSPI, and a channel its owner's. -/
def State.reqOf (s : State) (p : Path) : Req :=
  match p with
  | .ce e => { path := p, perm := if s.ceUser e then .mspi else p }
  | .dm c => { path := p, perm := ownerPath (s.fld (Fld.DMV_CH_STAT_OWNER c)) }
  | _ => { path := p, perm := p }

/-- The owner code a request acts for. -/
def State.reqOwner (s : State) (r : Req) : Nat := s.ownerOf r.perm

/-- The next state of an outcome. -/
def nextOr (s : State) (o : Out) : State :=
  match o with
  | .next t => t
  | _ => s

/-! ### Which accesses are possible -/

/-- Blocks that stay powered while DOM_CORE is off (R16): BOOT, FLT, PWS, CE0, the monitors and the Locket. -/
def aonBlock (a : Nat) : Bool :=
  a < 0x03000000 || (0x0D000000 ≤ a && a < 0x0D000100) || (0x0F000000 ≤ a && a < 0x0F001000)
    || (0x0F003000 ≤ a && a < 0x0F004000)

/-- Is the waveform memory at this address of the debug window? -/
def waveAddr (a : Nat) : Bool := 0x41CA0000 ≤ a && a < 0x41DA0000

/-- Is the domain of an address powered (R18)? DOM_CORE is up from step 4 of R512 on. -/
def State.powered (s : State) (a : Nat) : Bool :=
  (aonBlock a || (!s.pws.coreOff && 4 ≤ s.fld Fld.BOOT_STATUS_STAGE)) && !(s.pws.facetsOff && (facetReg a || waveAddr a))

/-- May an access reach this address at all (R506, R552)? -/
def State.reaches (s : State) (a : Nat) : Bool :=
  a % 4 == 0 && s.boot.hold == .none && s.powered a && (!s.on Fld.BOOT_STATUS_RECOVERY || a < 0x01000000)
    && (a < 0x10000000 || (s.persona && a < 0x11000000) || (0x40000000 ≤ a && a < 0x42000000) || (0x80000000 ≤ a && a < 0x100000000))

/-! ### Two-half pairs (R562 to R564) -/

/-- The index at which a family of registers has an address. -/
def ix (f : Nat → Nat) (n a : Nat) : Option Nat := (List.range n).find? (fun k => f k == a)

/-- Is this the _LO of a 64-bit pair? -/
def pairLo (a : Nat) : Bool :=
  [Reg.TIM_INCR_LO, Reg.TIM_PHC_LO, Reg.BFE_ELIDE_TX_LO, Reg.BFE_ELIDE_RX_LO,
      Reg.BFE_FORCE_TX_LO, Reg.BFE_FORCE_RX_LO, Reg.FLT_HUB_TX_LO, Reg.FLT_HUB_RX_LO, Reg.FLT_QPATH_LO, Reg.FLT_LOG_TS_LO,
      Reg.BOOT_DIEID_LO].contains a
    || (ix Reg.TIM_TRG_TIME_LO 64 a).isSome || (ix Reg.TIM_CAP_TS_LO 16 a).isSome
    || (ix (fun i => Reg.FPE_MSEC_TX_PN_LO (i / 2) (i % 2)) 16 a).isSome || (ix (fun i => Reg.FPE_MSEC_RX_PN_LO (i / 2) (i % 2)) 16 a).isSome
    || (ix Reg.LPE_FACET_WTX_LO 4 a).isSome || (ix Reg.LPE_FACET_WRX_LO 4 a).isSome
    || (ix Reg.LPE_CAR_DL_FTW_LO 32 a).isSome || (ix Reg.LPE_CAR_UL_FTW_LO 32 a).isSome || (ix Reg.SRD_LANE_PRBS_BITS_LO 16 a).isSome

/-- Is this the _HI of a pair? -/
def pairHi (a : Nat) : Bool := 4 ≤ a && pairLo (a - 4)

/-- What a path holds. -/
def heldHalf (m : SMap (Option Hold)) (path lo : Nat) : Option Word :=
  match m.at path with
  | some h => if h.lo = lo then some h.half else none
  | none => none

/-! ### What registers read -/

/-- A word built of fields: (lowest bit, value). -/
def packWord (l : List (Nat × Nat)) : Word := BitVec.ofNat 32 (l.foldl (fun n e => n + e.2 * 2 ^ e.1) 0)

/-- TIM_AIRc_POS (R50). -/
def State.airPosWord (s : State) (c : Nat) : Word :=
  let y := s.pos c
  if (s.line c).running then
    packWord [(22, y.sfn % 1024), (18, y.subframe % 16), (16, y.slot % 4), (12, y.symbol % 16), (0, (!(s.facetT (c / 8)).realigning).toNat)]
  else 0

/-- Tag words of a weight set (R168). -/
def State.tag0 (s : State) (i : Nat) : Word :=
  let x := s.wset i
  packWord [(31, x.valid.toNat), (30, x.locked.toNat), (28, x.kind % 4), (25, x.cls % 8), (0, x.id % 2 ^ 15)]
def State.tag1 (s : State) (i : Nat) : Word :=
  let x := s.wset i
  packWord [(29, x.array % 8), (27, x.lib % 4), (26, x.dl.toNat), (25, x.par % 2), (16, x.group % 512), (0, min 4095 x.refs)]

/-- The work lists built and not released (R21): one for each carrier, direction and symbol with a section. -/
def State.workLists (s : State) : Nat :=
  ((s.fpe.sections.flatMap (fun c => c.todo.map (fun y =>
    (s.flowCar c.flow, s.flowDl c.flow, c.start.frame, c.start.subframe, c.start.slot, y)))).eraseDups).length

/-- Count sets of the cache. -/
def State.countSets (s : State) (p : WsSet → Bool) : Nat := (s.ws.sets.filter (fun e => p e.2)).length

/-- DMV_ALLOC for an owner (R424). -/
def State.allocWord (s : State) (o : Nat) : Word :=
  packWord [(30, (s.mem.dmvGrant.at o).isSome.toNat), (29, (s.mem.dmvReqs.contains o).toNat), (0, (s.mem.dmvGrant.at o).getD 0)]

/-- The age of a source (R502). -/
def State.srcAge (s : State) (i : Nat) : Word :=
  if s.srcCode i = 0 then 0 else BitVec.ofNat 32 (min (2 ^ 32 - 1) ((s.time.now - (s.flt.src.at i).last) / ticksMs))

/-- The registers whose value the part computes when they are read, for a request of an owner; none for all others. -/
def State.computed (s : State) (o a : Nat) : Option Word :=
  let keep (f : Fld) (n : Nat) : Option Word := some (setField f.lo f.width (s.rd a) n)
  let oldest := s.flt.log.head?
  if a = Reg.TIM_PHC_LO then some (BitVec.ofNat 32 s.time.phc.ns)
  else if a = Reg.TIM_PHC_HI then some (BitVec.ofNat 32 s.time.phc.sec)
  else if let some c := ix Reg.TIM_AIR_POS 32 a then some (s.airPosWord c)
  else if let some n := ix Reg.TIM_CAP_STAT 16 a then keep (Fld.TIM_CAP_STAT_LEVEL n) (s.capsOf n).length
  else if a = Reg.GRL_STATUS then
    some (setField 0 16 (s.rd a) (min 255 (s.mem.capReqs.length + s.mem.dmvReqs.length) * 256 + min 255 s.workLists))
  else if let some f := ix Reg.FPE_FLOW_STAT 256 a then keep (Fld.FPE_FLOW_STAT_EMPTY f) (min 255 (s.emptySlots f))
  else if a = Reg.BFE_WS_STAT0 then some (packWord [(16, s.countSets (fun x => x.refs != 0)), (0, s.countSets (·.locked))])
  else if a = Reg.BFE_WS_STAT1 then
    some (packWord [(16, 4096 - s.countSets (·.valid)), (0, s.countSets (fun x => x.valid && x.kind == 3))])
  else if let some c := ix Reg.BFE_WS_AC_STAT 8 a then some (packWord [(16, (s.ws.jobs.filter (fun j => j.array == c)).length)])
  else if Reg.BFE_WS_TAG_0 0 ≤ a && a < Reg.BFE_WS_TAG_0 4096 then
    some (if (a - Reg.BFE_WS_TAG_0 0) % 8 = 0 then s.tag0 ((a - Reg.BFE_WS_TAG_0 0) / 8) else s.tag1 ((a - Reg.BFE_WS_TAG_0 0) / 8))
  else if Reg.BFE_WS_SET_W 0 0 ≤ a && a < Reg.BFE_WS_SET_W 4096 0 then
    some ((s.wset ((a - Reg.BFE_WS_SET_W 0 0) / 256)).w.getD ((a - Reg.BFE_WS_SET_W 0 0) % 256 / 4) 0)
  else if let some n := ix Reg.DSP_Y_PC 4 a then some (BitVec.ofNat 32 (s.core n).pc)
  else if let some n := ix Reg.DSP_Y_MBSTAT 4 a then
    some (setField 0 8 (s.rd a) ((s.core n).mbIn.length * 16 + (s.core n).mbOut.length))
  else if let some e := ix Reg.CLS_CE_STAT 4 a then keep (Fld.CLS_CE_STAT_PC e) (s.ce e).pc
  else if a = Reg.MEM_CAP_STAT then
    some (packWord [(24, s.freePages.length), (16, (s.heldPages o).length), (15, (s.mem.capReqs.any (fun r => r.owner == o && o != 0)).toNat)])
  else if let some m := ix Reg.MEM_CAP_MASK 4 a then some (BitVec.ofNat 32 (maskOf 32 (fun i => s.holdsPage o (32 * m + i))))
  else if a = Reg.DMV_ALLOC then some (s.allocWord o)
  else if a = Reg.FLT_STATUS then keep Fld.FLT_STATUS_LOG_LVL s.flt.log.length
  else if a = Reg.FLT_QUIET then keep Fld.FLT_QUIET_PART (s.boot.txHold || s.on Fld.FLT_QUIET_PART).toNat
  else if a = Reg.FLT_LOG_CODE then some ((oldest.map (·.code)).getD 0)
  else if a = Reg.FLT_LOG_TS_LO then some (BitVec.ofNat 32 ((oldest.map (·.ns)).getD 0))
  else if a = Reg.FLT_LOG_TS_HI then some (BitVec.ofNat 32 ((oldest.map (·.sec)).getD 0))
  else if let some i := ix Reg.FLT_SRC_STAT 64 a then keep (Fld.FLT_SRC_STAT_RECENT i) (min 8 (s.recentRecov i).length)
  else if let some i := ix Reg.FLT_SRC_AGE 64 a then some (s.srcAge i)
  else if a = Reg.BOOT_TXREL then some (setField 29 2 (s.rd a) (s.calOk.toNat * 2 + s.freeRuns.toNat))
  else if Reg.CVA_WFM_D 0 0 ≤ a && a < Reg.CVA_WFM_D 4 0 then
    some (BitVec.ofNat 32 (leNat (s.memRead false (wfmAddr ((a - Reg.CVA_WFM_D 0 0) / 0x40000) ((a - Reg.CVA_WFM_D 0 0) % 0x40000 / 4)) 4)))
  else none

/-- What a register shows to an owner's request: computed or held, its WO fields as 0 (R5). -/
def State.shows (s : State) (o a : Nat) : Word :=
  (s.computed o a).getD (s.rd a) &&& ~~~(BitVec.ofNat 32 (accessBits (fun t => t == .wo) a))

/-- What a read of a register does beside returning it: RC fields clear (R5), PEAKs fall to their level, FIFOs pop. -/
def afterRead (s : State) (a : Nat) : State :=
  if a = Reg.FPE_UBUF_LVL then s.setFld Fld.FPE_UBUF_LVL_PEAK (s.fld Fld.FPE_UBUF_LVL_LEVEL)
  else if a = Reg.FPE_SEC_LVL then s.setFld Fld.FPE_SEC_LVL_PEAK (s.fld Fld.FPE_SEC_LVL_LEVEL)
  else if let some l := ix Reg.SRD_LANE_LQI 16 a then
    (s.setFld (Fld.SRD_LANE_LQI_LQI_MIN l) 0).updLane l (fun d => { d with minSeen := false })
  else if let some x := ix Reg.MON_URES 2 a then s.wr a (setField 31 1 (s.rd (Reg.MON_URES x)) 0)
  else
    let m := accessBits (fun t => t == .rc) a
    if m = 0 then s else s.wr a (s.rd a &&& ~~~(BitVec.ofNat 32 m))

/-- A read of one register: a mailbox or FIFO pops; a _LO captures its pair, and a _HI returns what is held (R562, R563). -/
def readReg (s : State) (r : Req) (a : Nat) : State × Word :=
  let path := pathCode r.path
  let o := s.reqOwner r
  if let some n := ix Reg.DSP_Y_MBO 4 a then hostPop s n
  else if let some k := ix Reg.FEN_FACET_RD 4 a then popFeb s k
  else if let some c := ix Reg.TIM_CAP_TS_LO 16 a then readCapture s path c
  else if pairLo a then (holdRead s path a (s.shows o (a + 4)), s.shows o a)
  else if pairHi a then (s, (heldHalf s.acc.heldRd path (a - 4)).getD 0)
  else (afterRead s a, s.shows o a)

/-! ### Windows on memories -/

/-- The debug-window address of a byte of the DSP block (R353): the memories of core n at 0x10_0000 + 0x20_0000 × n, shared memory
at its local address. -/
def dspWindow (a : Nat) : Option Nat :=
  let off := a - 0x0C000000
  if a < 0x0C000000 || 0x0D000000 ≤ a then none
  else if 0xA00000 ≤ off && off < 0xC00000 then yWindow 0 off
  else if 0x100000 ≤ off && off < 0x900000 then
    let n := (off - 0x100000) / 0x200000
    let l := (off - 0x100000) % 0x200000
    if l < 0x20000 then some (0x41400000 + 0xA0000 * n + l) else yWindow n l
  else none

/-- The core whose program memory holds a debug-window address (R402). -/
def pmCore (w : Nat) : Option Nat :=
  if 0x41400000 ≤ w && w < 0x41680000 && (w - 0x41400000) % 0xA0000 < 0x20000 then some ((w - 0x41400000) / 0xA0000) else none

/-- May a request write a byte of SRAM (R353, R403)? -/
def State.sramWritable (s : State) (r : Req) (w : Nat) : Bool :=
  match regionOf w with
  | 1 => s.holdsPage (s.reqOwner r) ((w - 0x40C00000) / 0x10000)
  | 2 => match pmCore w with
    | some n => s.yBit Fld.DSP_STATUS_HALTED n
    | none => true
  | _ => false

/-- Does the spec lay out what this part of the SRAM holds? -/
def sramKnown (w : Nat) : Bool := regionOf w == 1 || regionOf w == 2 || regionOf w == 7

/-- A read of SRAM: an uncorrectable word delivers nothing (R408); what other units keep in their SRAM is a free value (assumption
log 2). -/
def readSram (s : State) (w : Nat) : State × Acc :=
  if s.ueWord false w then (memEvent s true false (w / 8 * 8), .bus)
  else if sramKnown w then (s, .ok (BitVec.ofNat 32 (leNat (s.memRead false w 4))))
  else (s.tookFree, .ok (s.free 32))

/-- A write of SRAM. -/
def writeSram (s : State) (r : Req) (w : Nat) (v : Word) : State × Acc :=
  if !s.sramWritable r w then (s, .bus)
  else match s.memWrite false w (leBytes v.toNat 4) with
    | some t => (t, .ok 0)
    | none => (memEvent s true false (w / 8 * 8), .bus)

/-- The DRAM address of an address of the native window (R419), if it is within the data and the DRAM is ready. -/
def State.dramAddr (s : State) (a : Nat) : Option Nat :=
  let d := a - 0x80000000 + s.fld Fld.MEM_DRAM_WIN_BASE * 0x10000000
  if a < 0x80000000 || !s.on Fld.MEM_STATUS_DRAM_READY || s.dramLimit ≤ d then none else some d

/-- A read and a write of DRAM through the window. -/
def readDram (s : State) (a : Nat) : State × Acc :=
  match s.dramAddr a with
  | none => (s, .bus)
  | some d => if s.ueWord true d then (memEvent s true true (d / 8 * 8), .bus) else (s, .ok (BitVec.ofNat 32 (leNat (s.memRead true d 4))))
def writeDram (s : State) (a : Nat) (v : Word) : State × Acc :=
  match s.dramAddr a with
  | none => (s, .bus)
  | some d => match s.memWrite true d (leBytes v.toNat 4) with
    | some t => (t, .ok 0)
    | none => (memEvent s true true (d / 8 * 8), .bus)

/-- The program and data windows of the clause engines (R401): engine, data or not, word. -/
def clsWindow (a : Nat) : Option (Nat × Bool × Nat) :=
  if 0x0D100000 ≤ a && a < 0x0D200000 && (a - 0x0D100000) % 0x40000 < 0x4000 then
    some ((a - 0x0D100000) / 0x40000, false, (a - 0x0D100000) % 0x40000 / 4)
  else if 0x0D200000 ≤ a && a < 0x0D240000 && (a - 0x0D200000) % 0x10000 < 0x1000 then
    some ((a - 0x0D200000) / 0x10000, true, (a - 0x0D200000) % 0x10000 / 4)
  else none

/-! ### What a write of a register does -/

/-- The bits of a value that some access types cover. -/
def accMask (p : Access → Bool) (a : Nat) : Word := BitVec.ofNat 32 (accessBits p a)

/-- W1C fields written 1 clear (R5). -/
def clearW1c (s : State) (a : Nat) (v : Word) : State :=
  let m := accMask (fun t => t == .w1c) a &&& v
  if m = 0 then s else s.wr a (s.rd a &&& ~~~m)

/-- A write to a register that no chapter gives an action: RW fields take their bits, W1C bits clear, SH fields enter the open
generation, and everything else is ignored (R5, R560, R566). -/
def plainWrite (s : State) (a : Nat) (v : Word) : State :=
  let m := accMask (fun t => t == .sh) a
  let s := clearW1c (s.writeRw a v) a v
  if m = 0 then s else shWrite s a ((v &&& m) ||| (s.rd a &&& ~~~m))

/-- A write with a field's bits replaced by those the register holds: the field's write is ignored. -/
def keepField (s : State) (f : Fld) (v : Word) : Word := setField f.lo f.width v (s.fld f)

/-- A write to a group's ARM register (R566). -/
def armWrite (s : State) (g : ShGroup) (v : Word) : State :=
  clearW1c (writeArm s g (v.toNat.testBit g.arm.lo)) g.arm.reg v

/-- TIM_CTRL (R28): SERVO_EN and TSRC, then SNAP, and LOAD or ADJ_GO judged by the SERVO_EN that the write leaves. -/
def writeTimCtrl (s : State) (ce2 : Bool) (v : Word) : State :=
  let s := s.flag Fld.TIM_CTRL_SERVO_EN (v.getLsbD 4)
  let s := nextOr s (execTsrcChange (fieldOf 0 2 v) s)
  let s := if v.getLsbD 31 then nextOr s (execTimSnap s) else s
  if v.getLsbD 30 then nextOr s (execTimLoad ce2 (v.getLsbD 29) s)
  else if v.getLsbD 29 then nextOr s (execTimAdjGo ce2 s)
  else s

/-- TIM_AIRc_CFG (R48, R49). -/
def writeAirCfg (s : State) (c : Nat) (v : Word) : State :=
  let mu := fieldOf 28 2 v
  let ecp := v.getLsbD 30
  let s := clearW1c s (Reg.TIM_AIR_CFG c) v
  if v.getLsbD 31 then nextOr s (execAirTimelineEnable c mu ecp s)
  else if s.on (Fld.TIM_AIR_CFG_EN c) then nextOr s (execAirTimelineDisable c s)
  else
    let s := if mu = 3 then s else s.setFld (Fld.TIM_AIR_CFG_MU c) mu
    if ecp && s.mu c = 1 then s else s.flag (Fld.TIM_AIR_CFG_ECP c) ecp

end Sys2Proof.Machine
end

