-- ==== Sys2Proof/Machine/Writes.lean ====
section
/-! DEFINITION. Machine/Writes.lean: what a write to each register of the map does, block by block, and the router that every access
path goes through (R552 to R564). A block's function answers none where its chapter ends the write in a bus error. -/

namespace Sys2Proof.Machine

/-- TIM (R24 to R58); the pair TIM_INCR is committed by `commitPair`. -/
def writeTim (s : State) (r : Req) (a : Nat) (v : Word) : State :=
  if a = Reg.TIM_CTRL then writeTimCtrl s (r.perm == .ce 2) v
  else if a = Reg.TIM_AIR_ALPHA then nextOr s (execAirOffsetWrite false v s)
  else if a = Reg.TIM_AIR_BETA then nextOr s (execAirOffsetWrite true v s)
  else if let some c := ix Reg.TIM_AIR_CFG 32 a then writeAirCfg s c v
  else if let some n := ix Reg.TIM_TRG_CFG 64 a then writeTrgCfg s n v
  else if let some n := ix Reg.TIM_TRG_STAT 64 a then
    -- the W1C of SKIPPED clears SKIP_CNT too
    let t := plainWrite s a v
    if v.getLsbD 30 then t.setFld (Fld.TIM_TRG_STAT_SKIP_CNT n) 0 else t
  else plainWrite s a v

/-- The key registers of a MACsec channel (R70): SAK, salt and SSCI. -/
def keyReg (a : Nat) : Bool :=
  (List.range 32).any (fun i =>
    let n := i / 4
    let k := i / 2 % 2
    let base := if i % 2 = 0 then Reg.FPE_MSEC_TX_SAK n k 0 else Reg.FPE_MSEC_RX_SAK n k 0
    base ≤ a && a < base + 0x30)

/-- FPE (R60 to R103): the keys, which only the part reads, are kept. -/
def writeFpe (s : State) (a : Nat) (v : Word) : State :=
  if let some n := ix Reg.FPE_PORT_CFG 8 a then nextOr s (execPortConfigWrite (Fin.ofNat 8 n) v s)
  else if let some g := ix Reg.FPE_GRP_CFG 4 a then nextOr s (execPortGroupWrite (Fin.ofNat 4 g) v s)
  else if let some f := ix Reg.FPE_FLOW_CFG 256 a then
    if s.on (Fld.FPE_FLOW_CFG_EN f) then
      if v.getLsbD 31 then writeFlowCfg s f a v else disableFlow s f
    else if v.getLsbD 31 then nextOr s (execFlowArm (Fin.ofNat 256 f) v s)
    else s.writeRw a v
  else if Reg.FPE_FLOW_CFG 0 ≤ a && a < Reg.FPE_FLOW_CFG 256 then
    let f := (a - Reg.FPE_FLOW_CFG 0) / 0x100
    if [Reg.FPE_FLOW_CFG2 f, Reg.FPE_FLOW_RATE f, Reg.FPE_FLOW_WIN_UP f, Reg.FPE_FLOW_ADV f, Reg.FPE_FLOW_WIN_UL f].contains a then
      writeFlowCfg s f a v
    else plainWrite s a v
  else if keyReg a then s.wr a v
  else plainWrite s a v

/-- Is any array carrier enabled? -/
def State.anyAc (s : State) : Bool := (List.range 8).any (fun c => s.on (Fld.BFE_AC_CFG_EN c))

/-- BFE_ACa_CFG (R108). -/
def writeAcCfg (s : State) (c : Nat) (v : Word) : State :=
  if s.on (Fld.BFE_AC_CFG_EN c) then
    if v.getLsbD 31 then s else nextOr s (execAcDisable (Fin.ofNat 8 c) s)
  else if v.getLsbD 31 then nextOr s (execAcEnable (Fin.ofNat 8 c) v s)
  else s.writeRw (Reg.BFE_AC_CFG c) v

/-- BFE_WS_CMD (R145). -/
def writeWsCmd (s : State) (v : Word) : State :=
  let lib := Fin.ofNat 4 (fieldOf 24 2 v)
  let b := Fin.ofNat 32768 (fieldOf 0 15 v)
  nextOr s (match fieldOf 28 4 v with
    | 1 => execWsLoad lib b s
    | 2 => execWsLock lib b s
    | 3 => execWsUnlock lib b s
    | 4 => execWsInvalidate lib b s
    | 5 => execWsInvalidateLib lib s
    | op => execWsCmdBadOp (Fin.ofNat 16 op) s)

/-- BFE with the weight store (R107 to R138, R145, R169). -/
def writeBfe (s : State) (a : Nat) (v : Word) : State :=
  if a = Reg.BFE_CTRL then (if s.anyAc then s else s.writeRw a v)
  else if a = Reg.BFE_STRD_CFG then showLinks (writeStrdCfg s v)
  else if let some c := ix Reg.BFE_AC_CFG 8 a then showLinks (writeAcCfg s c v)
  else if let some f := ix Reg.BFE_FLOW_BIND 256 a then nextOr s (execFlowBind (Fin.ofNat 256 f) v s)
  else if a = Reg.BFE_WS_CTRL then
    s.writeRw a (if s.anyAc then keepField s Fld.BFE_WS_CTRL_N_TRX (keepField s Fld.BFE_WS_CTRL_CASC_POS v) else v)
  else if a = Reg.BFE_WS_CMD then writeWsCmd s v
  else if let some c := ix Reg.BFE_WS_AC_CFG 8 a then (if s.on (Fld.BFE_AC_CFG_EN c) then s else s.writeRw a v)
  else if let some f := ix Reg.BFE_WS_FLOW_CFG 256 a then (if s.on (Fld.FPE_FLOW_CFG_EN f) then s else s.writeRw a v)
  else plainWrite s a v

/-- LPE (R170 to R195). -/
def writeLpe (s : State) (a : Nat) (v : Word) : State :=
  if let some c := ix Reg.LPE_CAR_CFG 32 a then writeCarCfg s c v
  else if let some k := ix Reg.LPE_FACET_NCOCTL 4 a then armWrite s (.ncoplan k) v
  else if let some c := ix Reg.LPE_CAR_SYMCTL 32 a then armWrite s (.symcfg c) v
  else plainWrite s a v

/-- Is the request the adaptation firmware's (R213)? -/
def Req.firmware (r : Req) : Bool :=
  match r.perm with
  | .y _ => true
  | _ => false

/-- LDE (R199 to R233). -/
def writeLde (s : State) (r : Req) (a : Nat) (v : Word) : State :=
  if let some k := ix Reg.LDE_FACET_TCFG 4 a then writeTcfg s k v
  else if Reg.LDE_FACET_TERM 0 0 ≤ a && a < Reg.LDE_FACET_TERM 4 0 then
    let k := (a - Reg.LDE_FACET_TERM 0 0) / 0x200
    let t := (a - Reg.LDE_FACET_TERM 0 0) % 0x200 / 4
    if t < 80 then writeTerm s k t v else s
  else if 0x08100000 ≤ a && a < 0x08140000 then
    let p := (a - 0x08100000) / 0x1000
    let ofs := a - Reg.LDE_PATH_CFG p
    if ofs = 0 then writePathCfg s p v
    else if a = Reg.LDE_PATH_CFR p then writeCfr s p v
    else if a = Reg.LDE_PATH_NB p then writeNb s p v
    else if a = Reg.LDE_PATH_BANKSEL p then writeBanksel s p r.firmware v
    else if a = Reg.LDE_PATH_BANKCTL p then armWrite s (.dpdbank p) v
    else if a = Reg.LDE_PATH_STAT p then writeFrozen s p v
    else if 0x100 ≤ ofs && ofs < 0x240 then writeStg s p ((ofs - 0x100) / 4) r.firmware v
    else plainWrite s a v
  else plainWrite s a v

/-- CVA_WFMk_CFG (R260, R261, R274). -/
def writeWfmCfg (s : State) (k : Nat) (v : Word) : State :=
  let was := s.on (Fld.CVA_WFM_STAT_PLAYING k)
  let t := if v.getLsbD 31 then nextOr s (execWfmGo (Fin.ofNat 4 k) v s) else writeWfm s k (Reg.CVA_WFM_CFG k) v
  if v.getLsbD 30 && was then endPlay t k else t

/-- CVA (R236 to R274). -/
def writeCva (s : State) (a : Nat) (v : Word) : State :=
  if a = Reg.CVA_CAL_CFG then writeCalCfg s v
  else if a = Reg.CVA_CAL_CMD then
    match fieldOf 30 2 v with
    | 1 => nextOr s (execCalRunOnce s)
    | 2 => recal s false (fieldOf 0 6 v)
    | 3 => recal s true (fieldOf 0 6 v)
    | _ => s
  else if let some k := ix Reg.CVA_FACET_CFG 4 a then (if v.getLsbD 31 then enableFacet s k v else disableFacet s k v)
  else if let some j := ix Reg.CVA_ORX_CFG 8 a then s.writeRw a (if j = 0 then v else keepField s (Fld.CVA_ORX_CFG_CALSRC j) v)
  else if let some k := ix Reg.CVA_WFM_CFG 4 a then writeWfmCfg s k v
  else if let some k := ix Reg.CVA_WFM_RANGE 4 a then writeWfm s k a v
  else if let some k := ix Reg.CVA_WFM_PATHS 4 a then writeWfm s k a v
  else if let some k := ix Reg.CVA_WFM_GAIN 4 a then writeWfm s k a v
  else if let some p := ix Reg.CVA_TX_CFG 64 a then nextOr s (execPathEnableWrite false (Fin.ofNat 64 p) v s)
  else if let some p := ix Reg.CVA_RX_CFG 64 a then nextOr s (execPathEnableWrite true (Fin.ofNat 64 p) v s)
  else if let some p := ix Reg.CVA_TX_RCTL 64 a then writeRctl s p v
  else if Reg.CVA_WFM_D 0 0 ≤ a && a < Reg.CVA_WFM_D 4 0 then
    writeWfmD s ((a - Reg.CVA_WFM_D 0 0) / 0x40000) ((a - Reg.CVA_WFM_D 0 0) % 0x40000 / 4) v
  else plainWrite s a v

/-- RCS (R275 to R298). -/
def writeRcs (s : State) (a : Nat) (v : Word) : State :=
  if a = Reg.RCS_CTRL then writeCtrl s v
  else if a = Reg.RCS_CMD then rcsCmd s (fieldOf 28 4 v) (fieldOf 0 6 v)
  else if a = Reg.RCS_SYNC_CFG then clearW1c (writeSyncCfg s v) a v
  else if Reg.RCS_TC_FREQ 0 ≤ a && a < Reg.RCS_TC_FREQ 64 then writeEntry s ((a - Reg.RCS_TC_FREQ 0) / 0x20) a v
  else plainWrite s a v

/-- Is any of some lanes not OFF? -/
def State.anyLaneOn (s : State) (ls : List Nat) : Bool := ls.any (fun l => s.laneState l != 0)

/-- The lanes of Strand link x: those with role STRAND of its group of four (R303). -/
def strandLanes (x : Nat) : List Nat := (List.range 4).map (fun i => 8 + 4 * x + i)

/-- SRD_LANEl_TXEQ: a sum above 63 is ignored and sets BAD_CFG. -/
def writeTxeq (s : State) (l : Nat) (v : Word) : State :=
  let g (f : Fld) : Nat := fieldOf f.lo f.width v
  if 63 < g (Fld.SRD_LANE_TXEQ_PRE l) + g (Fld.SRD_LANE_TXEQ_MAIN l) + g (Fld.SRD_LANE_TXEQ_POST l) then
    s.flag (Fld.SRD_LANE_STAT_BAD_CFG l) true
  else s.writeRw (Reg.SRD_LANE_TXEQ l) v

/-- SRD (R299 to R324). -/
def writeSrd (s : State) (a : Nat) (v : Word) : State :=
  if a = Reg.SRD_CTRL then
    let v := if s.anyLaneOn (List.range 8) then keepField s Fld.SRD_CTRL_SDREF0_SEL v else v
    s.writeRw a (if s.anyLaneOn ((List.range 8).map (· + 8)) then keepField s Fld.SRD_CTRL_SDREF1_SEL v else v)
  else if let some x := ix Reg.SRD_S_CFG 2 a then
    s.writeRw a (if s.anyLaneOn (strandLanes x) then keepField s (Fld.SRD_S_CFG_RATE x) v else v)
  else if let some l := ix Reg.SRD_LANE_CFG 16 a then nextOr s (execLaneConfigWrite (Fin.ofNat 16 l) false v s)
  else if let some l := ix Reg.SRD_LANE_TRATE 16 a then nextOr s (execLaneConfigWrite (Fin.ofNat 16 l) true v s)
  else if let some l := ix Reg.SRD_LANE_TXEQ 16 a then writeTxeq s l v
  else if let some l := ix Reg.SRD_LANE_RXEQ 16 a then
    s.writeRw a (if s.on (Fld.SRD_LANE_RXEQ_ADAPT_EN l) then keepField s (Fld.SRD_LANE_RXEQ_CTLE l) v else v)
  else if let some l := ix Reg.SRD_LANE_PRBS 16 a then writePrbs s l v
  else plainWrite s a v

/-- DSP (R379, R387). -/
def writeDsp (s : State) (a : Nat) (v : Word) : State :=
  if a = Reg.DSP_CTRL then writeDspCtrl s v
  else if let some n := ix Reg.DSP_Y_MBI 4 a then hostPush s n v
  else plainWrite s a v

/-- CLS (R401): slots of vendor clauses end a write in a bus error; of a user slot EN is written. -/
def writeCls (s : State) (a : Nat) (v : Word) : Option State :=
  if let some e := ix Reg.CLS_CE_CTRL 4 a then some (writeCeCtrl s e v)
  else if let some e := ix Reg.CLS_CE_EVSET 4 a then some (ceEvset s e (fieldOf 0 8 v))
  else if 0x0D000000 ≤ a && a < 0x0D000400 && 0x40 ≤ a % 0x100 && a % 0x100 < 0x80 then
    let e := a / 0x100 % 16
    let n := (a % 0x100 - 0x40) / 4
    if 12 ≤ n && s.on (Fld.CLS_CE_SLOT_USER e n) then some (s.flag (Fld.CLS_CE_SLOT_EN e n) (v.getLsbD 31)) else none
  else some (plainWrite s a v)

/-- MEM and DMV (R417 to R429): a channel command of a path other than the owner ends in a bus error. -/
def writeMem (s : State) (r : Req) (a : Nat) (v : Word) : Option State :=
  if a = Reg.MEM_CAP_CMD then
    some (nextOr s (match fieldOf 30 2 v with
      | 1 => execCapRequest r.perm (Fin.ofNat 256 (fieldOf 0 8 v)) s
      | 2 => execCapRelease r.perm (Fin.ofNat 256 (fieldOf 0 8 v)) s
      | 3 => execCapReleaseAll r.perm s
      | _ => .next s))
  else if a = Reg.DMV_ALLOC then some (if v.getLsbD 31 then nextOr s (execDmvAllocReq r.perm s) else s)
  else if let some c := ix Reg.DMV_CH_LIST 32 a then some (writeList s c v)
  else if let some c := ix Reg.DMV_CH_CMD 32 a then
    if !s.ownsCh r.perm c then none
    else some (match fieldOf 29 3 v with
      | 1 => goCh s c
      | 2 => stopCh s c
      | 3 => abortCh s c false
      | 4 => releaseCh s c
      | _ => s)
  else some (plainWrite s a v)

/-- Is this a register of the Locket that a seal makes read-only (R456)? -/
def sealedReg (a : Nat) : Bool := locketRegs.contains a

/-- MON, FEN, PMON and the Locket (R435 to R458). -/
def writeMon (s : State) (r : Req) (a : Nat) (v : Word) : State :=
  if let some x := ix Reg.MON_SEL 2 a then
    (if v.getLsbD 31 then monPulse (s.writeRw a v) x else s.writeRw a v)
  else if let some x := ix Reg.MON_URG 2 a then nextOr s (execMonUrgentRequest (Fin.ofNat 2 x) none v s)
  else if let some k := ix Reg.FEN_FACET_BUS 4 a then writeFebBus s k v
  else if let some k := ix Reg.FEN_FACET_CTL 4 a then armWrite s (.fetable k) v
  else if a = Reg.LKT_CTRL then
    let path := pathCode r.path
    if fieldOf 16 16 v = 0x5EA1 then sealFirst s path
    else if fieldOf 16 16 v = 0xA15E then sealSecond s path
    else s
  else if sealedReg a then (if s.on Fld.LKT_STAT_SEALED then s else settle s (s.writeRw a v))
  else if let some m := ix Reg.PMON_CFG 64 a then writePmonCfg s m v
  else if let some m := ix Reg.PMON_PER 64 a then (if s.on (Fld.PMON_CFG_EN m) then s else s.writeRw a v)
  else if let some m := ix Reg.PMON_LO 64 a then (if s.on (Fld.PMON_CFG_EN m) then s else s.writeRw a v)
  else settle s (plainWrite s a v)

/-- PWS (R464 to R479): KEEP_SEL bit 6 reads 1. -/
def writePws (s : State) (a : Nat) (v : Word) : State :=
  if a = Reg.PWS_MODE then
    let t := s.writeRw a v
    if v.getLsbD 31 then modeRequest t else t
  else if a = Reg.PWS_KEEP then s.writeRw a (v ||| 0x40)
  else plainWrite s a v

/-- FLT (R497, R498, R502, R575). -/
def writeFlt (s : State) (a : Nat) (v : Word) : State :=
  if a = Reg.FLT_CTRL then refreshHub (s.writeRw a v)
  else if a = Reg.FLT_CLEAR then
    let s := if v.getLsbD 31 then nextOr s (execFltClearAll s) else s
    if v.getLsbD 30 then settle s (clearSource s (fieldOf 0 6 v)) else s
  else if a = Reg.FLT_HOST then nextOr s (execFltHostWrite v s)
  else if a = Reg.FLT_HOST_KICK then nextOr s (execHostWatchdogKick s)
  else if a = Reg.FLT_LOG_POP then nextOr s (execFltLogPop s)
  else settle s (plainWrite s a v)

/-- BOOT (R505, R522). -/
def writeBoot (s : State) (a : Nat) (v : Word) : State :=
  if a = Reg.BOOT_CTRL then (if fieldOf 16 16 v = 0xB007 then reboot s else s)
  else if a = Reg.BOOT_FL_CMD then
    let op := fieldOf 28 4 v
    if 1 ≤ op && op ≤ 6 then flCommand s op (fieldOf 0 2 v) (BitVec.ofNat 8 (fieldOf 16 8 v)) else s
  else if (ix Reg.BOOT_FL_BUF 64 a).isSome then (if s.on Fld.BOOT_FL_STAT_BUSY then s else s.wr a v)
  else plainWrite s a v

/-! ### The persona map (R347) -/

/-- A persona word's native address. -/
def wordAddr (w : Nat) : Nat := 0x10000000 + 4 * w

/-- A read of a persona word: reserved words read 0; the chip ID is 0x1640; words without a layout read as they were stored. -/
def readWord (s : State) (w : Nat) : State × Half :=
  if 0x3000 ≤ w && w < 0x3F00 then (s, 0)
  else if (regRow (wordAddr w)).isSome then (afterRead s (wordAddr w), (s.rd (wordAddr w)).setWidth 16)
  else (s, if w = 0 then 0x1640 else s.lgc.words.at w)

/-- LINK_EN and OPT_MASK of a link (R329): a write of LINK_EN = 0 takes it to A. -/
def writeLinkCtrl (s : State) (n : Nat) (v : Word) : State :=
  let t := s.writeRw (Reg.LGC_LINK_CTRL n) v
  if v.getLsbD 15 then nextOr t (execCpriLinkEnable (Fin.ofNat 4 n) t)
  else if s.cpri n = 0 then t else moveLink t n 0

/-- A write of a persona word. -/
def writeWord (s : State) (w : Nat) (v : Half) : State :=
  let a := wordAddr w
  if 0x3000 ≤ w && w < 0x3F00 then s
  else if let some n := ix Reg.LGC_LINK_CTRL 4 a then writeLinkCtrl s n (v.setWidth 32)
  else if (regRow a).isSome then plainWrite s a (v.setWidth 32)
  else if w = 0 then s
  else s.updLgc (fun l => { l with words := l.words.put w v })

/-- The LGC block as the native map reaches it. -/
def readLgc (s : State) (a : Nat) : State × Word :=
  if a < 0x10010000 then
    let t := readWord s ((a - 0x10000000) / 4)
    (t.1, t.2.setWidth 32)
  else (s, s.rd a)
def writeLgc (s : State) (a : Nat) (v : Word) : State :=
  if a < 0x10010000 then writeWord s ((a - 0x10000000) / 4) (v.setWidth 16) else s

/-! ### The router -/

/-- A write to a register of a block. -/
def writeReg (s : State) (r : Req) (a : Nat) (v : Word) : Option State :=
  match a / 0x1000000 with
  | 0x00 => some (writeBoot s a v)
  | 0x01 => some (writeFlt s a v)
  | 0x02 => some (writePws s a v)
  | 0x03 => some (writeTim s r a v)
  | 0x04 => some (writeFpe s a v)
  | 0x06 => some (writeBfe s a v)
  | 0x07 => some (writeLpe s a v)
  | 0x08 => some (writeLde s r a v)
  | 0x09 => some (writeCva s a v)
  | 0x0A => some (writeRcs s a v)
  | 0x0B => some (writeSrd s a v)
  | 0x0C => some (writeDsp s a v)
  | 0x0D => writeCls s a v
  | 0x0E => writeMem s r a v
  | 0x0F => some (writeMon s r a v)
  | 0x10 => some (writeLgc s a v)
  | _ => some (plainWrite s a v)

/-- The commit of a 64-bit pair (R564): both halves in one cycle. -/
def commitPair (s : State) (r : Req) (lo : Nat) (l h : Word) : State :=
  if lo = Reg.TIM_INCR_LO then
    if s.servoOwns (r.perm == .ce 2) then s else setIncrement s (h.toNat % 256 * 2 ^ 32 + l.toNat)
  else if lo = Reg.BFE_FORCE_TX_LO then nextOr s (execBfeForceWrite false (h ++ l) s)
  else if lo = Reg.BFE_FORCE_RX_LO then nextOr s (execBfeForceWrite true (h ++ l) s)
  else plainWrite (plainWrite s lo l) (lo + 4) h

/-- A write of a _HI commits the pair, with the lower half held or else the register's own (R564). -/
def writeHi (s : State) (r : Req) (lo : Nat) (h : Word) : State :=
  let path := pathCode r.path
  let l := (heldHalf s.acc.heldWr path lo).getD (s.rd lo)
  let t := s.updAcc (fun x => { x with heldWr := if (heldHalf x.heldWr path lo).isSome then x.heldWr.put path none else x.heldWr })
  commitPair t r lo l h

/-- A write of a _LO is held (R564). -/
def holdWrite (s : State) (r : Req) (lo : Nat) (v : Word) : State :=
  s.updAcc (fun x => { x with heldWr := x.heldWr.put (pathCode r.path) (some { lo, half := v }) })

/-- Any access of a path ends a seal sequence that its last access began (R456), unless it is of LKT_CTRL. -/
def dropSeal (s : State) (r : Req) (a : Nat) : State :=
  if a = Reg.LKT_CTRL || !s.mon.sealOpen.testBit (pathCode r.path) then s
  else s.updMon (fun m => { m with sealOpen := putBit m.sealOpen (pathCode r.path) false })

/-- A 32-bit read of the native map (R552), VP_WIN_D_LO taken as any other word. -/
def plainRead (s : State) (r : Req) (a : Nat) : State × Acc :=
  let s := s.updMon (fun m => { m with sealOpen := putBit m.sealOpen (pathCode r.path) false })
  if !s.reaches a then (s, .bus)
  else if 0x80000000 ≤ a then readDram s a
  else if 0x40000000 ≤ a then readSram s a
  else if let some w := dspWindow a then readSram s w
  else if let some (e, d, i) := clsWindow a then
    (s, .ok (if d then (s.ce e).data.at i else (s.ce e).prog.at i))
  else if 0x10000000 ≤ a then
    let t := readLgc s a
    (t.1, .ok t.2)
  else
    let t := readReg s r a
    (t.1, .ok t.2)

/-- A 32-bit write of the native map (R552, R555), VP_WIN_D_HI taken as any other word. -/
def mapWrite (s : State) (r : Req) (a : Nat) (v : Word) : State × Acc :=
  let s := dropSeal s r a
  if !s.reaches a then (s, .bus)
  else if 0x80000000 ≤ a then writeDram s a v
  else if 0x40000000 ≤ a then writeSram s r a v
  else if let some w := dspWindow a then writeSram s r w v
  else if let some (e, d, i) := clsWindow a then
    if d && 768 ≤ i && e != 0 && !s.persona && !s.on (Fld.CLS_CE_CTRL_RUN e) then
      (s.updCe e (fun c => { c with data := c.data.put i v }), .ok 0)
    else (s, .bus)
  else if r.perm == .rma && keyReg a && !r.prot then (s, .fault)
  else if pairLo a then (holdWrite s r a v, .ok 0)
  else if pairHi a then (writeHi s r (a - 4) v, .ok 0)
  else match writeReg s r a v with
    | some t => (t, .ok 0)
    | none => (s, .bus)

/-! ### The vendor page's window (R350) -/

/-- Are accesses of the window possible on this request: the persona's registers answer? -/
def State.vpWindow (s : State) (a reg : Nat) : Bool := a == reg && s.persona && s.reaches a

/-- A bus error or permission fault of the window sets the CFG alarm. -/
def windowFault (s : State) : State := refreshHub (setAlarm s 1)

/-- The window address. -/
def State.windowAddr (s : State) : Nat := s.fld Fld.VP_WIN_A_HI_ADDR * 65536 + s.fld Fld.VP_WIN_A_LO_ADDR

/-- A read of VP_WIN_D_LO: the native read it makes, with the permissions of MSPI. Reached through the window itself it reads as
any other word. -/
def windowRead (s : State) (path : Path) : State × Word :=
  match plainRead s { path, perm := .mspi } s.windowAddr with
  | (t, .ok v) => (t.setFld Fld.VP_WIN_D_HI_DATA (v.toNat / 65536), BitVec.ofNat 32 (v.toNat % 65536))
  | (t, _) => (windowFault (t.setFld Fld.VP_WIN_D_HI_DATA 0), 0)

/-- A write of VP_WIN_D_HI: the native write it makes. -/
def windowWrite (s : State) (path : Path) (h : Half) : State :=
  let s := s.setFld Fld.VP_WIN_D_HI_DATA h.toNat
  match mapWrite s { path, perm := .mspi } s.windowAddr (BitVec.ofNat 32 (h.toNat * 65536 + s.fld Fld.VP_WIN_D_LO_DATA)) with
  | (t, .ok _) => t
  | (t, _) => windowFault t

/-- A 32-bit read of the native map (R552). -/
def nativeRead (s : State) (r : Req) (a : Nat) : State × Acc :=
  if s.vpWindow a Reg.VP_WIN_D_LO then
    let t := windowRead s r.path
    (t.1, .ok t.2)
  else plainRead s r a

/-- A 32-bit write of the native map (R552, R555). -/
def nativeWrite (s : State) (r : Req) (a : Nat) (v : Word) : State × Acc :=
  if s.vpWindow a Reg.VP_WIN_D_HI then (windowWrite s r.path (v.setWidth 16), .ok 0) else mapWrite s r a v

end Sys2Proof.Machine
end

