-- ==== Sys2Proof/Machine/Mover.lean ====
section
/-! DEFINITION. Machine/Mover.lean: the elements that a Data Mover channel performs (R425 to R433). -/

namespace Sys2Proof.Machine

/-- An element (R425). -/
structure Elem where
  src : Nat
  dst : Nat
  last : Bool
  fill : Bool
  srcDram : Bool
  dstDram : Bool
  nextDram : Bool
  zero : Nat
  len : Nat
  next : Nat
deriving DecidableEq, Repr

/-- An element's four words. -/
def Elem.ofWords (w0 w1 w2 w3 : Word) : Elem :=
  { src := w0.toNat, dst := w1.toNat, last := w2.getLsbD 31, fill := w2.getLsbD 30, srcDram := w2.getLsbD 29
    dstDram := w2.getLsbD 28, nextDram := w2.getLsbD 27, zero := fieldOf 24 3 w2, len := fieldOf 0 24 w2, next := w3.toNat }

/-- Where a range lies: in memory, DRAM or SRAM, at an address, up to a bound; or among the registers of the native map. -/
inductive Place where
  | mem (dram : Bool) (a bound : Nat)
  | reg (a : Nat)
deriving DecidableEq, Repr

/-- The physical place of an address (R419, R426, R428). -/
def State.place (s : State) (dram : Bool) (a : Nat) : Place :=
  if dram then .mem true a s.dramLimit
  else if 0x40000000 ≤ a && a < 0x42000000 then .mem false a 0x42000000
  else if 0x80000000 ≤ a then
    let base := s.fld Fld.MEM_DRAM_WIN_BASE * 0x10000000
    .mem true (a - 0x80000000 + base) (min s.dramLimit (0x80000000 + base))
  else .reg a

/-- Does a place meet R426 for a length? -/
def Place.aligned (p : Place) (len : Nat) : Bool :=
  match p with
  | .mem _ _ _ => true
  | .reg a => a % 4 == 0 && len % 4 == 0

/-- Does an element keep R425 and R426? -/
def State.elemOk (s : State) (e : Elem) : Bool :=
  e.zero == 0 && (e.last || e.next % 16 == 0)
    && (e.len == 0 || ((e.fill || (s.place e.srcDram e.src).aligned e.len) && (s.place e.dstDram e.dst).aligned e.len))

/-- Is an element copied in descending order (R428)? -/
def State.descends (s : State) (e : Elem) : Bool :=
  !e.fill && match s.place e.srcDram e.src, s.place e.dstDram e.dst with
  | .mem d a _, .mem d' b _ => d == d' && a < b && b < a + e.len
  | _, _ => false

/-- Why one byte of memory cannot be read, as CAUSE of R432; 0 when it can. -/
def State.byteCause (s : State) (dram : Bool) (a bound : Nat) : Nat :=
  if bound ≤ a || (if dram then !s.on Fld.MEM_STATUS_DRAM_READY else !s.reaches (a / 4 * 4)) then 2
  else if s.ueWord dram a then 1 else 0

/-- Can a channel write one byte of a chunk in memory? An uncorrectable word takes only a write of all its bytes (R406, R409). -/
def State.byteWritable (s : State) (r : Req) (dram : Bool) (a bound ofs n : Nat) : Bool :=
  let b := a + ofs
  s.byteCause dram b bound != 2 && (dram || s.sramWritable r b) && (!s.ueWord dram b || (n == 8 && a % 8 == 0))

/-- The parts of a range that are processed one after the other: offset and length. In memory they end at every `step` bytes of its
address. -/
def chunks (a step len : Nat) : List (Nat × Nat) :=
  (List.range ((a + len + step - 1) / step - a / step)).map (fun i =>
    let lo := max a ((a / step + i) * step)
    (lo - a, min (a + len) ((a / step + i + 1) * step) - lo))

/-- An element's parts, in processing order. -/
def State.elemChunks (s : State) (e : Elem) : List (Nat × Nat) :=
  let l := match (if e.fill then Place.mem false 0 0 else s.place e.srcDram e.src), s.place e.dstDram e.dst with
    | .mem _ _ _, .mem _ b _ => chunks b 8 e.len
    | _, _ => chunks 0 4 e.len
  if s.descends e then l.reverse else l

/-- A run of an element: the state, the bytes written, and the CAUSE that ended it. -/
structure Run where
  s : State
  wrote : Nat
  cause : Nat

/-- The bytes of a part that the channel reads, up to the failing byte in processing order, and the CAUSE. -/
def readPart (s : State) (r : Req) (e : Elem) (ofs n : Nat) : State × List Byte × Nat :=
  if e.fill then (s, (List.range n).map (fun i => BitVec.ofNat 8 (e.src / 256 ^ ((ofs + i) % 4))), 0)
  else match s.place e.srcDram e.src with
    | .mem dram a bound =>
      let order := if s.descends e then (List.range n).reverse else List.range n
      let good := (order.takeWhile (fun i => s.byteCause dram (a + ofs + i) bound == 0)).length
      let cause := match order[good]? with
        | some i => s.byteCause dram (a + ofs + i) bound
        | none => 0
      let t := if cause = 1 then memEvent s true dram ((a + ofs + order.getD good 0) / 8 * 8) else s
      let lo := a + ofs + (if s.descends e then n - good else 0)
      if dram || sramKnown (a + ofs) then (t, s.memRead dram lo good, cause)
      else (t.tookFree, leBytes (t.free (8 * good)).toNat good, cause)
    | .reg a => match nativeRead s r (a + ofs) with
      | (t, .ok v) => (t, leBytes v.toNat 4, 0)
      | (t, .bus) => (t, [], 2)
      | (t, .fault) => (t, [], 3)

/-- Write what was read of a part; `cause` is why the reading ended. -/
def writePart (x : Run) (r : Req) (e : Elem) (ofs n : Nat) (l : List Byte) (cause : Nat) : Run :=
  let s := x.s
  match s.place e.dstDram e.dst with
  | .mem dram a bound =>
    let down := s.descends e
    let lo := ofs + (if down then n - l.length else 0)
    let order := if down then (List.range l.length).reverse else List.range l.length
    let good := (order.takeWhile (fun i => s.byteWritable r dram a bound (lo + i) l.length)).length
    let kept := if down then l.drop (l.length - good) else l.take good
    let at' := a + lo + (if down then l.length - good else 0)
    let t := if good < l.length && s.ueWord dram (a + lo + order.getD good 0) then memEvent s true dram ((a + lo + order.getD good 0) / 8 * 8) else s
    { s := if good = 0 then t else (t.memWrite dram at' kept).getD t, wrote := x.wrote + good, cause := if good < l.length then 2 else cause }
  | .reg a =>
    if l.length < 4 then { x with cause }
    else match nativeWrite s r (a + ofs) (BitVec.ofNat 32 (leNat l)) with
      | (t, .ok _) => { s := t, wrote := x.wrote + 4, cause }
      | (t, .bus) => { s := t, wrote := x.wrote, cause := 2 }
      | (t, .fault) => { s := t, wrote := x.wrote, cause := 3 }

/-- Process one part, unless the run has ended or `most` bytes are written. -/
def movePart (r : Req) (e : Elem) (most : Nat) (x : Run) (c : Nat × Nat) : Run :=
  if x.cause != 0 || most ≤ x.wrote then x
  else
    let n := min c.2 (most - x.wrote)
    let ofs := if x.s.descends e then c.1 + c.2 - n else c.1
    let p := readPart x.s r e ofs n
    writePart { x with s := p.1 } r e ofs n p.2.1 p.2.2

/-- Perform the first `most` bytes of an element in processing order. -/
def runElem (s : State) (r : Req) (e : Elem) (most : Nat) : Run :=
  (s.elemChunks e).foldl (movePart r e most) { s, wrote := 0, cause := 0 }

/-- Read one word of an element: the value, or CAUSE 5, 2 or 3. -/
def readDescWord (s : State) (r : Req) (dram : Bool) (a : Nat) : State × Word × Nat :=
  match s.place dram a with
  | .mem d b bound =>
    match s.byteCause d b bound with
    | 0 => if d || sramKnown b then (s, BitVec.ofNat 32 (leNat (s.memRead d b 4)), 0) else (s.tookFree, s.free 32, 0)
    | 1 => (memEvent s true d (b / 8 * 8), 0, 5)
    | k => (s, 0, k)
  | .reg b => match nativeRead s r b with
    | (t, .ok v) => (t, v, 0)
    | (t, .bus) => (t, 0, 2)
    | (t, .fault) => (t, 0, 3)

/-- Fetch the current element of channel c. -/
def fetchElem (s : State) (r : Req) (c : Nat) : State × Elem × Nat :=
  let a := (s.rd (Reg.DMV_CH_CUR c)).toNat
  let dram := s.mem.curDram.at c
  let w0 := readDescWord s r dram a
  let w1 := readDescWord w0.1 r dram (a + 4)
  let w2 := readDescWord w1.1 r dram (a + 8)
  let w3 := readDescWord w2.1 r dram (a + 12)
  let cause := if w0.2.2 != 0 then w0.2.2 else if w1.2.2 != 0 then w1.2.2 else if w2.2.2 != 0 then w2.2.2 else w3.2.2
  (if w0.2.2 != 0 then w0.1 else if w1.2.2 != 0 then w1.1 else if w2.2.2 != 0 then w2.1 else w3.1,
   Elem.ofWords w0.2.1 w1.2.1 w2.2.1 w3.2.1, cause)

/-- What the current element of a channel comes to: the element, absent when it could not be read, and the run of its first `most` bytes. -/
def runCurrent (s : State) (c : Nat) (most : Option Nat) : Option Elem × Run :=
  let r := s.reqOf (.dm (Fin.ofNat 32 c))
  let f := fetchElem s r c
  if f.2.2 != 0 then (none, { s := f.1, wrote := 0, cause := f.2.2 })
  else if !f.1.elemOk f.2.1 then (some f.2.1, { s := f.1, wrote := 0, cause := 4 })
  else (some f.2.1, runElem f.1 r f.2.1 (most.getD f.2.1.len))

/-- Count the bytes a channel wrote, and its element's time (R451). -/
def countRun (s : State) (c wrote : Nat) : State :=
  let s := s.bump (Fld.DMV_CH_CNT_BYTES c) wrote
  pmonSample s 14 (some c) (tickNs (s.time.now - s.mem.elemFrom.at c))

/-- CUR moves to the element after e. -/
def nextElem (s : State) (c : Nat) (e : Elem) : State :=
  (s.wr (Reg.DMV_CH_CUR c) (BitVec.ofNat 32 e.next)).updMem (fun m =>
    { m with curDram := m.curDram.put c e.nextDram, elemFrom := m.elemFrom.put c s.time.now })

/-- DMV_ELEMENT_DONE (R427): the channel goes on with the next element, or ends DONE. -/
def execDmvElementDone (c : Fin 32) (s : State) : Out :=
  if s.chState c != 2 then .next s
  else match runCurrent s c none with
    | (some e, x) =>
      if x.cause != 0 then .next s
      else
        let t := countRun x.s c x.wrote
        .next (if e.last then endCh t c 5 else nextElem t c e)
    | (none, _) => .next s

/-- DMV_STOPPED (R429 to R431): after STOP the element in progress has finished; after ABORT its last `left` bytes are not written.
When the last write of the list is done, the channel ends DONE. -/
def execDmvStopped (c : Fin 32) (left : Nat) (s : State) : Out :=
  if s.chState c != 3 then .next s
  else match s.mem.drain.at c with
    | .no => .next s
    | .stop => match runCurrent s c none with
      | (some e, x) =>
        if x.cause != 0 then .next s
        else
          let t := setDrain (countRun x.s c x.wrote) c .no
          .next (if e.last then endCh t c 5 else endCh (nextElem t c e) c 4)
      | (none, _) => .next s
    | .abort release =>
      let len := match runCurrent s c (some 0) with
        | (some e, _) => e.len
        | (none, _) => 0
      match runCurrent s c (some (len - left)) with
      | (some e, x) =>
        if x.cause != 0 || len < left then .next s
        else
          let t := setDrain (x.s.bump (Fld.DMV_CH_CNT_BYTES c) x.wrote) c .no
          .next (if release then freeCh t c
            else if e.last && left = 0 then endCh t c 5
            else endCh ((t.setFld (Fld.DMV_CH_RESIDUE_RESIDUE c) left).flag (Fld.DMV_CH_STAT_ABORTED c) true) c 4)
      | (none, _) => .next s

/-- DMV_DESCRIPTOR_ERROR (R432). The residue of an element that could not be read is not stated: it is free (assumption log 2). -/
def execDmvDescriptorError (c : Fin 32) (s : State) : Out :=
  if s.chState c != 2 && s.chState c != 3 then .next s
  else
    let p := runCurrent s c none
    let x := p.2
    if x.cause = 0 then .next s
    else
      let t := x.s.bump (Fld.DMV_CH_CNT_BYTES c) x.wrote
      let t := match p.1 with
        | some e => t.setFld (Fld.DMV_CH_RESIDUE_RESIDUE c) (e.len - x.wrote)
        | none => (t.setFld (Fld.DMV_CH_RESIDUE_RESIDUE c) (t.free 24).toNat).tookFree
      let t := (setDrain t c .no).setFld (Fld.DMV_CH_STAT_CAUSE c) x.cause
      .next (if s.mem.drain.at c = .abort true then freeCh t c else endCh t c 6)

end Sys2Proof.Machine
end

