-- ==== Sys2Proof/Machine/Paths.lean ====
section
/-! DEFINITION. Machine/Paths.lean: the access paths of the native map and of the persona's words: remote memory access, MSPI, JTAG,
LDG and STG, LD and ST, C&M messages and the vendor-page window (R99, R345, R346, R350, R378, R391, R556 to R564). -/

namespace Sys2Proof.Machine

/-- Read words at ascending addresses until one fails: the words read, and whether all were. -/
def readWords (r : Req) : Nat → Nat → State → State × List Nat × Bool
  | 0, _, s => (s, [], true)
  | n + 1, a, s => match nativeRead s r a with
    | (t, .ok v) => match readWords r n (a + 4) t with
      | (u, l, ok) => (u, v.toNat :: l, ok)
    | (t, _) => (t, [], false)

/-- Write words at ascending addresses until one fails; the words before it stay written. -/
def writeWords (r : Req) : List Word → Nat → State → State × Bool
  | [], _, s => (s, true)
  | v :: l, a, s => match nativeWrite s r a v with
    | (t, .ok _) => writeWords r l (a + 4) t
    | (t, _) => (t, false)

/-! ### Remote memory access (R99, R100) -/

/-- Does the part accept a request (R99)? -/
def State.rmaAccepts (s : State) (q : RmaReq) : Bool :=
  s.on Fld.FPE_RMA_CFG_EN && (q.elem == s.fld Fld.FPE_RMA_CFG_ELEM || q.elem == 0xFFFF) && q.addr / 2 ^ 32 == 0 && q.addr % 4 == 0
    && q.len % 4 == 0 && 4 ≤ q.len && q.len ≤ 1024 && (q.kind == 0 || s.on Fld.FPE_RMA_CFG_WR_EN)

/-- Send a response, sampled by PMON (R451); a failure response counts in FAIL. -/
def rmaRespond (s : State) (q : RmaReq) (fail : Bool) (words : List Nat) : State :=
  let s := if fail then s.bump Fld.FPE_RMA_STAT_FAIL else s
  pmonSample (sendOn s q.port (.rma q.port q.src q.id fail words)) 7 none (tickNs (s.time.now - q.since))

/-- Serve the oldest request if it is of a kind: a request that fails gets a failure response, a write without response none
otherwise. -/
def serveRma (s : State) (kind : Nat) : State :=
  match s.fpe.rmaQ with
  | [] => s
  | q :: rest =>
    if q.kind != kind then s
    else
      let s := showRmaQueue (s.updFpe (fun x => { x with rmaQ := rest }))
      let r : Req := { path := .rma, perm := .rma, prot := q.prot }
      if !s.rmaAccepts q then rmaRespond s q true []
      else if kind = 0 then
        match readWords r (q.len / 4) q.addr s with
        | (t, l, true) => rmaRespond t q false l
        | (t, _, false) => rmaRespond t q true []
      else match writeWords r (q.words.take (q.len / 4)) q.addr s with
        | (t, true) => if kind = 2 then t else rmaRespond t q false []
        | (t, false) => rmaRespond t q true []

def execRmaRead (s : State) : Out := .next (serveRma s 0)
def execRmaWrite (s : State) : Out := .next (serveRma s 1)
def execRmaWriteNoResponse (s : State) : Out := .next (serveRma s 2)

/-! ### MSPI in native mode (R556, R557) -/

/-- The status code of an access. -/
def Acc.mspi : Acc → Nat
  | .ok _ => 0
  | .bus => 2
  | .fault => 3

/-- The part answers: status, data and the CRC over both; nothing when CS_N has risen. The wait bytes before the status are not
recorded. -/
def mspiRespond (s : State) (held : Bool) (bytes : List Nat) : State :=
  if held then s.emit (.mspi (bytes ++ [crc8 bytes])) else s

/-- Big-endian bytes of a frame as a number. -/
def beNat (l : List Byte) : Nat := ofBytes (l.map (·.toNat))

/-- One frame: a frame cut short before its CRC byte makes no access and no response; a frame error is answered with status 1. -/
def mspiFrame (s : State) (frame : List Byte) (held : Bool) : State :=
  let r : Req := { path := .mspi, perm := .mspi }
  let crcOk (n : Nat) : Bool := crc8 ((frame.take n).map (·.toNat)) == (frame.getD n 0).toNat
  match frame.head? with
  | none => s
  | some op =>
    if op = 0x03 then
      if frame.length < 6 then s
      else if !crcOk 5 then mspiRespond s held [1]
      else match nativeRead s r (beNat ((frame.drop 1).take 4)) with
        | (t, .ok v) => mspiRespond t held (0 :: bytesOf v.toNat 4)
        | (t, a) => mspiRespond t held [a.mspi]
    else if op = 0x02 then
      if frame.length < 10 then s
      else if !crcOk 9 then mspiRespond s held [1]
      else match nativeWrite s r (beNat ((frame.drop 1).take 4)) (BitVec.ofNat 32 (beNat ((frame.drop 5).take 4))) with
        | (t, a) => mspiRespond t held [a.mspi]
    else mspiRespond s held [1]

/-- MSPI_READ: every frame in native mode but writes. -/
def execMspiRead (frame : List Byte) (held : Bool) (s : State) : Out :=
  if s.persona || frame.head? = some 0x02 then .next s else .next (mspiFrame s frame held)

/-- MSPI_WRITE. -/
def execMspiWrite (frame : List Byte) (held : Bool) (s : State) : Out :=
  if s.persona || frame.head? ≠ some 0x02 then .next s else .next (mspiFrame s frame held)

/-! ### JTAG (R323, R457, R558, R559) -/

/-- Change the JTAG port. -/
def State.updJtag (s : State) (f : JtagState → JtagState) : State := s.updAcc (fun a => { a with jtag := f a.jtag })

/-- Select an instruction; a withheld one acts as BYPASS. Entering EXTEST takes every lane out of service, and it trains again when
EXTEST is left (R311, R323). -/
def selectJtag (s : State) (ir : Nat) : State :=
  let open' := [0x01, 0x02, 0x20, 0x21].contains ir
  let t := s.updJtag (fun j => { j with ir := if s.jtagLocked && !open' then 0xFF else ir })
  if t.extest && !s.extest then
    (List.range 16).foldl (fun t l => if t.laneState l == 0 then t else restartLane t l) t
  else t

/-- Boundary scan (R558): the bits sampled are shifted out, and the bits shifted in are in the cells, which an EXTEST instruction drives
onto the balls. -/
def scanJtag (s : State) (ir sampled shift : Nat) : State :=
  let t := selectJtag s ir
  if t.acc.jtag.ir = ir then (t.updJtag (fun j => { j with boundary := shift })).emit (.jtag sampled) else t

def execJtagExtest (sampled shift : Nat) (s : State) : Out := .next (scanJtag s 0x00 sampled shift)
def execJtagSamplePreload (sampled shift : Nat) (s : State) : Out := .next (scanJtag s 0x02 sampled shift)
def execJtagExtestPulse (sampled shift : Nat) (s : State) : Out := .next (scanJtag s 0x09 sampled shift)
def execJtagExtestTrain (sampled shift : Nat) (s : State) : Out := .next (scanJtag s 0x0A sampled shift)

/-- JTAG_IDCODE: version 1, part 0x6464, manufacturer code 0x3A5 with bit 0 set. -/
def execJtagIdcode (s : State) : Out := .next ((selectJtag s 0x01).emit (.jtag 0x1646474B))

/-- JTAG_CHAL_READ: LKT_CHAL, word 0 shifted last. -/
def execJtagChalRead (s : State) : Out :=
  let w (i : Nat) : Nat := (s.rd (Reg.LKT_CHAL i)).toNat
  .next ((selectJtag s 0x20).emit (.jtag (w 0 * 2 ^ 96 + w 1 * 2 ^ 64 + w 2 * 2 ^ 32 + w 3)))

/-- JTAG_CHAL_ANSWER: Update-DR hands the 97 bytes of the key and the 96 bytes of the signature to CE0. -/
def execJtagChalAnswer (key sig : List Byte) (s : State) : Out :=
  .next ((selectJtag s 0x21).updJtag (fun j => { j with answer := some (key.take 97, sig.take 96) }))

/-- JTAG_BYPASS: the code of BYPASS, or any code that R558 does not list or R457 withholds; another code is not this command's. -/
def execJtagBypass (code : Byte) (s : State) : Out :=
  if [0x00, 0x01, 0x02, 0x09, 0x0A, 0x20, 0x21, 0x30].contains code.toNat
      && !(s.jtagLocked && ! [0x01, 0x02, 0x20, 0x21].contains code.toNat) then .next s
  else .next (selectJtag s 0xFF)

/-- Update-DR of REG_ACCESS (R559): the access ends before the next capture, whose STATUS, address and data are shifted out. -/
def accessJtag (s : State) (f : State → State × Acc) (addr : Word) (isRead : Bool) : State :=
  let s := selectJtag s 0x30
  if s.acc.jtag.ir != 0x30 then s
  else
    let p := f s
    let data : Word := match p.2, isRead with
      | .ok v, true => v
      | _, _ => 0
    let t := p.1.updJtag (fun j => { j with status := p.2.mspi, addr, data })
    t.emit (.jtag (p.2.mspi * 2 ^ 64 + addr.toNat * 2 ^ 32 + data.toNat))

def execJtagRegRead (addr : Word) (s : State) : Out :=
  .next (accessJtag s (fun s => nativeRead s { path := .jtag, perm := .jtag } addr.toNat) addr true)

def execJtagRegWrite (addr data : Word) (s : State) : Out :=
  .next (accessJtag s (fun s => nativeWrite s { path := .jtag, perm := .jtag } addr.toNat data) addr false)

/-! ### Accesses of any path -/

/-- A read on a path, with what it returns. -/
def pathRead (s : State) (path : Path) (a : Nat) : State :=
  match nativeRead s (s.reqOf path) a with
  | (t, .ok v) => t.emit (.read (pathCode path) a (some v.toNat))
  | (t, _) => t.emit (.read (pathCode path) a none)

/-- A write on a path. -/
def pathWrite (s : State) (path : Path) (a : Nat) (v : Word) : State := (nativeWrite s (s.reqOf path) a v).1

def execTwoHalfLoRead (path : Path) (a : Word) (s : State) : Out :=
  if pairLo a.toNat then .next (pathRead s path a.toNat) else .next s

def execTwoHalfLoWrite (path : Path) (a v : Word) (s : State) : Out :=
  if pairLo a.toNat then .next (pathWrite s path a.toNat v) else .next s

def execTwoHalfHiWrite (path : Path) (a v : Word) (s : State) : Out :=
  if pairHi a.toNat then .next (pathWrite s path a.toNat v) else .next s

/-- Is this a register with the ARM bit of a shadow group? -/
def armReg (a : Nat) : Bool :=
  (List.range 256).any (fun n => match groupOfCode n with
    | some g => g.arm.reg == a
    | none => false)

def execShadowArmWrite (path : Path) (a v : Word) (s : State) : Out :=
  if armReg a.toNat then .next (pathWrite s path a.toNat v) else .next s

def execRcRead (path : Path) (a : Word) (s : State) : Out :=
  if accessBits (fun t => t == .rc) a.toNat = 0 then .next s else .next (pathRead s path a.toNat)

def execRegWrite (path : Path) (a v : Word) (s : State) : Out := .next (pathWrite s path a.toNat v)

/-! ### LDG and STG (R365, R372, R378, R382) -/

/-- A native access of a core in its pair: PRIV in user mode, and ILLEGAL when the pair already holds an LDG or STG. -/
def yNative (s : State) (n ea : Nat) (body : State → State) : State :=
  if (s.core n).user then raiseY s n 4 (some (BitVec.ofNat 32 ea))
  else if (s.core n).global then raiseY s n 1
  else body (s.updCore n (fun c => { c with global := true }))

def execYLdg (n : Fin 4) (slot : YSlot) (f : BitVec 24) (s : State) : Out :=
  yL s n slot f 4 (fun s ea => yNative s n ea (fun s =>
    match nativeRead s (s.reqOf (.y n)) ea with
    | (t, .ok v) => t.updCore n (fun c => c.push 1 (.d (fD f)) v.toNat)
    | (t, _) => loadAbort t n ea 1))

def execYStg (n : Fin 4) (slot : YSlot) (f : BitVec 24) (s : State) : Out :=
  yL s n slot f 4 (fun s ea => yNative s n ea (fun s =>
    match nativeWrite s (s.reqOf (.y n)) ea ((s.core n).d.at (fD f)) with
    | (t, .ok _) => t
    | (t, _) => raiseY t n 3 (some (BitVec.ofNat 32 ea))))

/-! ### LD and ST of the clause engines (R391, R398, R399) -/

/-- The byte address of an LD or ST. -/
def State.ceAddr (s : State) (e : Nat) (f : BitVec 28) : Nat := ((s.ce e).reg (ceS f) + ceImm22 f).toNat

/-- An LD or ST: a misaligned address, one between data memory and the native map, and data outside a user clause's own abandon the
clause. -/
def ceAccess (s : State) (e : Nat) (f : BitVec 28) (own native : State → Nat → State) : Out :=
  ceIssue s e true (fun s =>
    let a := s.ceAddr e f
    if a % 4 != 0 then ceAbandon s e 2
    else if 0x1000 ≤ a && a < 0x01000000 then ceAbandon s e 3
    else if a < 0x1000 then (if s.ceUser e && a < 0xC00 then ceAbandon s e 4 else own s (a / 4))
    else native s a)

/-- The engine goes on after a native access, unless the access reset it. -/
def ceAfter (s : State) (e : Nat) (f : CeState → CeState) : State := if s.ceRun e = 2 then ceGo s e f else s

def execCeLd (e : Fin 4) (f : BitVec 28) (s : State) : Out :=
  ceAccess s e f
    (fun s i => ceGo s e (fun c => { (c.setReg (ceD f) (c.data.at i)) with be := false }))
    (fun s a => match nativeRead s (s.reqOf (.ce e)) a with
      | (t, .ok v) => ceAfter t e (fun c => { (c.setReg (ceD f) v) with be := false })
      | (t, _) => ceAfter t e (fun c => { (c.setReg (ceD f) 0xFFFFFFFF) with be := true }))

def execCeSt (e : Fin 4) (f : BitVec 28) (s : State) : Out :=
  ceAccess s e f
    (fun s i => ceGo s e (fun c => { c with data := c.data.put i (c.reg (ceD f)), be := false }))
    (fun s a => match nativeWrite s (s.reqOf (.ce e)) a ((s.ce e).reg (ceD f)) with
      | (t, .ok _) => ceAfter t e (fun c => { c with be := false })
      | (t, _) => ceAfter t e (fun c => { c with be := true }))

/-! ### The persona's words (R345, R346, R350) -/

/-- Read and write a persona word, on the path of MSPI; the window of R350 acts. -/
def personaRead (s : State) (w : Nat) : State × Half :=
  if wordAddr w = Reg.VP_WIN_D_LO then
    let t := windowRead s .mspi
    (t.1, t.2.setWidth 16)
  else readWord s w
def personaWrite (s : State) (w : Nat) (v : Half) : State :=
  if wordAddr w = Reg.VP_WIN_D_HI then windowWrite s .mspi v else writeWord s w v

/-- Read words from an address on. -/
def personaReads : Nat → Nat → State → State × List Nat
  | 0, _, s => (s, [])
  | n + 1, w, s =>
    let t := personaRead s w
    let u := personaReads n (w + 1) t.1
    (u.1, t.2.toNat :: u.2)

/-- Write words from an address on. -/
def personaWrites : List Half → Nat → State → State
  | [], _, s => s
  | v :: l, w, s => personaWrites l (w + 1) (personaWrite s w v)

/-- Does link n answer C&M messages: the persona with the link in state F? -/
def State.cmLink (s : State) (n : Nat) : Bool := s.persona && s.cpri n == 5

/-- CM_READ (R345). -/
def execCmRead (n : Fin 4) (fast : Bool) (seq : Byte) (addr count : Fin 65536) (s : State) : Out :=
  if !s.cmLink n then .next s
  else
    let answer (t : State) (status : Nat) (l : List Nat) : Out := .next (t.emit (.cm n fast 0x81 seq.toNat status l))
    if count.val = 0 || 256 < count.val then answer s 2 []
    else if 0x4000 < addr.val + count.val then answer s 1 []
    else
      let t := personaReads count addr s
      answer t.1 0 t.2

/-- CM_WRITE (R345): a write that fails part way leaves the earlier words written. -/
def execCmWrite (n : Fin 4) (fast : Bool) (seq : Byte) (addr count : Fin 65536) (data : List Half) (s : State) : Out :=
  if !s.cmLink n then .next s
  else
    let answer (t : State) (status : Nat) : Out := .next (t.emit (.cm n fast 0x82 seq.toNat status []))
    if count.val = 0 || 256 < count.val then answer s 2
    else answer (personaWrites ((data.take count).take (0x4000 - addr.val)) addr s) (if 0x4000 < addr.val + count.val then 1 else 0)

/-- Count MSPI accesses above 0x3FFF (R346). -/
def badAddrs (s : State) (addr n : Nat) : State := s.bump Fld.VP_STATUS_BAD_ADDR (addr + n - max addr 0x4000)

/-- PERSONA_MSPI_READ (R346): above 0x3FFF a word reads 0. -/
def execPersonaMspiRead (addr : Fin 65536) (count : Nat) (s : State) : Out :=
  if !s.persona then .next s
  else
    let good := min count (0x4000 - addr.val)
    let t := personaReads good addr s
    .next ((badAddrs t.1 addr count).emit (.mspi ((t.2 ++ List.replicate (count - good) 0).flatMap (fun v => bytesOf v 2))))

/-- PERSONA_MSPI_WRITE (R346). -/
def execPersonaMspiWrite (addr : Fin 65536) (data : List Half) (s : State) : Out :=
  if !s.persona then .next s
  else .next (badAddrs (personaWrites (data.take (0x4000 - addr.val)) addr s) addr data.length)

/-- VP_WIN_READ (R350): the word returned is recorded as a read of VP_WIN_D_LO. -/
def execVpWinRead (s : State) : Out :=
  if !s.persona then .next s
  else
    let t := windowRead s .mspi
    .next (t.1.emit (.read (pathCode .mspi) Reg.VP_WIN_D_LO (some t.2.toNat)))

/-- VP_WIN_WRITE (R350). -/
def execVpWinWrite (v : Half) (s : State) : Out := if s.persona then .next (windowWrite s .mspi v) else .next s

end Sys2Proof.Machine
end

