-- ==== Sys2Proof/Machine/Boot.lean ====
section
/-! DEFINITION. Machine/Boot.lean: resets and their release, the boot from an image, recovery, reload of a failed subsystem, and the
wake from STANDBY, which uses the image again (R472 to R475, R490, R503 to R515). The layouts of sections are those of assumption log
17. -/

namespace Sys2Proof.Machine

def State.stage (s : State) : Nat := s.fld Fld.BOOT_STATUS_STAGE
def setStage (s : State) (n : Nat) : State := s.setFld Fld.BOOT_STATUS_STAGE n

/-- BOOT_ERR records the code of a slot (R515). -/
def setErr (s : State) (b : Bool) (code : Nat) : State := s.setFld (if b then Fld.BOOT_ERR_ERR_B else Fld.BOOT_ERR_ERR_A) code

/-! ### What sections load (R400, R508) -/

/-- Put words in sparse storage from an index on. -/
def putWords (m : SMap Word) (i : Nat) (l : List Word) : SMap Word := (l.zip (List.range l.length)).foldl (fun m e => m.put (i + e.2) e.1) m

/-- Write slots of an engine from slot i on. -/
def putSlots (s : State) (e i : Nat) (user : Bool) (l : List Word) : State :=
  (l.zip (List.range l.length)).foldl (fun s w =>
    s.wr (Reg.CLS_CE_SLOT e (i + w.2)) (setField 30 1 w.1 user.toNat)) s

/-- Vendor clauses: program memory, data memory and the slot table of an engine. -/
def loadClauses (s : State) (e : Nat) (l : List Byte) : State :=
  let s := s.updCe e (fun c => { c with prog := putWords c.prog 0 (wordsOf l 4096), data := putWords c.data 0 (wordsOf (l.drop 16384) 1024) })
  putSlots s e 0 false (wordsOf (l.drop 20480) 16)

/-- User clauses (R399). -/
def loadUserClauses (s : State) (e : Nat) (l : List Byte) : State :=
  let s := s.updCe e (fun c => { c with prog := putWords c.prog 3072 (wordsOf l 1024), data := putWords c.data 768 (wordsOf (l.drop 4096) 256) })
  putSlots s e 12 true (wordsOf (l.drop 5120) 4)

/-- Yakea firmware: PM, X and Y of a core, then shared memory. -/
def loadFirmware (s : State) (n : Nat) (l : List Byte) : State :=
  putBytes (putBytes s false (0x41400000 + 0xA0000 * n) (l.take 0xA0000)) false 0x41680000 ((l.drop 0xA0000).take 0x200000)

/-- A user kernel (R380): its core and entry, then the user region. -/
def loadKernel (s : State) (id : Nat) (l : List Byte) : State :=
  let n := (l.headD 0).toNat % 4
  let entry := ofBytes (((l.drop 4).take 4).map (·.toNat))
  let l := l.drop 8
  let base := 0x41400000 + 0xA0000 * n
  let s := putBytes s false (base + 0x10000) (l.take 0x10000)
  let s := putBytes s false (base + 0x80000) ((l.drop 0x10000).take 0x20000)
  let s := putBytes s false (0x41680000 + 0x180000) ((l.drop 0x30000).take 0x80000)
  { s with dsp := { s.dsp with kernels := s.dsp.kernels ++ [{ core := n, id, entry }] } }

/-- The calibration sequence, the last 4,096 entries of every facet's waveform memory (R259). -/
def loadCalSequence (s : State) (l : List Byte) : State := (List.range 4).foldl (fun s k => putBytes s false (wfmAddr k 61440) (l.take 16384)) s

/-- Capacity and rate of the DRAM (R417). -/
def loadDram (s : State) (l : List Byte) : State :=
  (s.setFld Fld.MEM_DRAM_CFG_CAP (l.headD 0).toNat).setFld Fld.MEM_DRAM_CFG_RATE ((l.drop 1).headD 0).toNat

/-- The persona: lane roles, columns and defaults (R300, R339). -/
def loadPersona (s : State) (l : List Byte) : State :=
  let t := (List.range 4).foldl (fun t i => t.setFld (Fld.SRD_LANE_CFG_ROLE i) ((l.drop i).headD 0).toNat) s
  let t := ((personaColumns l).zip (List.range 16)).foldl (fun t c =>
    (((c.1.drop 1).zip (List.range 4)).foldl (fun t w => t.wr (Reg.LGC_COL_W c.2 w.2) w.1) t).wr (Reg.LGC_COL_PATHS c.2) (c.1.headD 0)) t
  let pairs := wordsOf (l.drop 324) ((l.length - 324) / 4)
  judge s (pairs.foldl (fun t w => writeWord t (w.toNat / 65536) (w.setWidth 16)) t) []

/-- Load one verified section in step 7 (R508, R512): preloads are applied in step 10, the DRAM section in step 6. -/
def loadSection (s : State) (x : ImgSec) (l : List Byte) : State :=
  match x.typ with
  | 1 => loadClauses s x.index l
  | 2 => if s.persona then s else loadUserClauses s x.index l
  | 3 => loadFirmware s x.index l
  | 4 => if s.persona then s else loadKernel s x.index l
  | 7 => loadCalSequence s l
  | 8 => if s.boot.dram then putBytes s true x.dest (l.take (s.dramLimit - x.dest)) else s
  | 9 => if s.persona then loadPersona s l else s
  | _ => s

/-- Load the verified sections of a slot that a test admits: the state, or the code of the first failure. -/
def loadSections (b : Bool) (p : ImgSec → Bool) : List ImgSec → State → State × Nat
  | [], s => (s, 0)
  | x :: rest, s =>
    if !p x then loadSections b p rest s
    else match s.checkSec b x with
      | .fail c => (s, c)
      | .rejected => loadSections b p rest (s.flag Fld.BOOT_STATUS_USER_REJ true)
      | .ok l =>
        if x.typ == 9 && s.persona && !personaOk l then (s, 11)
        else loadSections b p rest (loadSection s x l)

/-- Load again, from the image in force, the sections that a test admits. -/
def reloadSections (s : State) (p : ImgSec → Bool) : State :=
  if s.boot.booted then
    let b := s.on Fld.BOOT_STATUS_SLOT
    (loadSections b p (s.imgSecs b) s).1
  else s

/-! ### Preloads (R511) -/

/-- One entry: a write, or a poll; of a poll that does not hold at once the environment says whether it comes to hold in time. -/
def applyPreload (s : State) (addr value mask : Word) : State × Bool :=
  let r : Req := { path := .ce 0, perm := .mspi }
  if mask = 0 then
    match nativeWrite s r addr.toNat value with
    | (t, .ok _) => (t, true)
    | (t, _) => (t, false)
  else match nativeRead s r addr.toNat with
    | (t, .ok v) =>
      if v &&& mask = value then (t, true)
      else (t.updBoot (fun b => { b with env := { b.env with polls := b.env.polls.drop 1 } }), t.boot.env.polls.headD false)
    | (t, _) => (t, false)

/-- Entries of three words, in order, until one fails. -/
def applyPreloads : List Word → State → State × Bool
  | a :: v :: m :: rest, s => match applyPreload s a v m with
    | (t, true) => applyPreloads rest t
    | (t, false) => (t, false)
  | _, s => (s, true)

/-- The preloads of a slot. -/
def State.preloads (s : State) (b : Bool) : List Word :=
  (s.imgSecs b).flatMap (fun x => if x.typ != 5 then [] else match s.checkSec b x with
    | .ok l => wordsOf l (l.length / 12 * 3)
    | _ => [])

/-! ### The boot (R503 to R515) -/

/-- Set READY of the blocks whose memories the boot BIST has initialised (R512 step 4). -/
def blocksReady (s : State) : State :=
  (((s.flag Fld.MEM_STATUS_SRAM_READY true).flag Fld.LPE_STATUS_READY true).flag Fld.BFE_STATUS_READY true).flag Fld.GRL_STATUS_READY true

/-- What the steps before the image leave in registers, which a slot that fails does not disturb (R514). -/
def keptAtDiscard (a : Nat) : Bool :=
  a < 0x01000000 || keptReg false a
    || [Reg.PWS_PMIC, Reg.PWS_STATUS, Reg.CVA_STATUS, Reg.LKT_STAT, Reg.LKT_CHAL 0, Reg.LKT_CHAL 1, Reg.LKT_CHAL 2, Reg.LKT_CHAL 3,
        Reg.MEM_STATUS, Reg.LPE_STATUS, Reg.BFE_STATUS, Reg.GRL_STATUS].contains a

/-- Discard everything loaded from a slot (R514): the registers return to reset, CE1 to CE3 and the Yakea cores reset, memories empty. -/
def discardSlot (s : State) : State :=
  let t : State :=
    { regs := mapKeep keptAtDiscard s.regs
      time := { now := s.time.now, phc := s.time.phc }
      dsp := { cores := (List.range 4).foldl (fun m n => m.put n { resetAt := s.time.now, wdogFrom := s.time.now }) [] }
      flt := { s.flt with hostFrom := none }
      mem := { s.mem.kept with sramUe := s.mem.sramUe }
      boot := { s.boot with booted := false, dram := false, freeRun := false, noCalOk := false, calValid := false, gRef := [], calRecs := [] }
      mon := { otp := s.mon.otp, otpBad := s.mon.otpBad, sealJtag := s.mon.sealJtag }
      acc := { jtag := s.acc.jtag, facetCyc := s.acc.facetCyc, facetRem := s.acc.facetRem }
      out := s.out
      freeCtr := s.freeCtr
      pending := s.pending }
  refreshHub (((t.flag Fld.MEM_STATUS_DRAM_READY false).flag Fld.BOOT_STATUS_CAL_BAD false).flag Fld.BOOT_STATUS_CAL_ABSENT false)

/-- No slot remains (R514): recovery, with FAULT_N asserted. -/
def bootFail (s : State) : State := refreshHub ((s.flag Fld.BOOT_STATUS_BOOT_FAIL true).flag Fld.BOOT_STATUS_RECOVERY true)

/-- Train the DRAM from the section's settings (R512 step 6, R514). -/
def trainDram (s : State) (l : List Byte) : State :=
  let s := loadDram s l
  if s.boot.env.dramFails = 2 then reportFault s 0x05 11
  else (s.flag Fld.MEM_STATUS_DRAM_READY true).updBoot (fun b => { b with dram := true })

/-- Steps 5 to 8 of one slot: the state, and the code of its failure or 0. -/
def loadSlot (s : State) (b : Bool) : State × Nat :=
  let s := setStage s 5
  let h := s.headerCode b
  if h != 0 then (s, h)
  else if !s.tableOk b then (s, 10)
  else
    let s := setStage s 6
    let d := match (s.imgSecs b).find? (fun x => x.typ == 6) with
      | none => (s, 0)
      | some x => match s.checkSec b x with
        | .ok l => (trainDram s l, 0)
        | .fail c => (s, c)
        | .rejected => (s, 0)
    if d.2 != 0 then d
    else
      let m := loadSections b (fun _ => true) (s.imgSecs b) (setStage d.1 7)
      if m.2 != 0 then m else (loadCal (loadLocket (setStage m.1 8)), 0)

/-- Try some slots in order until one is loaded; stage 3 of the supplies is then due (R512 step 9). -/
def loadFrom : List Bool → State → State
  | [], s => bootFail s
  | b :: rest, s =>
    let r := loadSlot s b
    if r.1.boot.hold != .none then r.1
    else if r.2 != 0 then loadFrom rest (setErr (discardSlot r.1) b r.2)
    else
      let t := (setStage r.1 9).flag Fld.BOOT_STATUS_SLOT b
      setPmic (t.updBoot (fun x => { x with left := rest })) [5] true

/-- The slots to try (R506, R509), with the codes of the headers that were read and failed. -/
def chooseSlots (s : State) : State × List Bool :=
  match s.fld Fld.BOOT_STRAP_BOOT_SEL with
  | 1 => (s, [false])
  | 2 => (s, [true])
  | _ =>
    let ca := s.headerCode false
    let cb := s.headerCode true
    let t := if ca = 0 then s else setErr s false ca
    let t := if cb = 0 then t else setErr t true cb
    (t, if ca = 0 && cb = 0 then (if s.imgSeq false < s.imgSeq true then [true, false] else [false, true])
        else if ca = 0 then [false] else if cb = 0 then [true] else [])

/-- Steps 4 to 8 (R512): BIST, then the image. An array of REGION 8, 9 or 10 beyond repair ends the boot; the words of any other are
uncorrectable. -/
def bootImage (s : State) : State :=
  let s := setStage s 4
  let bad := s.boot.env.sramBad
  if bad.any (fun a => [8, 9, 10].contains (regionOf a)) then bootFail (setErr (setErr s false 14) true 14)
  else
    let s := s.updMem (fun m => { m with sramUe := (bad.map (fun a => a / 8 * 8)).eraseDups })
    let s := ((bad.map regionOf).eraseDups).foldl (fun s r => reportFault s 0x04 r) (blocksReady s)
    let s := s.flag Fld.BOOT_STATUS_UNPROV s.boot.imgHash.isNone
    let c := chooseSlots s
    loadFrom c.2 c.1

/-- RUN of CE1 to CE3 and of each Yakea core, FW_OK and LDE_STATUS.READY (R512 step 10). -/
def startEngines (s : State) : State :=
  let s := [1, 2, 3].foldl (fun s e => writeCeCtrl s e (s.rd (Reg.CLS_CE_CTRL e) ||| 0x80000000)) s
  let s := (List.range 4).foldl (fun s n => runCore s n true) s
  (s.flag Fld.DSP_STATUS_FW_OK true).flag Fld.LDE_STATUS_READY true

/-- Step 10 of the slot that is loaded; when its preloads fail, the other slot is tried. -/
def runSlot : Nat → State → State
  | 0, s => s
  | n + 1, s =>
    if s.stage != 9 || !s.pgOk 5 || s.boot.hold != .none then s
    else
      let b := s.on Fld.BOOT_STATUS_SLOT
      let s := setStage s 10
      let r := applyPreloads (s.preloads b) s
      let t := r.1
      if t.boot.hold != .none then t
      else if r.2 then
        let t := (setErr (startEngines t) b 1).setFld Fld.BOOT_SEQ_SEQ (t.imgSeq b)
        setStage (t.updBoot (fun x => { x with booted := true, freeRun := (t.imgFlags b).testBit 0, noCalOk := (t.imgFlags b).testBit 1 })) 11
      else runSlot n (loadFrom t.boot.left (setErr (discardSlot t) b 12))

/-- Is step 12 complete: enabled facets READY, and locked weight sets resident? -/
def State.facetsSettled (s : State) : Bool :=
  (List.range 4).all (fun k => !s.on (Fld.CVA_FACET_CFG_EN k) || s.on (Fld.CVA_FACET_STAT_READY k) || s.on (Fld.CVA_FACET_STAT_FGCAL_FAIL k)
    || !s.rcsLocked || s.shutDown k)
    && s.ws.cmd.isNone && s.ws.sets.all (fun e => !e.2.locked || e.2.resident)

/-- Radio-ready (R495, R512, R513): the quiet period of a full reset's source runs from now. -/
def radioReady (s : State) : State :=
  let t := (setStage s 15).flag Fld.BOOT_STATUS_RADIO_READY true
  let t := t.setFld Fld.BOOT_TIME_READY_MS (min 65535 (s.boot.env.ms + (s.time.now - s.boot.since) / ticksMs))
  let t := if s.flt.fullReset then
    (List.range 64).foldl (fun t i => if t.srcState i != 0 && (reactionsOf t (codeKind (t.srcCode i)) (codeUnit (t.srcCode i))).reset then
      t.updSrc i (fun e => { e with last := s.time.now }) else t) t else t
  refreshHub { t with flt := { t.flt with fullReset := false } }

/-- Are the supplies of some groups good? -/
def State.supplied (s : State) (l : List Nat) : Bool := l.all s.pgOk

/-- The boot goes as far as its supplies, PLLs and the units it waits for allow (R504, R512). -/
def bootAdvance (s : State) : State :=
  if s.boot.hold != .none || s.boot.stopped || s.on Fld.BOOT_STATUS_RECOVERY || s.stage = 15 then s
  else
    let s := if s.stage = 2 && s.supplied [2, 3, 4] then
      (if s.fld Fld.BOOT_STRAP_BOOT_SEL = 3 then s.flag Fld.BOOT_STATUS_RECOVERY true else setPmic (setStage s 3) [0, 1] true) else s
    let s := if s.stage = 3 && s.boot.pll && s.supplied [0, 1] then bootImage s else s
    let s := runSlot 3 s
    let s := if s.stage = 11 && (s.rcsLocked || s.rcs.busy.isNone) then setStage s 12 else s
    if s.stage = 12 && s.facetsSettled then radioReady s else s

/-- A wake from STANDBY goes as far as its supplies and PLLs allow (R471, R472): stages 2 and 3 of PMIC_EN. -/
def wakeAdvance (s : State) : State :=
  if s.pws.phase != .waking true || !s.supplied [2, 3, 4] then s
  else
    let s := setPmic s [0, 1] true
    if s.boot.pll && s.supplied [0, 1] && (s.fld Fld.PWS_PMIC_AUX_OFF).testBit 1 then setPmic s [5] true else s

/-- PG_CHANGE (R394, R471, R504). -/
def execPgChange (g : Fin 6) (level : Bool) (s : State) : Out :=
  if (s.fld Fld.PWS_PMIC_PG).testBit g = level then .next s
  else .next (wakeAdvance (bootAdvance ((s.setFld Fld.PWS_PMIC_PG (putBit (s.fld Fld.PWS_PMIC_PG) g level)).ceEvent 0 11)))

/-- CORE_PLL_READY (R472, R504): CE0's event line 12. -/
def execCorePllReady (s : State) : Out :=
  .next (wakeAdvance (bootAdvance ((s.ceEvent 0 12).updBoot (fun b => { b with pll := true }))))

/-! ### Resets (R505, R512 step 1, R534) -/

/-- A reset is released: the fuse map and the straps, a new nonce, the keys, and stage 1 of the supplies. A full reset and a reboot
keep the straps. -/
def release (s : State) (env : BootEnv) : State :=
  let sampled := s.boot.hold == .porst || s.boot.hold == .resetn
  let s := s.updBoot (fun b => { b with hold := .none, env, since := s.time.now, timeLost := some s.time.now })
  let s := if sampled then (s.flag Fld.BOOT_STRAP_PERSONA env.persona).setFld Fld.BOOT_STRAP_BOOT_SEL env.bootSel else s
  let s := s.flag Fld.BOOT_STATUS_PERSONA (s.on Fld.BOOT_STRAP_PERSONA)
  let s := s.wr64 Reg.BOOT_DIEID_LO env.dieId.toNat
  let s := setPmic (setStage (drawNonce (showKeys s)) 2) [2, 3, 4] true
  bootAdvance (s.setFld Fld.PWS_STATUS_ATTEMPTS 1)

/-- PORST_RELEASE (R512). -/
def execPorstRelease (env : BootEnv) (s : State) : Out := if s.boot.hold = .porst then .next (release s env) else .next s

/-- RESET_RELEASE (R495, R505): RESET_N is released, or a full reset or reboot goes on by itself. -/
def execResetRelease (env : BootEnv) (s : State) : Out :=
  if s.boot.hold = .porst || s.boot.hold = .none then .next s else .next (release s env)

/-- PORST_ASSERT (R535). -/
def execPorstAssert (s : State) : Out := .next (resetPart s .porst)

/-- RESET_ASSERT (R534, R535): while PORST_N is asserted too, the part acts on PORST_N alone. -/
def execResetAssert (s : State) : Out := if s.boot.hold = .porst then .next s else .next (resetPart s .resetn)

/-- REBOOT (R505). -/
def execReboot (s : State) : Out := .next (reboot s)

/-- SUPPLY_LOSS (R459): OFF retains nothing; the next supplies come up with PORST_N asserted. -/
def execSupplyLoss (s : State) : Out := .next { resetPart s .porst with acc := {} }

/-! ### Failed attempts (R473, R504) -/

/-- A boot attempt fails: it starts again from stage 1, and after the fourth the boot stops, with code 13 for both slots. -/
def bootAttemptFail (s : State) : State :=
  let n := s.fld Fld.PWS_STATUS_ATTEMPTS
  let t := setPmic (setStage (discardSlot s) 2) [0, 1, 2, 3, 4, 5] false
  let t := t.updBoot (fun b => { b with pll := false })
  if n < 4 then setPmic (t.setFld Fld.PWS_STATUS_ATTEMPTS (n + 1)) [2, 3, 4] true
  else
    let t := (setErr (setErr t false 13) true 13).flag Fld.PWS_STATUS_WAKE_FAILED true
    reportFault ((t.updBoot (fun b => { b with stopped := true })).bump Fld.PWS_CNT0_WAKE_FAILS) 0x56 0

/-- WAKE_ATTEMPT_FAIL (R473, R504). -/
def execWakeAttemptFail (locked : Bool) (s : State) : Out :=
  if s.boot.hold = .none && !s.boot.stopped && !s.on Fld.BOOT_STATUS_RECOVERY && [2, 3, 9].contains s.stage then .next (bootAttemptFail s)
  else .next (wakeAttemptFail s locked)

/-! ### Re-initialisation (R490) -/

/-- SUBSYSTEM_REINIT_DONE: a core's firmware, or an engine's clauses, are loaded again from the image and RUN sets. -/
def execSubsystemReinitDone (clause : Bool) (n : Fin 4) (s : State) : Out :=
  if clause then
    if n.val = 0 then .next s
    else
      let s := reloadSections s (fun x => (x.typ == 1 || x.typ == 2) && x.index == n.val)
      .next (writeCeCtrl s n (s.rd (Reg.CLS_CE_CTRL n) ||| 0x80000000))
  else if !s.dsp.reload.testBit n then .next s
  else
    let s := reloadSections s (fun x => x.typ == 3 && x.index == n.val)
    .next (runCore { s with dsp := { s.dsp with reload := putBit s.dsp.reload n false } } n true)

/-! ### The wake from STANDBY (R146, R472 to R475) -/

/-- Is the content of KEEP bank b lost? -/
def State.bankLost (s : State) (fail : Byte) (b : Nat) : Bool := !s.pws.kept.testBit b || fail.getLsbD b

/-- The check of the selected banks (R475). -/
def checkKeep (s : State) (fail : Byte) : State :=
  let s := (s.setFld Fld.PWS_KEEP_KEEP_OK (maskOf 8 (fun b => !s.bankLost fail b))).setFld Fld.PWS_KEEP_KEEP_FAIL 0
  (List.range 8).foldl (fun s b => if s.pws.kept.testBit b && fail.getLsbD b then keepFailed s b else s) s

/-- KEEP0 to KEEP3 are lost: reset values and the image's preloads. -/
def rebuildConfig (s : State) : State :=
  let t := { s with regs := s.regs.filter (fun e => !coreReg e.1 || [Reg.MEM_STATUS, Reg.LPE_STATUS, Reg.BFE_STATUS, Reg.GRL_STATUS].contains e.1)
                    acc := { jtag := s.acc.jtag, facetCyc := s.acc.facetCyc, facetRem := s.acc.facetRem }
                    fpe := {} }
  -- the facets' registers are written too, which a facet that is off would answer with a bus error
  let t := t.updPws (fun x => { x with ports := [], facetsOff := false })
  ((applyPreloads (t.preloads (t.on Fld.BOOT_STATUS_SLOT)) t).1).updPws (fun x => { x with facetsOff := s.pws.facetsOff })

/-- Locked sets are fetched again (R146). -/
def refetchLocked (s : State) : State :=
  (s.ws.sets.filter (fun e => e.2.locked)).foldl (fun s e =>
    queueFetch (s.updSet e.1 (fun x => { x with resident := false })) { lib := e.2.lib, beam := e.2.id, set := some e.1, deadline := s.phcFine }) s

/-- KEEP7 is lost: tune cache, banks and monitor scaling from the calibration set, and calibration in the foreground. -/
def reloadCalibration (s : State) : State :=
  let t := { s with regs := s.regs.filter (fun e => !((Reg.RCS_TC_FREQ 0 ≤ e.1 && e.1 < Reg.RCS_TC_FREQ 64) || (0x08200000 ≤ e.1 && e.1 < 0x09000000))) }
  let t := (List.range 64).foldl (fun t p => t.setFld (Fld.LDE_PATH_STAT_BANK_VALID p) 0) t
  loadCal (t.updCva (fun x => { x with trims := [] }))

/-- The PHC after a number of crystal cycles: 125 ÷ 6 ticks each, scaled by the increment (R474). -/
def State.phcAfter (s : State) (count : Nat) : Phc := Phc.ofFine (s.time.phc.fine + count * s.increment * 125 / 6)

/-- Cores, engines, ports and timelines that the shadow enables start again (R472). -/
def restart (s : State) : State :=
  let s := [1, 2, 3].foldl (fun s e => if s.on (Fld.CLS_CE_CTRL_RUN e) then s.setFld (Fld.CLS_CE_STAT_STATE e) 1 else s) s
  let s := (List.range 4).foldl (fun s n => if s.yBit Fld.DSP_CTRL_RUN n then runCore s n true else s) s
  let s := (s.flag Fld.DSP_STATUS_FW_OK true).flag Fld.LDE_STATUS_READY true
  let t := s.pws.ports.foldl (fun t n => t.flag (Fld.FPE_PORT_CFG_EN n) true) s
  let t := judge s (t.updFpe (fun x => { x with portOrder := s.pws.ports })) []
  let t := (List.range 16).foldl (fun t l => if t.laneState l == 0 then setLane t l (t.firstState l) true else t) t
  (List.range 32).foldl (fun t c => if t.on (Fld.TIM_AIR_CFG_EN c) then t.updLine c (fun x => { x with startDue := true }) else t) t

/-- STANDBY_WAKE (R472 to R475): DOM_CORE, DOM_LP and DOM_RCS power up, the banks are checked, memories outside them are loaded again
from the image, RCS tunes the entry that was in use, and the part enters WAKE_TO. -/
def execStandbyWake (count : Nat) (fail : Byte) (s : State) : Out :=
  if s.pws.phase != .waking true || !s.boot.pll || !s.supplied [0, 1, 2, 3, 4]
      || ((s.fld Fld.PWS_PMIC_AUX_OFF).testBit 1 && !s.pgOk 5) then .next s
  else
    let lost := s.bankLost fail
    let phc := if lost 6 then {} else s.phcAfter count
    let t := (s.updPws (fun x => { x with coreOff := false })).setPhc phc
    let t := blocksReady (checkKeep t fail)
    let t := reloadSections t (fun x => x.typ == 3 || x.typ == 7)
    let t := match (t.imgSecs (t.on Fld.BOOT_STATUS_SLOT)).find? (fun x => x.typ == 6) with
      | some x => match t.checkSec (t.on Fld.BOOT_STATUS_SLOT) x with
        | .ok l => loadDram t l
        | _ => t
      | none => t
    let t := t.flag Fld.MEM_STATUS_DRAM_READY t.boot.dram
    let t := if (List.range 4).any lost then rebuildConfig t else t
    let t := if lost 7 then reloadCalibration t else t
    let t := if (List.range 6).any lost then refetchLocked t else t
    let t := match s.pws.tuned with
      | some e => rcsTune t e
      | none => t
    -- TX release waits for TIME_OK again (R474)
    let t := (t.flag Fld.BOOT_TXREL_RELEASED false).updBoot (fun b => { b with txHold := true, timeLost := some s.time.now })
    let t := (restart t).bump Fld.PWS_CNT0_WAKES
    .next (if t.fld Fld.PWS_MODE_WAKE_TO = 1 then setPhase t .array
           else settle s (setPhase (facetsUp t 0) .active))

end Sys2Proof.Machine
end

