-- ==== Sys2Proof/Machine/Dispatch.lean ====
section
/-! DEFINITION. Machine/Dispatch.lean: every command to its meaning, one arm for each constructor. -/

namespace Sys2Proof.Machine

/-- The effect of a command on everything but the queue. -/
def exec (i : Instr) (s : State) : Host.Outcome State Fault Refusal :=
  match i with
  | .triggerFire n => Sys2Proof.Machine.execTriggerFire n s
  | .triggerFireAir n sym => Sys2Proof.Machine.execTriggerFireAir n sym s
  | .triggerArm n cfg => Sys2Proof.Machine.execTriggerArm n cfg s
  | .timSnap => Sys2Proof.Machine.execTimSnap s
  | .timLoad ce2 adj => Sys2Proof.Machine.execTimLoad ce2 adj s
  | .timAdjGo ce2 => Sys2Proof.Machine.execTimAdjGo ce2 s
  | .tsrcChange v => Sys2Proof.Machine.execTsrcChange v s
  | .ptpEventRx port kind seq quarter time corr => Sys2Proof.Machine.execPtpEventRx port kind seq quarter time corr s
  | .ptpSyncTx port => Sys2Proof.Machine.execPtpSyncTx port s
  | .ptpAnnounceTx port => Sys2Proof.Machine.execPtpAnnounceTx port s
  | .ptpDelayReqTx port seq => Sys2Proof.Machine.execPtpDelayReqTx port seq s
  | .servoUpdate port seq parent => Sys2Proof.Machine.execServoUpdate port seq parent s
  | .sourceLost => Sys2Proof.Machine.execSourceLost s
  | .holdoverExpire => Sys2Proof.Machine.execHoldoverExpire s
  | .esmcPduRx lane ql locked => Sys2Proof.Machine.execEsmcPduRx lane ql locked s
  | .ppsOutRise => Sys2Proof.Machine.execPpsOutRise s
  | .ppsOutFall => Sys2Proof.Machine.execPpsOutFall s
  | .todTxMessage => Sys2Proof.Machine.execTodTxMessage s
  | .todRxMessage bytes => Sys2Proof.Machine.execTodRxMessage bytes s
  | .ppsInEdge => Sys2Proof.Machine.execPpsInEdge s
  | .captureEdge ch rising => Sys2Proof.Machine.execCaptureEdge ch rising s
  | .capTsRead path ch => Sys2Proof.Machine.execCapTsRead path ch s
  | .airTimelineEnable c mu ecp => Sys2Proof.Machine.execAirTimelineEnable c mu ecp s
  | .airTimelineStart c => Sys2Proof.Machine.execAirTimelineStart c s
  | .airTimelineDisable c => Sys2Proof.Machine.execAirTimelineDisable c s
  | .airOffsetWrite beta v => Sys2Proof.Machine.execAirOffsetWrite beta v s
  | .realisedSymbolBoundary c evmOver evmGood => Sys2Proof.Machine.execRealisedSymbolBoundary c evmOver evmGood s
  | .airHalfMsBoundary e0 e1 e2 e3 => Sys2Proof.Machine.execAirHalfMsBoundary e0 e1 e2 e3 s
  | .realignReanchor k => Sys2Proof.Machine.execRealignReanchor k s
  | .portConfigWrite n v => Sys2Proof.Machine.execPortConfigWrite n v s
  | .portGroupWrite g v => Sys2Proof.Machine.execPortGroupWrite g v s
  | .portDown n => Sys2Proof.Machine.execPortDown n s
  | .portUp n => Sys2Proof.Machine.execPortUp n s
  | .flowRebalance f => Sys2Proof.Machine.execFlowRebalance f s
  | .frameRx port frame => Sys2Proof.Machine.execFrameRx port frame s
  | .uplaneMsgRx port hdr secs => Sys2Proof.Machine.execUplaneMsgRx port hdr secs s
  | .cplaneMsgRx port hdr secs => Sys2Proof.Machine.execCplaneMsgRx port hdr secs s
  | .windowEventCease f late => Sys2Proof.Machine.execWindowEventCease f late s
  | .flowArm f v => Sys2Proof.Machine.execFlowArm f v s
  | .flowDisable f => Sys2Proof.Machine.execFlowDisable f s
  | .flowStarved f => Sys2Proof.Machine.execFlowStarved f s
  | .flowQuiescent f => Sys2Proof.Machine.execFlowQuiescent f s
  | .workListReleaseDl c y => Sys2Proof.Machine.execWorkListReleaseDl c y s
  | .workListReleaseUl c y res => Sys2Proof.Machine.execWorkListReleaseUl c y res s
  | .ulUplaneTx f => Sys2Proof.Machine.execUlUplaneTx f s
  | .dmRequest port id src => Sys2Proof.Machine.execDmRequest port id src s
  | .dmRequestFollowUp port id src => Sys2Proof.Machine.execDmRequestFollowUp port id src s
  | .dmRemoteRequest port followUp id src => Sys2Proof.Machine.execDmRemoteRequest port followUp id src s
  | .dmFollowUp port id => Sys2Proof.Machine.execDmFollowUp port id s
  | .dmResponse port id => Sys2Proof.Machine.execDmResponse port id s
  | .rmaRequestRx port prot src id kind elem addr len words => Sys2Proof.Machine.execRmaRequestRx port prot src id kind elem addr len words s
  | .rmaRead => Sys2Proof.Machine.execRmaRead s
  | .rmaWrite => Sys2Proof.Machine.execRmaWrite s
  | .rmaWriteNoResponse => Sys2Proof.Machine.execRmaWriteNoResponse s
  | .eventIndicationTx => Sys2Proof.Machine.execEventIndicationTx s
  | .faultsIndicationAck seq => Sys2Proof.Machine.execFaultsIndicationAck seq s
  | .eventAckTimeout seq => Sys2Proof.Machine.execEventAckTimeout seq s
  | .synchronizationRequest port src => Sys2Proof.Machine.execSynchronizationRequest port src s
  | .acEnable a v => Sys2Proof.Machine.execAcEnable a v s
  | .acDisable a => Sys2Proof.Machine.execAcDisable a s
  | .acStop a => Sys2Proof.Machine.execAcStop a s
  | .flowBind f v => Sys2Proof.Machine.execFlowBind f v s
  | .bfeForceWrite rx mask => Sys2Proof.Machine.execBfeForceWrite rx mask s
  | .strandFrameRx x crcOk ctl items => Sys2Proof.Machine.execStrandFrameRx x crcOk ctl items s
  | .strandFallback x dl => Sys2Proof.Machine.execStrandFallback x dl s
  | .strandRestore x dl => Sys2Proof.Machine.execStrandRestore x dl s
  | .wsLoad lib beam => Sys2Proof.Machine.execWsLoad lib beam s
  | .wsLock lib beam => Sys2Proof.Machine.execWsLock lib beam s
  | .wsUnlock lib beam => Sys2Proof.Machine.execWsUnlock lib beam s
  | .wsInvalidate lib beam => Sys2Proof.Machine.execWsInvalidate lib beam s
  | .wsInvalidateLib lib => Sys2Proof.Machine.execWsInvalidateLib lib s
  | .wsCmdBadOp op => Sys2Proof.Machine.execWsCmdBadOp op s
  | .weightFetchComplete lib beam errs => Sys2Proof.Machine.execWeightFetchComplete lib beam errs s
  | .weightDeadline c y => Sys2Proof.Machine.execWeightDeadline c y s
  | .channelSetAge i0 => Sys2Proof.Machine.execChannelSetAge i0 s
  | .solveIssue a dl slot => Sys2Proof.Machine.execSolveIssue a dl slot s
  | .solveJobStart => Sys2Proof.Machine.execSolveJobStart s
  | .solveJobDone => Sys2Proof.Machine.execSolveJobDone s
  | .ncoplanCommit k => Sys2Proof.Machine.execNcoplanCommit k s
  | .symcfgCommit c => Sys2Proof.Machine.execSymcfgCommit c s
  | .prachExtract f secId rep res sat => Sys2Proof.Machine.execPrachExtract f secId rep res sat s
  | .dpdbankCommit p => Sys2Proof.Machine.execDpdbankCommit p s
  | .orxCaptureStart j => Sys2Proof.Machine.execOrxCaptureStart j s
  | .orxCaptureEnd j m streams => Sys2Proof.Machine.execOrxCaptureEnd j m streams s
  | .classWaitExpire j => Sys2Proof.Machine.execClassWaitExpire j s
  | .hostCaptureDone j x z => Sys2Proof.Machine.execHostCaptureDone j x z s
  | .adaptSolveDone p dly coefs => Sys2Proof.Machine.execAdaptSolveDone p dly coefs s
  | .pcUpdate p det => Sys2Proof.Machine.execPcUpdate p det s
  | .facetEnable k v => Sys2Proof.Machine.execFacetEnable k v s
  | .facetDisable k v => Sys2Proof.Machine.execFacetDisable k v s
  | .pathEnableWrite rx p v => Sys2Proof.Machine.execPathEnableWrite rx p v s
  | .fgcalDone k ok => Sys2Proof.Machine.execFgcalDone k ok s
  | .txQuietNAssert => Sys2Proof.Machine.execTxQuietNAssert s
  | .txQuietNDeassert => Sys2Proof.Machine.execTxQuietNDeassert s
  | .quietRelease p => Sys2Proof.Machine.execQuietRelease p s
  | .txrangeCommit p => Sys2Proof.Machine.execTxrangeCommit p s
  | .ovrAssert orx p code => Sys2Proof.Machine.execOvrAssert orx p code s
  | .ovrClear orx p hi => Sys2Proof.Machine.execOvrClear orx p hi s
  | .wfmGo k v => Sys2Proof.Machine.execWfmGo k v s
  | .wfmSymbolStart k => Sys2Proof.Machine.execWfmSymbolStart k s
  | .wfmStop k => Sys2Proof.Machine.execWfmStop k s
  | .wfmPlayEnd k sat => Sys2Proof.Machine.execWfmPlayEnd k sat s
  | .calPageRequest => Sys2Proof.Machine.execCalPageRequest s
  | .calRun y streams => Sys2Proof.Machine.execCalRun y streams s
  | .calRunOnce => Sys2Proof.Machine.execCalRunOnce s
  | .calResult res => Sys2Proof.Machine.execCalResult res s
  | .recalTx p => Sys2Proof.Machine.execRecalTx p s
  | .recalRx p => Sys2Proof.Machine.execRecalRx p s
  | .recalDone => Sys2Proof.Machine.execRecalDone s
  | .supCaptureRequest p => Sys2Proof.Machine.execSupCaptureRequest p s
  | .rcsSourceWrite v => Sys2Proof.Machine.execRcsSourceWrite v s
  | .extfsGood => Sys2Proof.Machine.execExtfsGood s
  | .refLost => Sys2Proof.Machine.execRefLost s
  | .refRecover => Sys2Proof.Machine.execRefRecover s
  | .rcsTune e => Sys2Proof.Machine.execRcsTune e s
  | .rcsCal e => Sys2Proof.Machine.execRcsCal e s
  | .rcsSwitch => Sys2Proof.Machine.execRcsSwitch s
  | .rcsInvalidate e => Sys2Proof.Machine.execRcsInvalidate e s
  | .rcsCalStby => Sys2Proof.Machine.execRcsCalStby s
  | .rcsCmdBadOp op => Sys2Proof.Machine.execRcsCmdBadOp op s
  | .rcsLocked ok r0 r1 r2 => Sys2Proof.Machine.execRcsLocked ok r0 r1 r2 s
  | .rcsStandbyDone ok r0 r1 r2 dphi => Sys2Proof.Machine.execRcsStandbyDone ok r0 r1 r2 dphi s
  | .rcsCmdEndLost => Sys2Proof.Machine.execRcsCmdEndLost s
  | .autoTuneIssue => Sys2Proof.Machine.execAutoTuneIssue s
  | .rcsLossOfLock => Sys2Proof.Machine.execRcsLossOfLock s
  | .facetAnchor k => Sys2Proof.Machine.execFacetAnchor k s
  | .stbyEnable => Sys2Proof.Machine.execStbyEnable s
  | .stbyOkSet dphi => Sys2Proof.Machine.execStbyOkSet dphi s
  | .synSoftFail synB => Sys2Proof.Machine.execSynSoftFail synB s
  | .synHardFail synB => Sys2Proof.Machine.execSynHardFail synB s
  | .synDiverge dphi => Sys2Proof.Machine.execSynDiverge dphi s
  | .synSwitch => Sys2Proof.Machine.execSynSwitch s
  | .syncOutPulse r => Sys2Proof.Machine.execSyncOutPulse r s
  | .syncInPulse w diff => Sys2Proof.Machine.execSyncInPulse w diff s
  | .syncMiss => Sys2Proof.Machine.execSyncMiss s
  | .syncAnchorTimeout => Sys2Proof.Machine.execSyncAnchorTimeout s
  | .laneConfigWrite l trate v => Sys2Proof.Machine.execLaneConfigWrite l trate v s
  | .laneTrainingAttempt l signal ctle h1 => Sys2Proof.Machine.execLaneTrainingAttempt l signal ctle h1 s
  | .laneLock l inv => Sys2Proof.Machine.execLaneLock l inv s
  | .laneTrainingTimeout l => Sys2Proof.Machine.execLaneTrainingTimeout l s
  | .lqiEvaluate meas => Sys2Proof.Machine.execLqiEvaluate meas s
  | .ctleTrial l best => Sys2Proof.Machine.execCtleTrial l best s
  | .laneLockLoss l => Sys2Proof.Machine.execLaneLockLoss l s
  | .laneRetrainStart l => Sys2Proof.Machine.execLaneRetrainStart l s
  | .prbsTestEnable l v => Sys2Proof.Machine.execPrbsTestEnable l v s
  | .testExit l v => Sys2Proof.Machine.execTestExit l v s
  | .prbsCheckerLock l lock bits errs => Sys2Proof.Machine.execPrbsCheckerLock l lock bits errs s
  | .cpriLossOfSignal l => Sys2Proof.Machine.execCpriLossOfSignal l s
  | .cpriLossOfSync l => Sys2Proof.Machine.execCpriLossOfSync l s
  | .strandAlign x map inv skew => Sys2Proof.Machine.execStrandAlign x map inv skew s
  | .strandModeChange x peer => Sys2Proof.Machine.execStrandModeChange x peer s
  | .cpriLinkEnable n => Sys2Proof.Machine.execCpriLinkEnable n s
  | .cpriStateAdvance n => Sys2Proof.Machine.execCpriStateAdvance n s
  | .cpriStateTimeout n => Sys2Proof.Machine.execCpriStateTimeout n s
  | .cpriLinkReset n los lof rst dis => Sys2Proof.Machine.execCpriLinkReset n los lof rst dis s
  | .axcApply w table => Sys2Proof.Machine.execAxcApply w table s
  | .axcTableSwitch => Sys2Proof.Machine.execAxcTableSwitch s
  | .portTxenWrite i0 en => Sys2Proof.Machine.execPortTxenWrite i0 en s
  | .portTxenEffect i0 => Sys2Proof.Machine.execPortTxenEffect i0 s
  | .carFreqWrite w => Sys2Proof.Machine.execCarFreqWrite w s
  | .cmRead n fast seq addr count => Sys2Proof.Machine.execCmRead n fast seq addr count s
  | .cmWrite n fast seq addr count data => Sys2Proof.Machine.execCmWrite n fast seq addr count data s
  | .personaMspiRead addr count => Sys2Proof.Machine.execPersonaMspiRead addr count s
  | .personaMspiWrite addr data => Sys2Proof.Machine.execPersonaMspiWrite addr data s
  | .alarmClear v => Sys2Proof.Machine.execAlarmClear v s
  | .vpWinRead => Sys2Proof.Machine.execVpWinRead s
  | .vpWinWrite v => Sys2Proof.Machine.execVpWinWrite v s
  | .yNop n slot f => Sys2Proof.Machine.execYNop n slot f s
  | .yAdd n slot f => Sys2Proof.Machine.execYAdd n slot f s
  | .ySub n slot f => Sys2Proof.Machine.execYSub n slot f s
  | .yAnd n slot f => Sys2Proof.Machine.execYAnd n slot f s
  | .yOr n slot f => Sys2Proof.Machine.execYOr n slot f s
  | .yXor n slot f => Sys2Proof.Machine.execYXor n slot f s
  | .yShl n slot f => Sys2Proof.Machine.execYShl n slot f s
  | .yShr n slot f => Sys2Proof.Machine.execYShr n slot f s
  | .yShra n slot f => Sys2Proof.Machine.execYShra n slot f s
  | .yAdds n slot f => Sys2Proof.Machine.execYAdds n slot f s
  | .ySubs n slot f => Sys2Proof.Machine.execYSubs n slot f s
  | .yCadd n slot f => Sys2Proof.Machine.execYCadd n slot f s
  | .yCsub n slot f => Sys2Proof.Machine.execYCsub n slot f s
  | .yMin n slot f => Sys2Proof.Machine.execYMin n slot f s
  | .yMax n slot f => Sys2Proof.Machine.execYMax n slot f s
  | .yMov n slot f => Sys2Proof.Machine.execYMov n slot f s
  | .yFadd n slot f => Sys2Proof.Machine.execYFadd n slot f s
  | .yFsub n slot f => Sys2Proof.Machine.execYFsub n slot f s
  | .yFmul n slot f => Sys2Proof.Machine.execYFmul n slot f s
  | .yFmac n slot f => Sys2Proof.Machine.execYFmac n slot f s
  | .yFrsq n slot f => Sys2Proof.Machine.execYFrsq n slot f s
  | .yFcvtf n slot f => Sys2Proof.Machine.execYFcvtf n slot f s
  | .yFcvti n slot f => Sys2Proof.Machine.execYFcvti n slot f s
  | .yFcmp n slot f => Sys2Proof.Machine.execYFcmp n slot f s
  | .yMfs n slot f => Sys2Proof.Machine.execYMfs n slot f s
  | .yMts n slot f => Sys2Proof.Machine.execYMts n slot f s
  | .yMfa n slot f => Sys2Proof.Machine.execYMfa n slot f s
  | .yMta n slot f => Sys2Proof.Machine.execYMta n slot f s
  | .yMovi n slot f => Sys2Proof.Machine.execYMovi n slot f s
  | .yMovh n slot f => Sys2Proof.Machine.execYMovh n slot f s
  | .yAddi n slot f => Sys2Proof.Machine.execYAddi n slot f s
  | .yAndi n slot f => Sys2Proof.Machine.execYAndi n slot f s
  | .yOri n slot f => Sys2Proof.Machine.execYOri n slot f s
  | .yShli n slot f => Sys2Proof.Machine.execYShli n slot f s
  | .yShri n slot f => Sys2Proof.Machine.execYShri n slot f s
  | .yShrai n slot f => Sys2Proof.Machine.execYShrai n slot f s
  | .yCmpi n slot f => Sys2Proof.Machine.execYCmpi n slot f s
  | .yAdda n slot f => Sys2Proof.Machine.execYAdda n slot f s
  | .yCmac n slot f => Sys2Proof.Machine.execYCmac n slot f s
  | .yQmac n slot f => Sys2Proof.Machine.execYQmac n slot f s
  | .yDmac n slot f => Sys2Proof.Machine.execYDmac n slot f s
  | .yDot n slot f => Sys2Proof.Machine.execYDot n slot f s
  | .yEadd n slot f => Sys2Proof.Machine.execYEadd n slot f s
  | .yEmov n slot f => Sys2Proof.Machine.execYEmov n slot f s
  | .yLdw n slot f => Sys2Proof.Machine.execYLdw n slot f s
  | .yLdh n slot f => Sys2Proof.Machine.execYLdh n slot f s
  | .yStw n slot f => Sys2Proof.Machine.execYStw n slot f s
  | .ySth n slot f => Sys2Proof.Machine.execYSth n slot f s
  | .yLdg n slot f => Sys2Proof.Machine.execYLdg n slot f s
  | .yStg n slot f => Sys2Proof.Machine.execYStg n slot f s
  | .yModa n slot f => Sys2Proof.Machine.execYModa n slot f s
  | .ySaw n slot f => Sys2Proof.Machine.execYSaw n slot f s
  | .ySahl n slot f => Sys2Proof.Machine.execYSahl n slot f s
  | .ySahh n slot f => Sys2Proof.Machine.execYSahh n slot f s
  | .ySac n slot f => Sys2Proof.Machine.execYSac n slot f s
  | .yEnorm n slot f => Sys2Proof.Machine.execYEnorm n slot f s
  | .ySar n slot f => Sys2Proof.Machine.execYSar n slot f s
  | .yBcc n slot f => Sys2Proof.Machine.execYBcc n slot f s
  | .yCall n slot f => Sys2Proof.Machine.execYCall n slot f s
  | .yJr n slot f => Sys2Proof.Machine.execYJr n slot f s
  | .yLoopi n slot f => Sys2Proof.Machine.execYLoopi n slot f s
  | .yLoopr n slot f => Sys2Proof.Machine.execYLoopr n slot f s
  | .yRti n slot f => Sys2Proof.Machine.execYRti n slot f s
  | .yWait n slot f => Sys2Proof.Machine.execYWait n slot f s
  | .yWaitWake n => Sys2Proof.Machine.execYWaitWake n s
  | .yTrap n slot f => Sys2Proof.Machine.execYTrap n slot f s
  | .ySync n slot f => Sys2Proof.Machine.execYSync n slot f s
  | .yInterruptEntry n => Sys2Proof.Machine.execYInterruptEntry n s
  | .yTimerZero n => Sys2Proof.Machine.execYTimerZero n s
  | .yWatchdogHalf n => Sys2Proof.Machine.execYWatchdogHalf n s
  | .yWatchdogExpire n => Sys2Proof.Machine.execYWatchdogExpire n s
  | .yWdogKick n => Sys2Proof.Machine.execYWdogKick n s
  | .yMbHostPush n w => Sys2Proof.Machine.execYMbHostPush n w s
  | .yMbHostPop path n => Sys2Proof.Machine.execYMbHostPop path n s
  | .yMbCorePop n d => Sys2Proof.Machine.execYMbCorePop n d s
  | .yMbCorePush n w => Sys2Proof.Machine.execYMbCorePush n w s
  | .yDoorbell n target => Sys2Proof.Machine.execYDoorbell n target s
  | .yKernelCall n => Sys2Proof.Machine.execYKernelCall n s
  | .yKernelBudget n => Sys2Proof.Machine.execYKernelBudget n s
  | .dspCoreReset n => Sys2Proof.Machine.execDspCoreReset n s
  | .dspRunWrite run => Sys2Proof.Machine.execDspRunWrite run s
  | .ceLdi e f => Sys2Proof.Machine.execCeLdi e f s
  | .ceLui e f => Sys2Proof.Machine.execCeLui e f s
  | .ceAdd e f => Sys2Proof.Machine.execCeAdd e f s
  | .ceAddi e f => Sys2Proof.Machine.execCeAddi e f s
  | .ceSub e f => Sys2Proof.Machine.execCeSub e f s
  | .ceAnd e f => Sys2Proof.Machine.execCeAnd e f s
  | .ceOr e f => Sys2Proof.Machine.execCeOr e f s
  | .ceShf e f => Sys2Proof.Machine.execCeShf e f s
  | .ceLd e f => Sys2Proof.Machine.execCeLd e f s
  | .ceSt e f => Sys2Proof.Machine.execCeSt e f s
  | .ceBr e f => Sys2Proof.Machine.execCeBr e f s
  | .ceCall e f => Sys2Proof.Machine.execCeCall e f s
  | .ceJmp e f => Sys2Proof.Machine.execCeJmp e f s
  | .ceWaite e f => Sys2Proof.Machine.execCeWaite e f s
  | .ceWaiteEvent e => Sys2Proof.Machine.execCeWaiteEvent e s
  | .ceWaiteTimeout e => Sys2Proof.Machine.execCeWaiteTimeout e s
  | .ceWait e f => Sys2Proof.Machine.execCeWait e f s
  | .ceWaitPower e f => Sys2Proof.Machine.execCeWaitPower e f s
  | .ceSigEvent e target zero code => Sys2Proof.Machine.execCeSigEvent e target zero code s
  | .ceSigIrq e target zero code => Sys2Proof.Machine.execCeSigIrq e target zero code s
  | .ceSigFault e target zero code => Sys2Proof.Machine.execCeSigFault e target zero code s
  | .ceSigMsg e target zero code => Sys2Proof.Machine.execCeSigMsg e target zero code s
  | .ceEventArrive e line => Sys2Proof.Machine.execCeEventArrive e line s
  | .ceEvset e mask => Sys2Proof.Machine.execCeEvset e mask s
  | .ceDispatch e => Sys2Proof.Machine.execCeDispatch e s
  | .ceRunLimit e => Sys2Proof.Machine.execCeRunLimit e s
  | .ceEngineReset e => Sys2Proof.Machine.execCeEngineReset e s
  | .ceHang e => Sys2Proof.Machine.execCeHang e s
  | .sramWriteBack => Sys2Proof.Machine.execSramWriteBack s
  | .scrubEpoch => Sys2Proof.Machine.execScrubEpoch s
  | .scrubRead addr w => Sys2Proof.Machine.execScrubRead addr w s
  | .capRequest path n => Sys2Proof.Machine.execCapRequest path n s
  | .capRelease path p => Sys2Proof.Machine.execCapRelease path p s
  | .capReleaseAll path => Sys2Proof.Machine.execCapReleaseAll path s
  | .capGrant => Sys2Proof.Machine.execCapGrant s
  | .capReclaim p => Sys2Proof.Machine.execCapReclaim p s
  | .dmvAllocReq path => Sys2Proof.Machine.execDmvAllocReq path s
  | .dmvGrant => Sys2Proof.Machine.execDmvGrant s
  | .dmvGo path c => Sys2Proof.Machine.execDmvGo path c s
  | .dmvStop path c => Sys2Proof.Machine.execDmvStop path c s
  | .dmvAbort path c => Sys2Proof.Machine.execDmvAbort path c s
  | .dmvRelease path c => Sys2Proof.Machine.execDmvRelease path c s
  | .dmvElementDone c => Sys2Proof.Machine.execDmvElementDone c s
  | .dmvStopped c left => Sys2Proof.Machine.execDmvStopped c left s
  | .dmvDescriptorError c => Sys2Proof.Machine.execDmvDescriptorError c s
  | .monGo x v => Sys2Proof.Machine.execMonGo x v s
  | .monConversionDone x code => Sys2Proof.Machine.execMonConversionDone x code s
  | .monSequenceStart x => Sys2Proof.Machine.execMonSequenceStart x s
  | .monUrgentRequest x det v => Sys2Proof.Machine.execMonUrgentRequest x det v s
  | .plausibilityRequest => Sys2Proof.Machine.execPlausibilityRequest s
  | .fetableCommit k => Sys2Proof.Machine.execFetableCommit k s
  | .febEntryDone k miso => Sys2Proof.Machine.execFebEntryDone k miso s
  | .febRdPop path k => Sys2Proof.Machine.execFebRdPop path k s
  | .levelLimitBlock p sum satDpd resid satDac => Sys2Proof.Machine.execLevelLimitBlock p sum satDpd resid satDac s
  | .pmonPeriodEnd m => Sys2Proof.Machine.execPmonPeriodEnd m s
  | .locketSealFirst path => Sys2Proof.Machine.execLocketSealFirst path s
  | .locketSealSecond path => Sys2Proof.Machine.execLocketSealSecond path s
  | .locketSealDone => Sys2Proof.Machine.execLocketSealDone s
  | .chalCheckDone => Sys2Proof.Machine.execChalCheckDone s
  | .symbolSleepWake p => Sys2Proof.Machine.execSymbolSleepWake p s
  | .rxSleepEnter p => Sys2Proof.Machine.execRxSleepEnter p s
  | .rxSleepWake p => Sys2Proof.Machine.execRxSleepWake p s
  | .slotSleepWakeDone k => Sys2Proof.Machine.execSlotSleepWakeDone k s
  | .pwsModeReq v => Sys2Proof.Machine.execPwsModeReq v s
  | .sleepAbort src => Sys2Proof.Machine.execSleepAbort src s
  | .arraySleepWake fail => Sys2Proof.Machine.execArraySleepWake fail s
  | .standbyWake count fail => Sys2Proof.Machine.execStandbyWake count fail s
  | .wakeAttemptFail locked => Sys2Proof.Machine.execWakeAttemptFail locked s
  | .wakeLaneEnergy => Sys2Proof.Machine.execWakeLaneEnergy s
  | .wakeFrame port own typ rev kind elems fcsOk transport => Sys2Proof.Machine.execWakeFrame port own typ rev kind elems fcsOk transport s
  | .wakeNAssert => Sys2Proof.Machine.execWakeNAssert s
  | .wakeTimer => Sys2Proof.Machine.execWakeTimer s
  | .pgChange g level => Sys2Proof.Machine.execPgChange g level s
  | .budgetWindow est => Sys2Proof.Machine.execBudgetWindow est s
  | .rampBallastStep => Sys2Proof.Machine.execRampBallastStep s
  | .faultReport kind unit => Sys2Proof.Machine.execFaultReport kind unit s
  | .sourceRecover i0 => Sys2Proof.Machine.execSourceRecover i0 s
  | .fltClearOne i0 => Sys2Proof.Machine.execFltClearOne i0 s
  | .fltClearAll => Sys2Proof.Machine.execFltClearAll s
  | .fltHostWrite v => Sys2Proof.Machine.execFltHostWrite v s
  | .hostWatchdogKick => Sys2Proof.Machine.execHostWatchdogKick s
  | .hostWatchdogExpire => Sys2Proof.Machine.execHostWatchdogExpire s
  | .fltLogPop => Sys2Proof.Machine.execFltLogPop s
  | .tjCrit n => Sys2Proof.Machine.execTjCrit n s
  | .corePllLoss pllB => Sys2Proof.Machine.execCorePllLoss pllB s
  | .porstRelease env => Sys2Proof.Machine.execPorstRelease env s
  | .resetRelease env => Sys2Proof.Machine.execResetRelease env s
  | .porstAssert => Sys2Proof.Machine.execPorstAssert s
  | .resetAssert => Sys2Proof.Machine.execResetAssert s
  | .reboot => Sys2Proof.Machine.execReboot s
  | .flRead => Sys2Proof.Machine.execFlRead s
  | .flProgram unlock => Sys2Proof.Machine.execFlProgram unlock s
  | .flErase unlock => Sys2Proof.Machine.execFlErase unlock s
  | .flVerify arg unlock => Sys2Proof.Machine.execFlVerify arg unlock s
  | .calSave unlock => Sys2Proof.Machine.execCalSave unlock s
  | .otpKeyProgram arg unlock => Sys2Proof.Machine.execOtpKeyProgram arg unlock s
  | .flOpDone => Sys2Proof.Machine.execFlOpDone s
  | .calTempCorrect t0 t1 t2 t3 => Sys2Proof.Machine.execCalTempCorrect t0 t1 t2 t3 s
  | .txRelease => Sys2Proof.Machine.execTxRelease s
  | .txReleaseWithdraw => Sys2Proof.Machine.execTxReleaseWithdraw s
  | .mspiRead frame held => Sys2Proof.Machine.execMspiRead frame held s
  | .mspiWrite frame held => Sys2Proof.Machine.execMspiWrite frame held s
  | .jtagExtest sampled shift => Sys2Proof.Machine.execJtagExtest sampled shift s
  | .jtagIdcode => Sys2Proof.Machine.execJtagIdcode s
  | .jtagSamplePreload sampled shift => Sys2Proof.Machine.execJtagSamplePreload sampled shift s
  | .jtagExtestPulse sampled shift => Sys2Proof.Machine.execJtagExtestPulse sampled shift s
  | .jtagExtestTrain sampled shift => Sys2Proof.Machine.execJtagExtestTrain sampled shift s
  | .jtagChalRead => Sys2Proof.Machine.execJtagChalRead s
  | .jtagChalAnswer key sig => Sys2Proof.Machine.execJtagChalAnswer key sig s
  | .jtagBypass code => Sys2Proof.Machine.execJtagBypass code s
  | .jtagRegRead addr => Sys2Proof.Machine.execJtagRegRead addr s
  | .jtagRegWrite addr data => Sys2Proof.Machine.execJtagRegWrite addr data s
  | .twoHalfLoRead path a => Sys2Proof.Machine.execTwoHalfLoRead path a s
  | .twoHalfLoWrite path a v => Sys2Proof.Machine.execTwoHalfLoWrite path a v s
  | .twoHalfHiWrite path a v => Sys2Proof.Machine.execTwoHalfHiWrite path a v s
  | .shadowArmWrite path a v => Sys2Proof.Machine.execShadowArmWrite path a v s
  | .rcRead path a => Sys2Proof.Machine.execRcRead path a s
  | .regWrite path a v => Sys2Proof.Machine.execRegWrite path a v s
  | .workListProcessed c dl y sat pathSat => Sys2Proof.Machine.execWorkListProcessed c dl y sat pathSat s
  | .txrangeTransitionEnd p => Sys2Proof.Machine.execTxrangeTransitionEnd p s
  | .hyperframeRx n rai sdi cv ofs => Sys2Proof.Machine.execHyperframeRx n rai sdi cv ofs s
  | .tjCritClear n => Sys2Proof.Machine.execTjCritClear n s
  | .corePllReady => Sys2Proof.Machine.execCorePllReady s
  | .supplyLoss => Sys2Proof.Machine.execSupplyLoss s
  | .subsystemReinitDone clause n => Sys2Proof.Machine.execSubsystemReinitDone clause n s

end Sys2Proof.Machine
end

