-- ==== Sys2Proof/Machine/Tick.lean ====
section
/-! DEFINITION. Machine/Tick.lean: what an idle step does: one tick of the TIME island passes (assumption log 3). Everything
that time brings about and that has a command of its own happens by that command, whose guards read the time that the idle steps
have let pass. -/

namespace Sys2Proof.Machine

/-- The facet clock for one tick of 1.25 ns (R8, R566): its cycles come at facetKhz, and 800,000 kHz ticks share them out. -/
def tickFacet (s : State) : State :=
  let n := s.acc.facetRem + s.facetKhz
  { s with acc := { s.acc with facetCyc := s.acc.facetCyc + n / 800000, facetRem := n % 800000 } }

/-- A flow's slot number now (R49, R81). -/
def State.flowSlotNow (s : State) (f : Nat) : Int := s.slotNow (s.flowCar f)

/-- Configuration writes that wait for a slot boundary take effect at the tick that contains it (R81). -/
def tickFlow (old s : State) (f : Nat) : State :=
  if old.flowSlotNow f = s.flowSlotNow f then s else takeWaiting s f

/-- The flows whose writes wait. -/
def State.waitingFlows (s : State) : List Nat := (s.fpe.flows.filter (fun e => !e.2.waiting.isEmpty)).map (·.1)

/-- One tick with no command (R8, R23, R81, R452, R455): time passes; while a reset is held or DOM_CORE is off nothing else does. -/
def idleTick (s : State) : State :=
  let t : State := { s with time := { s.time with now := s.time.now + 1 } }
  if t.boot.hold != .none || t.pws.coreOff then t
  else
    let u := tickFacet (tickPhc t)
    bootAdvance (pmonTick (settleStrobes (s.waitingFlows.foldl (tickFlow t) u)))

end Sys2Proof.Machine
end

