-- ==== Sys2Proof/Safety.lean ====
section
/-! DEFINITION. Safety.lean: the notions that claims about the machine are stated with: a command that completes, what a command
leaves unchanged, and the invariants. -/

namespace Sys2Proof.Machine

/-- The command c completes on s: exec answers a next state, and P says what that state holds. -/
def Completes (c : Instr) (s : State) (P : State → Prop) : Prop := ∃ t, exec c s = .next t ∧ P t

/-- Every register but those of the list reads in t as it reads in s. -/
def SameRegs (l : List Nat) (s t : State) : Prop := ∀ a, a ∉ l → t.rd a = s.rd a

/-- Nothing but the registers of the list may differ between s and t: no other register, no memory, no other state. -/
def OnlyRegs (l : List Nat) (s t : State) : Prop := SameRegs l s t ∧ t = { s with regs := t.regs }

/-- The address-keyed stores are in canonical form: no two states that read alike differ in them. -/
def State.canon (s : State) : Prop :=
  mapWf regReset s.regs = true ∧ mapWf (fun _ => (0 : Byte)) s.mem.sram = true ∧ mapWf (fun _ => (0 : Byte)) s.mem.dram = true

/-- The part is quiet: no DAC drives data (R238, R520). -/
def State.silent (s : State) : Prop := ∀ p, p < 64 → s.dacRow p = .quiet

/-- The state in which core n has the pair open that an instruction belongs to (R356). -/
def State.pairOpen (s : State) (n : Nat) : State := if (s.core n).opened then s else openPair s n

/-- Core n can issue an instruction in a slot: it is not halted and does not wait, only slot 1 goes on with a pair, and the
fetch of the pair raises no exception. -/
def State.canIssue (s : State) (n : Nat) (slot : YSlot) : Prop :=
  s.yIssues n = true ∧ (slot ≠ .slot1 → (s.core n).opened = false) ∧ ((s.pairOpen n).core n).badFetch = false

/-- The command issues its instruction and leaves core n as k, and nothing else changes; after slot 1, or with nothing in slot 1,
the pair then ends. -/
def Issues (c : Instr) (s : State) (n : Nat) (slot : YSlot) (k : YCore) : Prop :=
  exec c s = .next (if slot = .slot0 then (s.pairOpen n).updCore n (fun _ => k)
    else endPair ((s.pairOpen n).updCore n (fun _ => k)) n)

/-- A core with results added to those in flight: the latency in pairs, the destination and the value (R357). -/
def YCore.gives (c : YCore) (l : List (Nat × YDst × Nat)) : YCore :=
  { c with inflight := c.inflight ++ l.map (fun r => { due := c.pair + r.1, dst := r.2.1, val := r.2.2 }) }

/-- A core whose pair raises an exception when it ends: the first one raised in it stands (R372). -/
def YCore.raises (c : YCore) (cause : Nat) (far : Option Word) : YCore :=
  { c with exc := some (c.exc.getD { cause, code := 0, far }) }

end Sys2Proof.Machine
end

