-- ==== Sys2Proof/Certificates/Slice0/Obligations.lean ====
section
/-! DEFINITION. Certificates/Slice0/Obligations.lean: the statements about the machine, chapter by chapter of spec/. A statement names
in its words the entries of the assumption log (notes/assumptions/) that it rests on. -/

open Sys2Proof Sys2Proof.Machine

/-! ### Network time and the air timeline -/

/-- R26 to R28 and R569: SNAP copies the PHC; LOAD and ADJ_GO step it unless the servo owns it; a write that changes TSRC takes the
time state to FREERUN, and one of the same value changes nothing. The model's choices it rests on: assumption log 4, 7, 21, 24. -/
def Obligations.ClockWritesTakeEffect : Prop :=
  (∀ s : State, Completes .timSnap s fun t =>
    t.rd Reg.TIM_SNAP_FRAC = BitVec.ofNat 32 s.time.phc.frac ∧ t.rd Reg.TIM_SNAP_NS = BitVec.ofNat 32 s.time.phc.ns
    ∧ t.rd Reg.TIM_SNAP_SEC_LO = BitVec.ofNat 32 s.time.phc.sec
    ∧ t.rd Reg.TIM_SNAP_SEC_HI = BitVec.ofNat 32 (s.time.phc.sec / 2 ^ 32 % 2 ^ 16)
    ∧ OnlyRegs [Reg.TIM_SNAP_FRAC, Reg.TIM_SNAP_NS, Reg.TIM_SNAP_SEC_LO, Reg.TIM_SNAP_SEC_HI] s t)
  ∧ (∀ (s : State) (ce2 adj : Bool), (s.fld Fld.TIM_CTRL_SERVO_EN = 0 ∨ ce2 = true) → (∀ n, n < 64 → s.trgPhc n = false) →
    Completes (.timLoad ce2 adj) s fun t =>
      t.time.phc = (if adj then s.loadValue.move (s.sfld Fld.TIM_ADJ_OFS * 2 ^ 32) else s.loadValue)
      ∧ t.fld Fld.TIM_STATUS_STEPPED = 1 ∧ t.fld Fld.TIM_CNT_STEPS = min (s.fld Fld.TIM_CNT_STEPS + 1) 65535)
  ∧ (∀ (s : State) (ce2 : Bool), (s.fld Fld.TIM_CTRL_SERVO_EN = 0 ∨ ce2 = true) → (∀ n, n < 64 → s.trgPhc n = false) →
    Completes (.timAdjGo ce2) s fun t =>
      t.time.phc = s.time.phc.move (s.sfld Fld.TIM_ADJ_OFS * 2 ^ 32)
      ∧ t.fld Fld.TIM_STATUS_STEPPED = 1 ∧ t.fld Fld.TIM_CNT_STEPS = min (s.fld Fld.TIM_CNT_STEPS + 1) 65535)
  ∧ (∀ (s : State) (adj : Bool), s.fld Fld.TIM_CTRL_SERVO_EN = 1 →
    exec (.timLoad false adj) s = .next s ∧ exec (.timAdjGo false) s = .next s)
  ∧ (∀ (s : State) (v : Fin 4), Completes (.tsrcChange v) s fun t =>
    t.fld Fld.TIM_CTRL_TSRC = v
    ∧ (s.fld Fld.TIM_CTRL_TSRC = v → t = s)
    ∧ (s.fld Fld.TIM_CTRL_TSRC ≠ v → t.fld Fld.TIM_STATUS_STATE = 0 ∧ t.fld Fld.TIM_STATUS_TIME_OK = 0)
    ∧ t.fld Fld.TIM_STATUS_HOLD_EXPIRED = s.fld Fld.TIM_STATUS_HOLD_EXPIRED
    ∧ SameRegs [Reg.TIM_CTRL, Reg.TIM_STATUS] s t ∧ t = { s with regs := t.regs, time := t.time, boot := t.boot })

/-- R29 to R36: PTP messages are stamped, matched and sent, and an update moves the time state. The model's choices it rests on:
assumption log 2, 26, 33, 34. -/
def Obligations.PtpMessagesAndTimeState : Prop :=
  (∀ (s : State) (port : Fin 8) (seq : Fin 65536) (q : Fin 5) (time corr : Int), s.ptpOn port = true →
    (Completes (.ptpEventRx port (.sync true) seq q time corr) s fun t =>
      ∃ u, t.tuple port seq = some u ∧ u.t1 = some time
        ∧ u.t2 = some (s.stamp q - s.fld (Fld.TIM_PORT_LAT_RX_LAT port) * 2 ^ 14) ∧ u.corrSync = corr)
    ∧ (Completes (.ptpEventRx port .delayReq seq q time corr) s fun t =>
      ∃ u, t.tuple port seq = some u ∧ u.t4 = some (s.stamp q - s.fld (Fld.TIM_PORT_LAT_RX_LAT port) * 2 ^ 14))
    ∧ (Completes (.ptpEventRx port .delayResp seq q time corr) s fun t =>
      ∃ u, t.tuple port seq = some u ∧ u.t4 = some time ∧ u.corrResp = corr))
  ∧ (∀ (s : State) (port : Fin 8), s.ptpMaster port = true →
    (Completes (.ptpSyncTx port) s fun t => ∃ sec ns corr, t = s.emit (.ptp port 0 sec ns corr) ∧ ns < 1000000000 ∧ corr < 65536
      ∧ (((sec * 1000000000 + ns) * 65536 + corr : Nat) : Int) = (s.stamp 0).toNat + s.fld (Fld.TIM_PORT_LAT_TX_LAT port) * 2 ^ 14)
    ∧ Completes (.ptpAnnounceTx port) s fun t => t = s.emit (.ptp port 11 0 0 0))
  ∧ (∀ (s : State) (port : Fin 8) (seq : Fin 65536), s.ptpOn port = true → s.time.slave = some port.val →
    Completes (.ptpDelayReqTx port seq) s fun t =>
      ∃ u, t.tuple port seq = some u ∧ u.t3 = some (s.stamp 0 + s.fld (Fld.TIM_PORT_LAT_TX_LAT port) * 2 ^ 14)
        ∧ t.out.length = s.out.length + 1)
  ∧ (∀ (s : State) (port : Fin 8) (seq : Fin 65536) (u : PtpTuple), s.tuple port seq = some u → u.full = true →
      s.fld (Fld.CLS_CE_CTRL_RUN 2) = 1 → s.ptpOn port = true → s.fld (Fld.TIM_PORT_CFG_MASTER_ONLY port) = 0 →
      s.fld Fld.TIM_CTRL_TSRC = 0 → s.servoSteps (s.tupleOffset u) = false →
    Completes (.servoUpdate port seq true) s fun t =>
      t.fld Fld.TIM_SRV_OFS_OFS = unsigned 32 (s.tupleOffset u / 2 ^ 16) ∧ t.time.slave = some port.val
        ∧ t.tuple port seq = none
        ∧ (s.fld Fld.TIM_STATUS_STATE = 0 → t.fld Fld.TIM_STATUS_STATE = 1)
        ∧ (s.fld Fld.TIM_STATUS_STATE = 3 → t.fld Fld.TIM_STATUS_STATE = 1))
  ∧ (∀ s : State, Completes .sourceLost s fun t =>
      (s.fld Fld.TIM_STATUS_STATE = 2 → t.fld Fld.TIM_STATUS_STATE = 3 ∧ t.fld Fld.TIM_STATUS_TIME_OK = 1)
      ∧ (s.fld Fld.TIM_STATUS_STATE = 1 → t.fld Fld.TIM_STATUS_STATE = 0 ∧ t.fld Fld.TIM_STATUS_TIME_OK = 0)
      ∧ t.time.slave = none)
  ∧ (∀ s : State, s.fld Fld.TIM_STATUS_STATE = 3 → s.fld Fld.TIM_HOLD_HOLD_MAX ≠ 0 → Completes .holdoverExpire s fun t =>
      t.fld Fld.TIM_STATUS_STATE = 0 ∧ t.fld Fld.TIM_STATUS_HOLD_EXPIRED = 1 ∧ t.fld Fld.TIM_STATUS_TIME_OK = 0
      ∧ SameRegs [Reg.TIM_STATUS] s t)
  ∧ (∀ (s : State) (lane ql : Fin 16) (locked : Bool), s.fld Fld.TIM_SYNCE_CFG_EN = 1 →
      s.fld Fld.TIM_SYNCE_STAT_ACTIVE = lane → ssmRank ql ≤ ssmRank (s.fld Fld.TIM_SYNCE_CFG_QL_MIN) →
    Completes (.esmcPduRx lane ql locked) s fun t => t.fld Fld.TIM_SYNCE_STAT_QL = ql
      ∧ t.fld Fld.TIM_SYNCE_STAT_STATE = (if locked then 2 else 1)
      ∧ SameRegs [Reg.TIM_SYNCE_STAT, Reg.CLS_CE_EVPEND 2, Reg.CLS_CE_CNT1 2] s t ∧ t = { s with regs := t.regs })

/-- R37, R40, R41 and R47: PPS, the time of day and the capture inputs. The model's choices it rests on: assumption log 2. -/
def Obligations.PpsTimeOfDayAndCaptures : Prop :=
  (∀ s : State, s.fld Fld.TIM_PPS_CFG_OUT_EN = 1 → s.ppsDue = true → s.time.ppsOut = false → Completes .ppsOutRise s fun t =>
    t.time.ppsOut = true ∧ t.time.ppsRose = s.time.now ∧ t.out = .pps true :: s.out ∧ t.regs = s.regs)
  ∧ (∀ s : State, s.time.ppsOut = true →
      s.time.ppsRose + max 1 (min 999 (s.fld Fld.TIM_PPS_CFG_WIDTH_MS)) * 800000 ≤ s.time.now → Completes .ppsOutFall s fun t =>
    t.time.ppsOut = false ∧ t.out = .pps false :: s.out ∧ t.regs = s.regs)
  ∧ (∀ s : State, s.fld Fld.TIM_TOD_CFG_TX_EN = 1 → Completes .todTxMessage s fun t =>
    ∃ bytes, t.out = .tod bytes :: s.out ∧ bytes.length = 16 ∧ bytes.head? = some 0x7E
      ∧ bytes.getLast? = some (crc8 ((bytes.drop 1).take 14)) ∧ t.regs = s.regs)
  ∧ (∀ (s : State) (bytes : List (Fin 256)), s.fld Fld.TIM_CTRL_TSRC = 1 → bytes.length = 16 →
      Completes (.todRxMessage bytes) s fun t =>
        let b := bytes.map (·.val)
        if crc8 ((b.drop 1).take 14) = (b.drop 15).headD 0 then
          t.fld Fld.TIM_TOD_CFG_UTC_OFS = ofBytes ((b.drop 8).take 2) ∧ t.time.todSec = ofBytes ((b.drop 2).take 6)
            ∧ t.fld Fld.TIM_TOD_CFG_TOD_ERR = s.fld Fld.TIM_TOD_CFG_TOD_ERR
        else t.fld Fld.TIM_TOD_CFG_TOD_ERR = min (s.fld Fld.TIM_TOD_CFG_TOD_ERR + 1) 255 ∧ OnlyRegs [Reg.TIM_TOD_CFG] s t)
  ∧ (∀ s : State, s.fld Fld.TIM_CTRL_TSRC = 1 → s.fld (Fld.CLS_CE_CTRL_RUN 2) = 1 → s.servoSteps s.ppsOffset = false →
      Completes .ppsInEdge s fun t => t.fld Fld.TIM_SRV_OFS_OFS = unsigned 32 (s.ppsOffset / 2 ^ 16)
        ∧ (s.fld Fld.TIM_STATUS_STATE = 0 → t.fld Fld.TIM_STATUS_STATE = 1))
  ∧ (∀ (s : State) (ch : Fin 16) (rising : Bool), s.captures ch rising = true → Completes (.captureEdge ch rising) s fun t =>
      if (s.capsOf ch).length < 4 then
        t.capsOf ch = s.capsOf ch ++ [{ ch := ch, ns := s.time.phc.ns, sec := s.time.phc.sec % 2 ^ 32 }] ∧ t.regs = s.regs
      else t.capsOf ch = s.capsOf ch ∧ t.fld (Fld.TIM_CAP_STAT_OVF ch) = 1 ∧ OnlyRegs [Reg.TIM_CAP_STAT ch] s t)
  ∧ (∀ (s : State) (path : Path) (ch : Fin 16), Completes (.capTsRead path ch) s fun t =>
      match s.capsOf ch with
      | [] => t.out = .read (pathCode path) (Reg.TIM_CAP_TS_LO ch) (some 0) :: s.out ∧ t.time = s.time
      | x :: rest => t.out = .read (pathCode path) (Reg.TIM_CAP_TS_LO ch) (some (x.ns % 2 ^ 32)) :: s.out ∧ t.capsOf ch = rest)

/-- R48, R49, R55 to R57, R570: a carrier timeline starts and stops, the air time moves, and a facet re-anchors. The model's choices
it rests on: assumption log 4, 24, 27, 28, 30. -/
def Obligations.TimelinesStartStopAndRealign : Prop :=
  (∀ (s : State) (c : Fin 32) (mu : Fin 4) (ecp : Bool), s.fld (Fld.TIM_AIR_CFG_EN c) = 0 →
    Completes (.airTimelineEnable c mu ecp) s fun t =>
      t.fld (Fld.TIM_AIR_CFG_EN c) = 1 ∧ (t.line c).startDue = true
      ∧ t.fld (Fld.TIM_AIR_CFG_MU c) = (if mu = 3 then s.fld (Fld.TIM_AIR_CFG_MU c) else mu.val)
      ∧ SameRegs [Reg.TIM_AIR_CFG c] s t)
  ∧ (∀ (s : State) (c : Fin 32), s.fld (Fld.TIM_AIR_CFG_EN c) = 1 → (s.line c).startDue = true →
    Completes (.airTimelineStart c) s fun t =>
      (t.line c).running = true ∧ (t.line c).startDue = false ∧ (∀ d, d ≠ c.val → t.line d = s.line d) ∧ t.regs = s.regs)
  ∧ (∀ (s : State) (c : Fin 32), Completes (.airTimelineDisable c) s fun t =>
      if s.lineUsed c then t.fld (Fld.TIM_AIR_CFG_REFUSED c) = 1 ∧ t.fld (Fld.TIM_AIR_CFG_EN c) = s.fld (Fld.TIM_AIR_CFG_EN c)
        ∧ OnlyRegs [Reg.TIM_AIR_CFG c] s t
      else t.fld (Fld.TIM_AIR_CFG_EN c) = 0 ∧ (t.line c).running = false ∧ SameRegs [Reg.TIM_AIR_CFG c] s t)
  ∧ (∀ (s : State) (v : Word), s.anyAnchored = false →
      (Completes (.airOffsetWrite false v) s fun t => t.rd Reg.TIM_AIR_ALPHA = v ∧ OnlyRegs [Reg.TIM_AIR_ALPHA] s t)
      ∧ (Completes (.airOffsetWrite true v) s fun t => t.fld Fld.TIM_AIR_BETA_BETA = v.toNat % 1024 ∧ OnlyRegs [Reg.TIM_AIR_BETA] s t))
  ∧ (∀ (s : State) (e0 e1 e2 e3 : Int), (s.facetT 0).anchored = true → (∀ k, 0 < k → k < 4 → (s.facetT k).anchored = false) →
      (s.facetT 0).realigning = false → s.fld Fld.RCS_SYNC_STAT_FOLLOWING = 0 → s.fld Fld.TIM_AIR_PEND_PEND = 0 →
      (s.facetT 0).drift = false → (s.sfld Fld.TIM_AIR_LAG_F0 + e0).natAbs ≤ 40 →
    Completes (.airHalfMsBoundary e0 e1 e2 e3) s fun t => t.fld Fld.TIM_AIR_LAG_F0 = 0 ∧ t.fld Fld.TIM_AIR_PEND_PEND = 0
      ∧ OnlyRegs [Reg.TIM_AIR_LAG, Reg.TIM_AIR_PEND] s { t with cva := s.cva })
  ∧ (∀ (s : State) (c : Fin 32) (a b : BitVec 16), s.fld (Fld.TIM_AIR_CFG_EN c) = 1 → (s.line c).running = true →
      (s.line c).muted = false → (s.facetT (c.val / 8)).anchored = true →
    ((s.line c).muteDue = true → Completes (.realisedSymbolBoundary c a b) s fun t =>
      (t.line c).muted = true ∧ (t.line c).muteDue = false ∧ t.cva.realignQuiet.at (c.val / 8) = true)
    ∧ ((s.line c).muteDue = false → Completes (.realisedSymbolBoundary c a b) s fun t =>
      t = boundary s c.val a.toNat b.toNat))
  ∧ (∀ (s : State) (k : Fin 4), (s.facetT k).realigning = true → (s.facetT k).reanchorNs ≤ s.phcNs →
    Completes (.realignReanchor k) s fun t =>
      (t.facetT k).realigning = false ∧ t.fld (lagFld k) = 0 ∧ t.cva.realignQuiet.at k = false
      ∧ (∀ i, i < 8 → (t.line (8 * k.val + i)).muted = false) ∧ (∀ i, i < 16 → t.cva.relWait.at (16 * k.val + i) = none))

/-- R42 to R46 and R568: a trigger fires, sets FIRED and performs its action; arming checks the times. The model's choices it rests
on: assumption log 4. -/
def Obligations.TriggersFireAndArm : Prop :=
  (∀ (s : State) (n : Fin 64), s.fld (Fld.TIM_TRG_CFG_ARM n) = 1 → s.fld (Fld.TIM_TRG_CFG_MODE n) = 0 →
      s.trgTime n s.time.phc ≤ s.phcNs →
    ∃ u, exec (.triggerFire n) s = .next (triggerAction u n) ∧ u.fld (Fld.TIM_TRG_STAT_FIRED n) = 1
      ∧ (s.fld (Fld.TIM_TRG_PERIOD_PERIOD n) = 0 → u.fld (Fld.TIM_TRG_CFG_ARM n) = 0)
      ∧ (s.fld (Fld.TIM_TRG_PERIOD_PERIOD n) ≠ 0 → u.fld (Fld.TIM_TRG_CFG_ARM n) = 1
        ∧ u.fld (Fld.TIM_TRG_TIME_LO_NS n) = (s.trgTime n s.time.phc + max 100 (s.fld (Fld.TIM_TRG_PERIOD_PERIOD n))) % 1000000000)
      ∧ OnlyRegs [Reg.TIM_TRG_CFG n, Reg.TIM_TRG_STAT n, Reg.TIM_TRG_TIME_LO n, Reg.TIM_TRG_TIME_HI n] s u)
  ∧ (∀ (s : State) (n : Fin 64) (sym : Fin 14), s.fld (Fld.TIM_TRG_CFG_ARM n) = 1 → s.fld (Fld.TIM_TRG_CFG_MODE n) = 1 →
      (s.fld (Fld.TIM_TRG_TIME_HI_SEC n)).testBit sym = true → sym.val < perSlot (s.ecp (s.fld (Fld.TIM_TRG_CFG_CAR n))) →
      s.trgBoundary n = true →
    ∃ u, exec (.triggerFireAir n sym) s = .next (triggerAction u n) ∧ u.fld (Fld.TIM_TRG_STAT_FIRED n) = 1
      ∧ OnlyRegs [Reg.TIM_TRG_STAT n] s u)
  ∧ (∀ (s : State) (n : Fin 64) (cfg : Word), cfg.getLsbD 30 = false → 1000000000 ≤ s.fld (Fld.TIM_TRG_TIME_LO_NS n) →
    Completes (.triggerArm n cfg) s fun t => t.fld (Fld.TIM_TRG_CFG_ARM n) = 0 ∧ t.fld (Fld.TIM_TRG_STAT_BAD n) = 1
      ∧ OnlyRegs [Reg.TIM_TRG_CFG n, Reg.TIM_TRG_STAT n] s t)
  ∧ (∀ (s : State) (n : Fin 64) (cfg : Word), cfg.getLsbD 30 = false → s.fld (Fld.TIM_TRG_TIME_LO_NS n) < 1000000000 →
      s.phcNs ≤ s.trgTime n s.time.phc →
    Completes (.triggerArm n cfg) s fun t => t.fld (Fld.TIM_TRG_CFG_ARM n) = 1 ∧ t.fld (Fld.TIM_TRG_CFG_MODE n) = 0
      ∧ OnlyRegs [Reg.TIM_TRG_CFG n] s t)
  ∧ (∀ (s : State) (n : Nat), n < 64 →
      (s.fld (Fld.TIM_TRG_CFG_CLASS n) = 0 ∨ 0xB ≤ s.fld (Fld.TIM_TRG_CFG_CLASS n) → triggerAction s n = s)
      ∧ (s.fld (Fld.TIM_TRG_CFG_CLASS n) = 9 → triggerAction s n = s.ceEvent (s.fld (Fld.TIM_TRG_CFG_ARG n) % 4) (16 + n % 16)))

/-! ### Fronthaul: ports, planes and flows -/

/-- R60, R61, R63, R67, R69, R71 and R312: a frame on a port that is up is checked and counted; ports and groups are written, go
down and come up, and a flow is placed again. The model's choices it rests on: assumption log 8, 10, 46. -/
def Obligations.FramesCountAndPortsMove : Prop :=
  (∀ (s : State) (n : Fin 8) (f : Frame), s.fld (Fld.FPE_PORT_STAT_UP n) = 1 →
    (f.fcsOk = false → Completes (.frameRx n f) s fun t =>
      t.fld (Fld.FPE_PORT_CNT2_FCS_ERR n) = min (s.fld (Fld.FPE_PORT_CNT2_FCS_ERR n) + 1) 65535 ∧ OnlyRegs [Reg.FPE_PORT_CNT2 n] s t)
    ∧ (f.fcsOk = true → (f.size < 64 ∨ 9600 < f.size) → Completes (.frameRx n f) s fun t =>
      t.fld (Fld.FPE_PORT_CNT2_SIZE_ERR n) = min (s.fld (Fld.FPE_PORT_CNT2_SIZE_ERR n) + 1) 65535
        ∧ t.fld (Fld.FPE_PORT_CNT0_RX_FRAMES n) = min (s.fld (Fld.FPE_PORT_CNT0_RX_FRAMES n) + 1) (2 ^ 32 - 1)
        ∧ OnlyRegs [Reg.FPE_PORT_CNT2 n, Reg.FPE_PORT_CNT0 n] s t)
    ∧ (f.fcsOk = true → 64 ≤ f.size → f.size ≤ 9600 → s.fld (Fld.FPE_MSEC_CFG_EN n) = 0 →
      f.kind = .ptp ∨ f.kind = .esmc → Completes (.frameRx n f) s fun t =>
        t.fld (Fld.FPE_PORT_CNT0_RX_FRAMES n) = min (s.fld (Fld.FPE_PORT_CNT0_RX_FRAMES n) + 1) (2 ^ 32 - 1)
          ∧ OnlyRegs [Reg.FPE_PORT_CNT0 n] s t)
    ∧ (∀ msgs, f.fcsOk = true → 64 ≤ f.size → f.size ≤ 9600 → s.fld (Fld.FPE_MSEC_CFG_EN n) = 0 → f.tagged = true →
      f.kind = .ecpri msgs false → (∀ m, m ∈ msgs → m.2.1 = 1 ∧ m.2.2 = true ∧ m.1 ∈ [0, 2, 4, 5, 7]) →
      Completes (.frameRx n f) s fun t =>
        t.fld (Fld.FPE_PORT_CNT0_RX_FRAMES n) = min (s.fld (Fld.FPE_PORT_CNT0_RX_FRAMES n) + 1) (2 ^ 32 - 1)
          ∧ OnlyRegs [Reg.FPE_PORT_CNT0 n] s t))
  ∧ (∀ (s : State) (n : Fin 8) (v : Word), ∃ u, exec (.portConfigWrite n v) s = .next (judge s u [])
      ∧ SameRegs [Reg.FPE_PORT_CFG n] s u ∧ (u.fld (Fld.FPE_PORT_CFG_EN n) = 1 ↔ n.val ∈ u.fpe.portOrder)
      ∧ (∀ m, m ≠ n.val → (m ∈ u.fpe.portOrder ↔ m ∈ s.fpe.portOrder)))
  ∧ (∀ (s : State) (g : Fin 4) (v : Word), (∀ n, n < 8 → s.portUp n = false) → Completes (.portGroupWrite g v) s fun t =>
      (∀ h, h < 4 → (t.fld (Fld.FPE_GRP_CFG_BAD h) = 1 ↔ t.groupMembers h ≠ t.fld (Fld.FPE_GRP_CFG_MEMBERS h)))
        ∧ OnlyRegs [Reg.FPE_GRP_CFG 0, Reg.FPE_GRP_CFG 1, Reg.FPE_GRP_CFG 2, Reg.FPE_GRP_CFG 3] s t)
  ∧ (∀ (s : State) (n : Fin 8), s.portUp n = true → s.inService (s.fld (Fld.FPE_PORT_CFG_LANE n)) = false →
      Completes (.portDown n) s fun t => t.portUp n = false ∧ t.fld (Fld.FPE_PORT_STAT_DOWN_EVT n) = 1
        ∧ (s.persona = false → t.isRaised 0x801 n = true) ∧ t.mem = s.mem)
  ∧ (∀ (s : State) (n : Fin 8), s.portUp n = false → s.portReady n = true → Completes (.portUp n) s fun t =>
      t.portUp n = true ∧ t.isRaised 0x801 n = false ∧ t.mem = s.mem)
  ∧ (∀ (s : State) (f : Fin 256), s.fld Fld.FPE_CTRL_REBALANCE = 1 → f.val ∈ s.fpe.rebal → (s.flowDyn f).ulQueue = [] →
      ∃ u, exec (.flowRebalance f) s = .next (assignFlow u f) ∧ f.val ∉ u.fpe.rebal ∧ u = { s with fpe := u.fpe })

/-- R73 to R85, R91 and R95: a message is matched to a flow, checked, counted and, within its window, taken. The model's choices it
rests on: assumption log 10, 46, 50. -/
def Obligations.PlaneMessagesAreTaken : Prop :=
  (∀ (s : State) (n : Fin 8) (h : MsgHdr) (us : List USec) (cs : List CSec), (h.ebit = false ∨ h.subseq ≠ 0) →
    (Completes (.uplaneMsgRx n h us) s fun t =>
      t.fld Fld.FPE_GLB_CNT0_BAD_MSG = min (s.fld Fld.FPE_GLB_CNT0_BAD_MSG + 1) 65535 ∧ OnlyRegs [Reg.FPE_GLB_CNT0] s t)
    ∧ Completes (.cplaneMsgRx n h cs) s fun t =>
      t.fld Fld.FPE_GLB_CNT0_BAD_MSG = min (s.fld Fld.FPE_GLB_CNT0_BAD_MSG + 1) 65535 ∧ OnlyRegs [Reg.FPE_GLB_CNT0] s t)
  ∧ (∀ (s : State) (n : Fin 8) (h : MsgHdr) (us : List USec) (cs : List CSec), h.ebit = true → h.subseq = 0 →
      s.matchFlow h.eaxc.toNat h.dl = none →
    (Completes (.uplaneMsgRx n h us) s fun t =>
      t.fld Fld.FPE_GLB_CNT0_NO_FLOW = min (s.fld Fld.FPE_GLB_CNT0_NO_FLOW + 1) 65535 ∧ OnlyRegs [Reg.FPE_GLB_CNT0] s t)
    ∧ Completes (.cplaneMsgRx n h cs) s fun t =>
      t.fld Fld.FPE_GLB_CNT0_NO_FLOW = min (s.fld Fld.FPE_GLB_CNT0_NO_FLOW + 1) 65535 ∧ OnlyRegs [Reg.FPE_GLB_CNT0] s t)
  ∧ (∀ (s : State) (n : Fin 8) (h : MsgHdr) (us : List USec) (f : Nat), h.ebit = true → h.subseq = 0 →
      s.matchFlow h.eaxc.toNat h.dl = some f → f < 256 → s.acceptsOn f n h.vid = true → h.version = 1 → s.flowDl f = true →
      s.posOk (s.flowCar f) h = true → us ≠ [] → (∀ x, x ∈ us → s.uSecOk f x = true) → s.flowState f = 2 →
      s.inMute (s.flowCar f) (s.msgSym h) = false → (s.window f false (s.msgSym h)).1 < s.phcFine + s.increment →
      s.phcFine ≤ (s.window f false (s.msgSym h)).2 →
      (s.fpe.ubuf.map (fun m => m.units)).foldl (· + ·) 0 + (h.bytes + 63) / 64 ≤ 196608 →
    Completes (.uplaneMsgRx n h us) s fun t =>
      t.fpe.ubuf = s.fpe.ubuf ++ [{ flow := f, sym := s.msgSym h, secs := us.map (s.withComp f), units := (h.bytes + 63) / 64 }]
        ∧ t.fld (Fld.FPE_FLOW_CNT0_RX_MSG f) = min (s.fld (Fld.FPE_FLOW_CNT0_RX_MSG f) + 1) 65535
        ∧ t.fld (Fld.FPE_FLOW_STAT_EXP_SEQ f) = (h.seq.toNat + 1) % 256 ∧ t.flowState f = 2 ∧ t.mem = s.mem)
  ∧ (∀ (s : State) (n : Fin 8) (h : MsgHdr) (cs : List CSec) (f : Nat), h.ebit = true → h.subseq = 0 →
      s.matchFlow h.eaxc.toNat h.dl = some f → f < 256 → s.acceptsOn f n h.vid = true →
      s.posOk (s.flowCar f) h = true → cs ≠ [] → (∀ x, x ∈ cs → s.cSecOk f x = true) → s.flowState f = 2 →
      (s.window f true (s.msgSym h)).1 < s.phcFine + s.increment → s.phcFine ≤ (s.window f true (s.msgSym h)).2 →
    ∃ u, exec (.cplaneMsgRx n h cs) s = .next (refreshLevels (cs.foldl (fun t x => takeSection t f (s.msgSym h) x) u))
      ∧ u.fld (Fld.FPE_FLOW_CNT0_RX_MSG f) = min (s.fld (Fld.FPE_FLOW_CNT0_RX_MSG f) + 1) 65535
      ∧ u.flowState f = 2 ∧ u.fpe.evAddr = some h.src ∧ u.fpe.sections = s.fpe.sections ∧ u.mem = s.mem)

/-- R80 to R82, R85 and R87: a flow is armed, disabled, starves, goes quiescent, and sends its uplink data. The model's choices it
rests on: assumption log 11, 23, 48, 49. -/
def Obligations.FlowStatesMove : Prop :=
  (∀ (s : State) (f : Fin 256) (v : Word), s.fld (Fld.FPE_FLOW_CFG_EN f) = 0 →
    let w := (s.writeRw (Reg.FPE_FLOW_CFG f) v).flag (Fld.FPE_FLOW_CFG_EN f) false
    (w.armOk f = true → ∃ u, exec (.flowArm f v) s = .next (assignFlow u f) ∧ u.fld (Fld.FPE_FLOW_CFG_EN f) = 1 ∧ u.flowState f = 1
      ∧ SameRegs [Reg.FPE_FLOW_CFG f, Reg.FPE_FLOW_STAT f] s u)
    ∧ (w.armOk f = false → Completes (.flowArm f v) s fun t => t.fld (Fld.FPE_FLOW_CFG_EN f) = 0
      ∧ t.fld (Fld.FPE_FLOW_STAT_BAD_CFG f) = 1 ∧ OnlyRegs [Reg.FPE_FLOW_CFG f, Reg.FPE_FLOW_STAT f] s t))
  ∧ (∀ (s : State) (f : Fin 256), s.fld (Fld.FPE_FLOW_CFG_EN f) = 1 → Completes (.flowDisable f) s fun t =>
      t.fld (Fld.FPE_FLOW_CFG_EN f) = 0 ∧ t.flowState f = 0 ∧ t.fld (Fld.FPE_FLOW_STAT_PORT f) = 0
        ∧ t.fpe.ubuf.all (fun m => m.flow != f.val) = true ∧ (t.flowDyn f).waiting = [])
  ∧ (∀ (s : State) (f : Fin 256), s.flowState f = 2 → s.flowDl f = true → 8 ≤ s.emptySlots f → Completes (.flowStarved f) s fun t =>
      t.flowState f = 3 ∧ (s.persona = false → t.isRaised 0x401 f = true))
  ∧ (∀ (s : State) (f : Fin 256), (s.flowState f = 2 ∨ s.flowState f = 3) →
      (s.flowDyn f).lastRx + max 1 (s.fld Fld.FPE_TIMING_FLOW_AGE) * 8000000 ≤ s.time.now → Completes (.flowQuiescent f) s fun t =>
      t.flowState f = 4 ∧ SameRegs [Reg.FPE_FLOW_STAT f] s t ∧ t = { s with regs := t.regs, fpe := t.fpe }
        ∧ (s.persona = false → ∃ e, t.fpe.evPend = s.fpe.evPend ++ [e] ∧ e.num = 0x803 ∧ e.flow = some f.val))
  ∧ (∀ (s : State) (f : Fin 256) (late : Bool),
      (if late then (s.flowDyn f).lateAt else (s.flowDyn f).earlyAt) + 800000000 ≤ s.time.now →
      Completes (.windowEventCease f late) s fun t => t.isRaised (if late then 0x404 else 0x403) f = false
        ∧ t.regs = s.regs ∧ t = { s with fpe := t.fpe })
  ∧ (∀ (s : State) (f : Fin 256) (d : UlData) (rest : List UlData), (s.flowDyn f).ulQueue = d :: rest → d.ready ≤ s.phcFine →
      d.prbs.length ≤ s.ulPrbs f (s.fld (Fld.FPE_FLOW_STAT_PORT f)) d.meth d.iqw → s.fld (Fld.FPE_FLOW_STAT_SHED f) = 0 →
      s.flowState f ≠ 0 → s.fld (Fld.FPE_PORT_STAT_UP (s.fld (Fld.FPE_FLOW_STAT_PORT f))) = 1 →
      s.fld (Fld.FPE_MSEC_CFG_EN (s.fld (Fld.FPE_FLOW_STAT_PORT f))) = 0 →
    Completes (.ulUplaneTx f) s fun t => (t.flowDyn f).ulQueue = rest
      ∧ t.fld (Fld.FPE_FLOW_CNT0_TX_MSG f) = min (s.fld (Fld.FPE_FLOW_CNT0_TX_MSG f) + 1) 65535
      ∧ t.out = .uplane (s.fld (Fld.FPE_FLOW_STAT_PORT f)) (s.flowDyn f).cSrc f (s.flowDyn f).ulSeq d.sym d.secId (d.prbs.headD 0)
          (d.prbs.map (fun r => compress d.meth d.iqw (prbComps d.res r))) :: s.out)

/-- R97, R100 to R103: delay measurement is answered, remote accesses are queued, and events are sent, acknowledged and sent again.
The model's choices it rests on: assumption log 2, 7. -/
def Obligations.DelayQueueAndEvents : Prop :=
  (∀ (s : State) (n : Fin 8) (id : Byte) (src : Nat) (fu : Bool), s.fld (Fld.FPE_PORT_STAT_UP n) = 1 → s.fld (Fld.FPE_MSEC_CFG_EN n) = 0 →
    (Completes (.dmRequest n id src) s fun t => (∃ sec ns comp, t.out = .delay n 2 id.toNat src sec ns comp :: s.out ∧ ns < 1000000000)
      ∧ t.fld (Fld.FPE_PORT_CNT1_TX_FRAMES n) = min (s.fld (Fld.FPE_PORT_CNT1_TX_FRAMES n) + 1) (2 ^ 32 - 1)
      ∧ SameRegs [Reg.FPE_PORT_CNT1 n] s t)
    ∧ (Completes (.dmRequestFollowUp n id src) s fun t => ∃ sec ns comp, t.out = .delay n 2 id.toNat src sec ns comp :: s.out)
    ∧ (Completes (.dmRemoteRequest n fu id src) s fun t => ∃ sec ns comp, t.out = .delay n 0 id.toNat src sec ns comp :: s.out))
  ∧ (∀ (s : State) (n : Fin 8) (id : Byte), exec (.dmFollowUp n id) s = .next s ∧ exec (.dmResponse n id) s = .next s)
  ∧ (∀ (s : State) (n : Fin 8) (prot : Bool) (src : Nat) (id : Byte) (k : Fin 3) (el : Half) (a : BitVec 48) (len : Nat) (ws : List Word),
      s.fld (Fld.FPE_PORT_STAT_UP n) = 1 → Completes (.rmaRequestRx n prot src id k el a len ws) s fun t =>
      if s.fpe.rmaQ.length < 16 then
        t.fpe.rmaQ = s.fpe.rmaQ ++ [{ port := n, prot, src, id := id.toNat, kind := k, elem := el.toNat, addr := a.toNat, len,
                                      words := ws, since := s.time.now }]
          ∧ t.fld Fld.FPE_RMA_STAT_QUEUED = s.fpe.rmaQ.length + 1 ∧ SameRegs [Reg.FPE_RMA_STAT] s t
      else t.fpe.rmaQ = s.fpe.rmaQ ∧ t.fld Fld.FPE_GLB_CNT2_RMA_DROP = min (s.fld Fld.FPE_GLB_CNT2_RMA_DROP + 1) 65535
        ∧ SameRegs [Reg.FPE_GLB_CNT2] s t)
  ∧ (∀ (s : State) (e : EvElem) (rest : List EvElem) (p src : Nat), s.fpe.evPend = e :: rest → s.fld Fld.FPE_EVT_CFG_EN = 1 →
      s.eventPort e = some p → s.fpe.evAddr = some src → s.portUp p = true → s.on (Fld.FPE_MSEC_CFG_EN p) = false →
    Completes .eventIndicationTx s fun t => e ∉ rest → e ∉ t.fpe.evPend ∧ t.fpe.evSeq = (s.fpe.evSeq + 1) % 256
      ∧ ∃ k l, t.out = .event p k s.fpe.evSeq l :: s.out ∧ EvElem.shown e ∈ l)
  ∧ (∀ (s : State) (seq : Byte), Completes (.faultsIndicationAck seq) s fun t =>
      t = { s with fpe := t.fpe } ∧ t.fpe.await = s.fpe.await.filter (fun w => w.seq != seq.toNat))
  ∧ (∀ (s : State) (seq : Byte) (w : EvAwait), s.fpe.await.find? (fun w => w.seq == seq.toNat) = some w → w.due ≤ s.time.now →
      s.fld Fld.FPE_EVT_CFG_RETRY ≤ w.sends → Completes (.eventAckTimeout seq) s fun t =>
      t.fpe.await = s.fpe.await.erase w ∧ t.fld Fld.FPE_GLB_CNT2_EVT_LOST = min (s.fld Fld.FPE_GLB_CNT2_EVT_LOST + 1) 65535
        ∧ SameRegs [Reg.FPE_GLB_CNT2] s t)
  ∧ (∀ (s : State) (n : Fin 8) (src : Nat), s.fld (Fld.FPE_PORT_STAT_UP n) = 1 → s.fld (Fld.FPE_MSEC_CFG_EN n) = 0 →
      Completes (.synchronizationRequest n src) s fun t => t.fpe.evSeq = (s.fpe.evSeq + 3) % 256
        ∧ t.out = .event n 5 ((s.fpe.evSeq + 2) % 256) [] :: .event n 0 ((s.fpe.evSeq + 1) % 256) (s.fpe.raised.map EvElem.shown)
            :: .event n 4 s.fpe.evSeq [] :: s.out)

/-! ### Beamforming: work lists, array carriers and the cascade -/

/-- R89, R91, R110 and R143: a due work list is released and counted, and its end frees the sections of its symbol and counts what
saturated. The model's choices it rests on: assumption log 7, 12, 22. -/
def Obligations.WorkListsAreReleasedAndEnd : Prop :=
  (∀ (s : State) (c : Fin 32) (y : SymAbs), s.relFine c true y < s.phcFine + s.increment →
    ∃ u, exec (.workListReleaseDl c y) s = .next (useBanks (releaseDl u c y) c y)
      ∧ u.fld Fld.GRL_CNT0_WL_DL = min (s.fld Fld.GRL_CNT0_WL_DL + 1) 65535 ∧ OnlyRegs [Reg.GRL_CNT0] s u)
  ∧ (∀ (s : State) (c : Fin 32) (y : SymAbs) (res : List PathRe), s.relFine c false y < s.phcFine + s.increment →
      s.facetAsleep (c / 8) = false → s.fld (Fld.BFE_AC_STAT_ACTIVE (c % 8)) = 1 →
      (s.fld (Fld.BFE_AC_CFG_FACETS (c % 8))).testBit (c / 8) = true → s.rfDrops (c % 8) c false y = false → s.inMute c y = false →
    ∃ u, exec (.workListReleaseUl c y res) s = .next (processUl u (c % 8) c y res)
      ∧ u.fld Fld.GRL_CNT0_WL_UL = min (s.fld Fld.GRL_CNT0_WL_UL + 1) 65535 ∧ OnlyRegs [Reg.GRL_CNT0] s u)
  ∧ (∀ (s : State) (c : Fin 32) (y : SymAbs), s.phcFine + s.increment ≤ s.relFine c true y →
      exec (.workListReleaseDl c y) s = .next s)
  ∧ (∀ (s : State) (c : Fin 32) (dl : Bool) (y : SymAbs) (sat : Nat), Completes (.workListProcessed c dl y sat []) s fun t =>
      (∀ d, d ∈ t.fpe.sections → s.wlServes c d.flow = true → s.flowDl d.flow = dl → d.typ ≠ 3 → sameSlot d y = true →
        y.symbol ∉ d.out)
      ∧ (dl = true → t.fld (Fld.LPE_CAR_CNT0_SAT_IFFT c) = min (s.fld (Fld.LPE_CAR_CNT0_SAT_IFFT c) + sat) 65535)
      ∧ (dl = false → t.fld (Fld.LPE_CAR_CNT0_SAT_FFT c) = min (s.fld (Fld.LPE_CAR_CNT0_SAT_FFT c) + sat) 65535))

/-- R112, R113, R118 and R125: the conditioned weights, the renormalisation and the rounded sums of a path. -/
def Obligations.WeightsConditionAndRenormalise : Prop :=
  (∀ i q : Int, -32768 ≤ i → i ≤ 32767 → -32768 ≤ q → q ≤ 32767 → condition (i, q) (16384, 0) 16384 = (i, q))
  ∧ (∀ (w k : Int × Int) (r : Nat), (condition w k r).1.natAbs ≤ 131072 ∧ (condition w k r).2.natAbs ≤ 131072)
  ∧ (∀ all : Nat, rhoOf all all = some 16384)
  ∧ (∀ all : Nat, 0 < all → rhoOf all 0 = none)
  ∧ (∀ all rem r : Nat, 0 < rem → rem < all → rhoOf all rem = some r → r ≤ 0x7FFF ∧ 16384 ≤ r
      ∧ (r < 0x7FFF → (2 * r - 1) ^ 2 * rem ≤ 2 ^ 30 * all ∧ 2 ^ 30 * all < (2 * r + 1) ^ 2 * rem))
  ∧ (∀ (s : State) (a f : Nat) (u : WtUse) (r : Option Nat) (mask p : Nat) (dl : Bool),
      mask.testBit p = true ∨ r = none ∨ u = .zero → s.weff a f u r mask dl p = (0, 0))
  ∧ (∀ (s : State) (a : Nat) (ls : List LayerPrb) (zero : List Nat) (p : Nat) (e : BfeRe), e ∈ (s.pathRes a ls zero p).1 →
      e.prb ∉ zero ∧ e.idx = p ∧ e.sc < 12 ∧ (∃ l, l ∈ ls ∧ l.prb = e.prb)
      ∧ e.i.natAbs ≤ 32768 ∧ e.q.natAbs ≤ 32768
      ∧ ∀ l, ls.filter (fun l => l.prb == e.prb) = [l] →
          e.i = sat16 (rndMode (s.fld Fld.BFE_CTRL_ROUND) (cmul (l.w.getD p (0, 0)) (l.x.getD e.sc (0, 0))).1 (s.outShift a true))
          ∧ e.q = sat16 (rndMode (s.fld Fld.BFE_CTRL_ROUND) (cmul (l.w.getD p (0, 0)) (l.x.getD e.sc (0, 0))).2 (s.outShift a true)))

/-- R107 to R110, R124 and R159: array carriers are checked, become active, stop; a binding is checked; a forced mask is taken
within the limits. The model's choices it rests on: assumption log 4, 7, 52. -/
def Obligations.ArrayCarriersAndBindings : Prop :=
  (∀ (s : State) (a : Fin 8) (v : Word), s.fld (Fld.BFE_AC_CFG_EN a) = 0 → s.fld (Fld.BFE_AC_STAT_ACTIVE a) = 0 →
    let w := (s.writeRw (Reg.BFE_AC_CFG a) v).flag (Fld.BFE_AC_CFG_EN a) true
    (w.acOk a = true → Completes (.acEnable a v) s fun t =>
      t.fld (Fld.BFE_AC_CFG_EN a) = 1 ∧ t.fld (Fld.BFE_AC_STAT_ACTIVE a) = 1
      ∧ OnlyRegs [Reg.BFE_AC_CFG a, Reg.BFE_AC_STAT a, Reg.BFE_SLICE_LOAD 0, Reg.BFE_SLICE_LOAD 1, Reg.BFE_SLICE_LOAD 2,
          Reg.BFE_SLICE_LOAD 3] s t)
    ∧ (w.acOk a = false → Completes (.acEnable a v) s fun t =>
      t.fld (Fld.BFE_AC_CFG_EN a) = 0 ∧ t.fld (Fld.BFE_AC_STAT_ACTIVE a) = 0 ∧ t.fld (Fld.BFE_AC_STAT_BAD_CFG a) = 1
      ∧ OnlyRegs [Reg.BFE_AC_CFG a, Reg.BFE_AC_STAT a] s t))
  ∧ (∀ (s : State) (a : Fin 8), s.fld (Fld.BFE_AC_CFG_EN a) = 1 → Completes (.acDisable a) s fun t =>
      t.fld (Fld.BFE_AC_CFG_EN a) = 0
      ∧ (s.acRealises a = true → a.val ∈ t.bfe.stopping ∧ t.fld (Fld.BFE_AC_STAT_ACTIVE a) = s.fld (Fld.BFE_AC_STAT_ACTIVE a)
          ∧ t.fpe = s.fpe ∧ t.ws = s.ws)
      ∧ (s.acRealises a = false → t.fld (Fld.BFE_AC_STAT_ACTIVE a) = 0))
  ∧ (∀ (s : State) (a : Fin 8), a.val ∈ s.bfe.stopping → Completes (.acStop a) s fun t =>
      t.fld (Fld.BFE_AC_STAT_ACTIVE a) = 0 ∧ a.val ∉ t.bfe.stopping
      ∧ (∀ d, d ∈ t.fpe.sections → s.flowCar d.flow % 8 = a.val → d.todo = [])
      ∧ (∀ e, e ∈ t.ws.sets → e.2.kind = 3 → e.2.array = a.val → e.2.valid = false) ∧ t.mem = s.mem)
  ∧ (∀ (s : State) (f : Fin 256) (v : Word), s.fld (Fld.FPE_FLOW_CFG_EN f) = 0 →
    let w := s.writeRw (Reg.BFE_FLOW_BIND f) v
    (w.fld (Fld.BFE_FLOW_BIND_EN f) = 0 ∨ w.bindOk f = true → Completes (.flowBind f v) s fun t =>
      t.rd (Reg.BFE_FLOW_BIND f) = w.rd (Reg.BFE_FLOW_BIND f) ∧ OnlyRegs [Reg.BFE_FLOW_BIND f] s t)
    ∧ (w.fld (Fld.BFE_FLOW_BIND_EN f) = 1 → w.bindOk f = false → Completes (.flowBind f v) s fun t =>
      t.fld (Fld.BFE_FLOW_BIND_EN f) = 0 ∧ t.fld (Fld.BFE_FLOW_STAT_BAD_BIND f) = 1
      ∧ OnlyRegs [Reg.BFE_FLOW_BIND f, Reg.BFE_FLOW_STAT f] s t))
  ∧ (∀ (s : State) (f : Fin 256) (v : Word), s.fld (Fld.FPE_FLOW_CFG_EN f) = 1 → exec (.flowBind f v) s = .next s)
  ∧ (∀ (s : State) (rx : Bool) (mask : BitVec 64),
      let hub := s.rd64 (if rx then Reg.FLT_HUB_RX_LO else Reg.FLT_HUB_TX_LO)
      (maskWithin (Nat.lor hub mask.toNat) = true → Completes (.bfeForceWrite rx mask) s fun t =>
        t.rd64 (if rx then Reg.BFE_FORCE_RX_LO else Reg.BFE_FORCE_TX_LO) = mask.toNat
        ∧ t.rd64 (if rx then Reg.BFE_ELIDE_RX_LO else Reg.BFE_ELIDE_TX_LO) = Nat.lor hub mask.toNat
        ∧ t = { s with regs := t.regs })
      ∧ (maskWithin (Nat.lor hub mask.toNat) = false → Completes (.bfeForceWrite rx mask) s fun t =>
        t.fld Fld.BFE_STATUS_BAD_FORCE = 1 ∧ OnlyRegs [Reg.BFE_STATUS] s t))

/-- R131, R134, R137, R317 to R319: Strand frames, alignment, lane modes, fallback and restoring. The model's choices it rests on:
assumption log 53, 54. -/
def Obligations.CascadeLinksWork : Prop :=
  (∀ (s : State) (x : Fin 2) (ctl : List Nat) (items : List StrandItem), (s.srd.links.at x).mode ≠ 0 →
    Completes (.strandFrameRx x false ctl items) s fun t =>
      t.fld (Fld.SRD_S_CNT0_CRC_ERR x) = min (s.fld (Fld.SRD_S_CNT0_CRC_ERR x) + 1) 65535
      ∧ (∀ m, m ∈ (t.srd.links.at x).resend ↔ ((m ∈ (s.srd.links.at x).resend ∧ m ∉ ctl) ∨ (m ∈ ctl ∧ m ∉ (s.srd.links.at x).resend)))
      ∧ t.bfe = s.bfe ∧ t.fpe = s.fpe ∧ SameRegs [Reg.SRD_S_CNT0 x, Reg.SRD_S_CNT1 x] s t)
  ∧ (∀ (s : State) (x : Fin 2) (f : Fin 256) (y : SymAbs) (first : Nat) (prbs : List PrbData), (s.srd.links.at x).mode ≠ 0 →
    Completes (.strandFrameRx x true [] [.sum f y first prbs]) s fun t =>
      t.bfe.psums = s.bfe.psums ++ [{ link := x, flow := f.val, sym := y, res := decodeSum first prbs }] ∧ t.regs = s.regs)
  ∧ (∀ (s : State) (x : Fin 2) (map : Byte) (inv : Fin 16) (skew : Byte), (∀ q, q < 4 → s.linkLaneUp x q = true) →
    Completes (.strandAlign x map inv skew) s fun t =>
      t.fld (Fld.SRD_S_STAT_MAP x) = map.toNat ∧ t.fld (Fld.SRD_S_STAT_INV x) = inv
      ∧ t.fld (Fld.SRD_S_STAT_SKEW x) = min skew.toNat 255
      ∧ (32 < skew.toNat → t.fld (Fld.SRD_S_STAT_STATE x) = 1 ∧ t.fld (Fld.SRD_S_STAT_SKEW_ERR x) = 1 ∧ (t.srd.links.at x).mode = 0)
      ∧ (skew.toNat ≤ 32 → (∀ i, i < 4 → ∃ q, q < 4 ∧ map.toNat / 4 ^ q % 4 = i) →
          t.fld (Fld.SRD_S_STAT_STATE x) = 2 ∧ t.fld (Fld.SRD_S_STAT_IN_LINK x) = 15 ∧ (t.srd.links.at x).mode = 3)
      ∧ t.bfe = s.bfe ∧ t.fpe = s.fpe)
  ∧ (∀ (s : State) (x : Fin 2) (peer : Fin 4), (s.srd.links.at x).mode ≠ 0 → (s.srd.links.at x).mode ≠ s.advert x →
      peer.val = s.advert x → Completes (.strandModeChange x peer) s fun t =>
      (t.srd.links.at x).mode = s.advert x
      ∧ t.fld (Fld.SRD_S_STAT_STATE x) = (if s.advert x = 0 then 0 else if s.advert x = 3 then 2 else 3)
      ∧ (modeLanes (s.advert x) < modeLanes (s.srd.links.at x).mode →
          t.fld (Fld.SRD_S_CNT0_DOWNGRADES x) = min (s.fld (Fld.SRD_S_CNT0_DOWNGRADES x) + 1) 65535)
      ∧ (modeLanes (s.srd.links.at x).mode < modeLanes (s.advert x) →
          t.fld (Fld.SRD_S_CNT1_UPGRADES x) = min (s.fld (Fld.SRD_S_CNT1_UPGRADES x) + 1) 65535)
      ∧ t.bfe = s.bfe)
  ∧ (∀ (s : State) (x : Fin 2) (dl : Bool) (f : Nat) (rest : List Nat), s.linkCapacity x * layerMhz < s.linkLoad x dl →
      s.fallOrder x dl = f :: rest → ∃ u, exec (.strandFallback x dl) s = .next (reportFault u 0x32 x)
      ∧ f ∈ u.bfe.fallen ∧ u.fld (Fld.BFE_FLOW_STAT_FALLBACK f) = 1 ∧ u.fld Fld.BFE_STRD_STAT_FALLBACK = 1
      ∧ (u.linkLoad x dl ≤ u.linkCapacity x * layerMhz ∨ ∀ g, g ∈ rest → g ∈ u.bfe.fallen) ∧ u.fpe = s.fpe ∧ u.srd = s.srd)
  ∧ (∀ (s : State) (x : Fin 2) (dl : Bool) (f : Nat), s.bfe.fallen = [f] → f < 256 → s.flowDl f = dl →
      s.linkServes x (s.flowCar f % 8) = true → s.restoreFits f = true →
      ∃ u, exec (.strandRestore x dl) s = .next (endCondition u 0x32 x)
      ∧ u.bfe.fallen = [] ∧ u.fld (Fld.BFE_FLOW_STAT_FALLBACK f) = 0 ∧ u.fld Fld.BFE_STRD_STAT_FALLBACK = 0
      ∧ u.fld Fld.BFE_CNT0_FALLBACK_EVT = min (s.fld Fld.BFE_CNT0_FALLBACK_EVT + 1) 65535 ∧ u.fpe = s.fpe ∧ u.srd = s.srd)

/-! ### The weight store and the solver -/

/-- R142 to R145: LOAD, LOCK, UNLOCK and INVALIDATE act on the set of a key, a miss starts its fetch, and a bad OP sets ERR. -/
def Obligations.WeightStoreCommandsAct : Prop :=
  (∀ (s : State) (lib : Fin 4) (b : Fin 32768) (i : Nat), s.ws.cmd = none → b.val ≠ 0 → s.beamUsable lib b = true →
      s.findSet (libKey lib b) = none → s.allocSet 4096 = some i → s.ws.fetches.length < 32 →
    Completes (.wsLoad lib b) s fun t =>
      t.fld Fld.BFE_WS_CMD_STAT_BUSY = 1 ∧ t.wset i = { valid := true, lib := lib, id := b, stamp := s.time.now }
      ∧ (∀ j, j ≠ i → t.wset j = s.wset j)
      ∧ t.ws.fetches = s.ws.fetches ++ [{ lib, beam := b, set := some i, deadline := s.phcFine, since := s.time.now }]
      ∧ t.ws.cmd = some { lock := false, lib := lib, beam := b } ∧ SameRegs [Reg.BFE_WS_CMD_STAT] s t)
  ∧ (∀ (s : State) (lib : Fin 4) (b : Fin 32768) (i : Nat), s.ws.cmd = none → b.val ≠ 0 → s.beamUsable lib b = true →
      s.findSet (libKey lib b) = some i → (s.wset i).locked = false → (s.wset i).resident = true → s.lockedCount < 2048 → i < 2048 →
    Completes (.wsLock lib b) s fun t => t.wset i = { s.wset i with locked := true } ∧ (∀ j, j ≠ i → t.wset j = s.wset j)
      ∧ t.regs = s.regs)
  ∧ (∀ (s : State) (lib : Fin 4) (b : Fin 32768), s.ws.cmd = none → b.val ≠ 0 → s.beamUsable lib b = true →
      s.findSet (libKey lib b) = none → 2048 ≤ s.lockedCount →
    Completes (.wsLock lib b) s fun t => t.fld Fld.BFE_WS_CMD_STAT_ERR = 1 ∧ OnlyRegs [Reg.BFE_WS_CMD_STAT] s t)
  ∧ (∀ (s : State) (lib : Fin 4) (b : Fin 32768) (i : Nat), s.ws.cmd = none → b.val ≠ 0 → s.findSet (libKey lib b) = some i →
    (Completes (.wsUnlock lib b) s fun t => t.wset i = { s.wset i with locked := false } ∧ (∀ j, j ≠ i → t.wset j = s.wset j)
      ∧ t.regs = s.regs)
    ∧ ((s.wset i).locked = false → Completes (.wsInvalidate lib b) s fun t => t.wset i = { s.wset i with valid := false }
      ∧ (lib.val, b.val) ∉ t.ws.failed ∧ (∀ j, j ≠ i → t.wset j = s.wset j) ∧ t.regs = s.regs)
    ∧ ((s.wset i).locked = true → (s.wset i).refs = 0 → (s.wset i).lib = lib → (s.wset i).id = b →
      Completes (.wsInvalidate lib b) s fun t => t.wset i = { valid := true, locked := true, lib := lib, id := b, stamp := s.time.now }
        ∧ (∃ x, x ∈ t.ws.fetches ∧ x.lib = lib ∧ x.beam = b ∧ x.set = some i) ∧ (∀ j, j ≠ i → t.wset j = s.wset j)))
  ∧ (∀ (s : State) (lib : Fin 4), s.ws.cmd = none → (∀ e, e ∈ s.ws.sets → e.2.locked = false) →
      Completes (.wsInvalidateLib lib) s fun t =>
        (∀ i, (s.wset i).kind = 0 → (s.wset i).lib = lib → (t.wset i).valid = false)
        ∧ (∀ i, t.wset i = s.wset i ∨ t.wset i = { s.wset i with valid := false }) ∧ (∀ k, k ∈ t.ws.failed → k.1 ≠ lib.val)
        ∧ t.regs = s.regs)
  ∧ (∀ (s : State) (op : Fin 16), (op.val = 0 ∨ 6 ≤ op.val ∨ s.ws.cmd ≠ none) → Completes (.wsCmdBadOp op) s fun t =>
      t.fld Fld.BFE_WS_CMD_STAT_ERR = 1 ∧ OnlyRegs [Reg.BFE_WS_CMD_STAT] s t)

/-- R149, R150, R152, R153 and R418: a fetch ends with its set resident or, after two errors, failed; at the weight deadline the
weights of a section are decided. The model's choices it rests on: assumption log 51. -/
def Obligations.FetchesEndAndWeightsAreDecided : Prop :=
  (∀ (s : State) (lib : Fin 4) (b : Fin 32768) (errs : Fin 3) (f : WsFetch) (i : Nat), s.fld Fld.BFE_WS_CTRL_EN = 1 →
      s.ws.cmd = none → (s.ws.fetches.take 32).find? (fun f => f.lib == lib.val && f.beam == b.val) = some f → f.set = some i →
    (errs.val ≠ 2 → Completes (.weightFetchComplete lib b errs) s fun t =>
      (t.wset i).valid = true ∧ (t.wset i).resident = true ∧ (t.wset i).kind = 0 ∧ (t.wset i).lib = lib ∧ (t.wset i).id = b
      ∧ (t.wset i).w = s.beamWords lib b ∧ (t.wset i).cls = s.beamCls lib b ∧ (t.wset i).locked = (s.wset i).locked
      ∧ (∀ j, j ≠ i → t.wset j = s.wset j) ∧ t.ws.fetches = s.ws.fetches.erase f
      ∧ t.fld Fld.BFE_WS_CNT0_FETCHES = min (s.fld Fld.BFE_WS_CNT0_FETCHES + 1) (2 ^ 32 - 1)
      ∧ SameRegs [Reg.BFE_WS_CNT0, Reg.BFE_WS_CNT1] s t)
    ∧ (errs.val = 2 → Completes (.weightFetchComplete lib b errs) s fun t =>
      (t.wset i).valid = false ∧ (lib.val, b.val) ∈ t.ws.failed ∧ (∀ j, j ≠ i → t.wset j = s.wset j)
      ∧ t.ws.fetches = s.ws.fetches.erase f
      ∧ t.fld Fld.BFE_WS_CNT1_FETCH_ERR = min (s.fld Fld.BFE_WS_CNT1_FETCH_ERR + 1) 65535 ∧ OnlyRegs [Reg.BFE_WS_CNT1] s { t with ws := s.ws }))
  ∧ (∀ (s : State) (c : Fin 32) (y : SymAbs), Completes (.weightDeadline c y) s fun t =>
      (∀ d, d ∈ t.fpe.sections → s.flowCar d.flow = c.val → sameSlot d y = true → y.symbol ∈ d.todo → d.typ ≠ 0 →
        s.wtFine c (s.flowDl d.flow) y ≤ s.phcFine → d.decided.any (fun e => e.1 == y.symbol) = true)
      ∧ t.fpe.ubuf = s.fpe.ubuf ∧ t.mem = s.mem)
  ∧ (∀ (s : State) (c : Section) (sym n : Nat), s.fpe.sections = [c] → c.typ ≠ 0 → c.decided = [] → c.refs = [.set n] →
      ((s.wset n).resident = true → (decideSection s c sym).fpe.sections = [{ c with decided := [(sym, [.set n])] }]
        ∧ (decideSection s c sym).rd Reg.BFE_WS_CNT1 = s.rd Reg.BFE_WS_CNT1)
      ∧ ((s.wset n).resident = false → 2 ≤ s.fld (Fld.FPE_FLOW_CFG2_LATE_POL c.flow) →
        (decideSection s c sym).fpe.sections = [{ c with decided := [(sym, [.zero])] }]
        ∧ (decideSection s c sym).fld Fld.BFE_WS_CNT1_LATE = min (s.fld Fld.BFE_WS_CNT1_LATE + 1) 65535
        ∧ (decideSection s c sym).fld (Fld.FPE_FLOW_CNT6_LATE_W c.flow) = min (s.fld (Fld.FPE_FLOW_CNT6_LATE_W c.flow) + 1) 65535))

/-- R159 to R164: a channel set ages, a slot's jobs are issued once, run in order, and end with solver sets or counted as failed.
The model's choices it rests on: assumption log 2. -/
def Obligations.SolverJobsRun : Prop :=
  (∀ (s : State) (i : Fin 4096), (s.wset i).valid = true → (s.wset i).kind = 3 → s.fld Fld.BFE_WS_TIMING_CHI_AGE ≠ 0 →
      (s.wset i).stamp + s.fld Fld.BFE_WS_TIMING_CHI_AGE * 800000 ≤ s.time.now → Completes (.channelSetAge i) s fun t =>
      (t.wset i).valid = false ∧ (∀ j, j ≠ i.val → t.wset j = s.wset j) ∧ t.regs = s.regs ∧ t = { s with ws := t.ws })
  ∧ (∀ (s : State) (a : Fin 8) (dl : Bool) (slot : Int) (x : SolveSlot), x ∈ s.ws.slots → x.array = a → x.dl = dl → x.slot = slot →
      x.issued = false → x.first + max 1 (s.fld Fld.BFE_WS_TIMING_SOL_HOLD) * 800 ≤ s.time.now →
    Completes (.solveIssue a dl slot) s fun t =>
      (∀ z, z ∈ t.ws.slots → z.array = a → z.dl = dl → z.slot = slot → z.issued = true)
      ∧ (∃ new, t.ws.jobs = s.ws.jobs ++ new ∧ ∀ j, j ∈ new → j.array = a ∧ j.dl = dl ∧ j.slot = slot ∧ j.started = none
          ∧ j.group < 512 ∧ 0 < j.ues.length ∧ j.ues.length ≤ 32
          ∧ j.mask = s.rd64 (if dl then Reg.BFE_ELIDE_TX_LO else Reg.BFE_ELIDE_RX_LO))
      ∧ SameRegs [Reg.BFE_WS_CNT3, Reg.BFE_WS_CNT4] s t)
  ∧ (∀ (s : State) (k : SolveJob), k ∈ s.ws.jobs → k.started = none → s.fld Fld.BFE_WS_CTRL_EN = 1 →
      (∀ t, s.ws.lastStart = some t → t + 2000 * 2 ^ s.fld (Fld.PWS_CLIENT_LEVEL 8) ≤ s.time.now) →
    Completes .solveJobStart s fun t => t.ws.lastStart = some s.time.now ∧ t = { s with ws := t.ws }
      ∧ ∃ j, j ∈ s.ws.jobs ∧ j.started = none ∧ { j with started := some s.time.now } ∈ t.ws.jobs
        ∧ ∀ i, i ∈ s.ws.jobs → i.started = none → jobBefore j i = true)
  ∧ (∀ (s : State) (j : SolveJob) (r : Option (List (List Word))),
      s.ws.jobs.find? s.jobDue = some j → solveColumns (s.jobRows j) (s.jobRegul j) = r →
    Completes .solveJobDone s fun t => t.ws.jobs = s.ws.jobs.erase j
      ∧ (r = none → t.fld Fld.BFE_WS_CNT3_SOLVE_FAIL = min (s.fld Fld.BFE_WS_CNT3_SOLVE_FAIL + 1) 65535)
      ∧ (r ≠ none → t.fld Fld.BFE_WS_CNT2_SOLUTIONS = min (s.fld Fld.BFE_WS_CNT2_SOLUTIONS + 1) (2 ^ 32 - 1))
      ∧ (∀ u n w, j.ues = [(u, n)] → r = some [w] →
          (∃ i, solKey j.array j.dl j.slot j.group u (t.wset i) = true ∧ (t.wset i).valid = true ∧ (t.wset i).w = w)
          ∨ t.fld Fld.BFE_WS_CNT4_ALLOC_FAIL = min (s.fld Fld.BFE_WS_CNT4_ALLOC_FAIL + 1) 65535)
      ∧ SameRegs [Reg.BFE_WS_CNT2, Reg.BFE_WS_CNT3, Reg.BFE_WS_CNT4] s t ∧ t.mem = s.mem)

/-- R76, R111 and R115: block floating point and its return, saturation and the rounding modes. -/
def Obligations.NumbersRoundAndSaturate : Prop :=
  (∀ (v : Int) (n mode : Nat), mode ≠ 2 → 2 * (2 ^ n * rndMode mode v n - v).natAbs ≤ 2 ^ n)
  ∧ (∀ (v : Int) (n : Nat), 2 ^ n * rndMode 2 v n ≤ v ∧ v < 2 ^ n * (rndMode 2 v n + 1))
  ∧ (∀ (q : Int) (n : Nat), rndMode 0 (2 ^ (n + 1) * q + 2 ^ n) (n + 1) = q + 1
      ∧ rndMode 1 (2 ^ (n + 1) * q + 2 ^ n) (n + 1) = (if q % 2 = 0 then q else q + 1))
  ∧ (∀ v : Int, (sat16 v).natAbs ≤ 32768 ∧ (-32768 ≤ v → v ≤ 32767 → sat16 v = v))
  ∧ (∀ (iqw param : Nat) (x : Int), 1 ≤ iqw → iqw ≤ 16 → -(2 ^ (iqw - 1)) ≤ x → x < 2 ^ (iqw - 1) →
      decompress 0 iqw param x = (x * 2 ^ (16 - iqw), false))
  ∧ (∀ (param : Nat) (x : Int), -32768 ≤ x * 2 ^ (param % 16) → x * 2 ^ (param % 16) ≤ 32767 →
      decompress 1 9 param x = (x * 2 ^ (param % 16), false))
  ∧ (∀ i q : Int, -32768 ≤ i → i ≤ 32767 → -32768 ≤ q → q ≤ 32767 → wordI (packIq i q) = i ∧ wordQ (packIq i q) = q)

/-! ### Spectral processing -/

/-- R178, R179, R195, R566 and R567: an armed plan or symbol configuration commits whole at a boundary of its facet, a plan that
fails a check is refused with its cause, and one that is not armed stays. The model's choices it rests on: assumption log 7. -/
def Obligations.PlansAndSymbolValuesCommit : Prop :=
  (∀ (s : State) (k : Fin 4), (s.facetT k).anchored = true → (s.facetT k).realigning = false →
      s.armedBefore (.ncoplan k) s.cyc = true → s.persona = false →
    (s.planCause (s.candidate (.ncoplan k) s.cyc) k = 0 → Completes (.ncoplanCommit k) s fun t =>
      t.acc.active = s.candidate (.ncoplan k) s.cyc ∧ t.acc.shLog = s.leftover (.ncoplan k) s.cyc
      ∧ t.fld (Fld.LPE_FACET_NCOCTL_GEN k) = (s.fld (Fld.LPE_FACET_NCOCTL_GEN k) + 1) % 65536
      ∧ (((s.acc.arms.at (Reg.LPE_FACET_NCOCTL k)).filter (fun w => s.cyc < w.1 + 64)) = [] → t.fld (Fld.LPE_FACET_NCOCTL_ARM k) = 0)
      ∧ SameRegs [Reg.LPE_FACET_NCOCTL k, Reg.LPE_FACET_LOAD k] s t)
    ∧ (s.planCause (s.candidate (.ncoplan k) s.cyc) k ≠ 0 → Completes (.ncoplanCommit k) s fun t =>
      t.acc.active = s.acc.active ∧ t.fld (Fld.LPE_FACET_NCOCTL_REFUSED k) = 1
      ∧ t.fld (Fld.LPE_FACET_NCOCTL_CAUSE k) = s.planCause (s.candidate (.ncoplan k) s.cyc) k
      ∧ t.fld (Fld.LPE_FACET_NCOCTL_GEN k) = s.fld (Fld.LPE_FACET_NCOCTL_GEN k)
      ∧ SameRegs [Reg.LPE_FACET_NCOCTL k, Reg.LKT_CNT] s t))
  ∧ (∀ (s : State) (c : Fin 32), (s.facetT (c.val / 8)).anchored = true → (s.facetT (c.val / 8)).realigning = false →
      s.armedBefore (.symcfg c) s.cyc = true → Completes (.symcfgCommit c) s fun t =>
      t.acc.active = s.candidate (.symcfg c) s.cyc
      ∧ t.fld (Fld.LPE_CAR_SYMCTL_GEN c) = (s.fld (Fld.LPE_CAR_SYMCTL_GEN c) + 1) % 65536
      ∧ SameRegs [Reg.LPE_CAR_SYMCTL c] s t ∧ t = { s with regs := t.regs, acc := t.acc })
  ∧ (∀ (s : State) (k : Fin 4) (c : Fin 32), s.armedBefore (.ncoplan k) s.cyc = false → s.armedBefore (.symcfg c) s.cyc = false →
      exec (.ncoplanCommit k) s = .next s ∧ exec (.symcfgCommit c) s = .next s)
  ∧ (∀ nrb : Nat, nrb ≤ 273 → 132 * nrb ≤ 10 * 2 ^ autoLog nrb ∧ 7 ≤ autoLog nrb
      ∧ ∀ i, i < autoLog nrb → i < 7 ∨ 10 * 2 ^ i < 132 * nrb)

/-- R190 to R193 and R123: a repetition of an occasion that has ended is extracted once, sent on its flow, and the last one frees
the section. The model's choices it rests on: assumption log 12. -/
def Obligations.PrachRepetitionsAreExtracted : Prop :=
  ∀ (s : State) (f : Fin 256) (secId rep : Nat) (res : List PathRe) (sat : Nat) (d : Section),
    s.fpe.sections.find? (fun d => d.flow == f.val && d.secId == secId && d.typ == 3 && d.todo.contains rep) = some d →
    tcToFine ((d.span.getD (0, 0)).1 + ((d.span.getD (0, 0)).2 - (d.span.getD (0, 0)).1) / max 1 (d.todo.length + d.out.length) * (rep + 1))
      + (315964819 * 1000000000 + s.alpha + s.fld Fld.TIM_AIR_BETA_BETA * 10000000 : Nat) * 2 ^ 32 ≤ s.phcFine →
    Completes (.prachExtract f secId rep res sat) s fun t =>
      t.fld (Fld.LPE_CAR_CNT1_SAT_PRACH (s.flowCar f)) = min (s.fld (Fld.LPE_CAR_CNT1_SAT_PRACH (s.flowCar f)) + sat) 65535
      ∧ (∀ e, e ∈ t.fpe.sections → e.flow = d.flow → e.secId = d.secId → e.start = d.start →
          e.todo = d.todo.filter (fun i => i != rep) ∧ e.out = d.out ++ [rep] ∧ e.todo ≠ [])
      ∧ ((∃ i, i ∈ d.todo ∧ i ≠ rep) → ∃ e, e ∈ t.fpe.sections ∧ e.flow = d.flow ∧ e.secId = d.secId ∧ e.start = d.start)
      ∧ (s.rfDrops (s.flowCar f % 8) (s.flowCar f) false d.start = false → s.fld (Fld.BFE_FLOW_BIND_EN f) = 1 →
          (t.flowDyn f).ulQueue.length = (s.flowDyn f).ulQueue.length + 1)
      ∧ (s.rfDrops (s.flowCar f % 8) (s.flowCar f) false d.start = true →
          t.fld (Fld.FPE_FLOW_CNT4_RF_NOT_READY f) = min (s.fld (Fld.FPE_FLOW_CNT4_RF_NOT_READY f) + 1) 65535)
      ∧ t.mem = s.mem

/-! ### Linearisation and observation -/

/-- R211, R212, R223 and R567: a commit of a bank's group copies coefficients as its OP says, and the firmware's solution is staged
and armed. The model's choices it rests on: assumption log 7, 13, 55. -/
def Obligations.BanksCommitAndTakeSolutions : Prop :=
  (∀ (s : State) (p : Fin 64) (op b : Nat), s.realises (p.val / 16) = true → s.armedBefore (.dpdbank p) s.cyc = true →
      genFld (s.candidate (.dpdbank p) s.cyc) (Fld.LDE_PATH_BANKSEL_OP p) = op →
      genFld (s.candidate (.dpdbank p) s.cyc) (Fld.LDE_PATH_BANKSEL_BANK p) = b → (s.lde.paths.at p).solved = none →
    Completes (.dpdbankCommit p) s fun t =>
      t.fld (Fld.LDE_PATH_BANKCTL_GEN p) = (s.fld (Fld.LDE_PATH_BANKCTL_GEN p) + 1) % 65536
      ∧ t.active (Fld.LDE_PATH_BANKSEL_OP p) = 0
      ∧ (op = 1 → (t.fld (Fld.LDE_PATH_STAT_BANK_VALID p)).testBit b = true
          ∧ t.fld Fld.LDE_CNT0_SOLVES = min (s.fld Fld.LDE_CNT0_SOLVES + 1) 65535
          ∧ ∀ i, i < 80 → t.rd (Reg.LDE_PATH_BANK_ACT_C p b i) = s.rd (Reg.LDE_PATH_STG p i)
            ∧ t.rd (Reg.LDE_PATH_BANK_PREV_C p b i) = s.rd (Reg.LDE_PATH_BANK_ACT_C p b i))
      ∧ (op = 2 → ∀ i, i < 80 → t.rd (Reg.LDE_PATH_BANK_ACT_C p b i) = s.rd (Reg.LDE_PATH_BANK_PREV_C p b i))
      ∧ (op = 0 ∨ op = 3 → SameRegs [Reg.LDE_PATH_BANKCTL p, Reg.LDE_PATH_BANKSEL p] s t)
      ∧ t = { s with regs := t.regs, acc := t.acc })
  ∧ (∀ (s : State) (p : Fin 64) (dly : Fin 256) (coefs : List Word) (cls aclr : Nat) (rest : List (Nat × Nat)),
      (s.lde.paths.at p).toSolve = (cls, aclr) :: rest → cls < 8 → s.fld (Fld.LDE_PATH_CFG_ADAPT_EN p) = 1 →
      s.fld (Fld.LDE_PATH_BANKCTL_STG_BUSY p) = 0 → s.fld (Fld.LDE_FACET_TCFG_NTERMS (p.val / 16)) ≤ 80 →
    Completes (.adaptSolveDone p dly coefs) s fun t =>
      (t.lde.paths.at p).toSolve = rest ∧ (t.lde.paths.at p).solved = some (cls, aclr)
      ∧ t.fld (Fld.LDE_PATH_BANKSEL_OP p) = 1 ∧ t.fld (Fld.LDE_PATH_BANKSEL_BANK p) = cls
      ∧ t.fld (Fld.LDE_PATH_BANKCTL_STG_BUSY p) = 1 ∧ t.fld (Fld.LDE_PATH_BANKCTL_ARM p) = 1
      ∧ (∀ i, i < s.fld (Fld.LDE_FACET_TCFG_NTERMS (p.val / 16)) → i < coefs.length →
          some (t.rd (Reg.LDE_PATH_STG p i)) = coefs[i]?)
      ∧ (s.fld (Fld.LDE_PATH_LOOP_LOOP_DLY p) + 2 < dly.val → t.fld (Fld.LDE_PATH_LOOP_LOOP_DLY p) = dly)
      ∧ (dly.val = s.fld (Fld.LDE_PATH_LOOP_LOOP_DLY p) → t.rd (Reg.LDE_PATH_LOOP p) = s.rd (Reg.LDE_PATH_LOOP p)))
  ∧ (∀ (s : State) (p : Fin 64) (g : Int), s.fld (Fld.LDE_PATH_CFG_PC_EN p) = 1 → s.fld (Fld.LDE_PATH_CFG_PC_SRC p) = 1 →
      (s.lde.paths.at p).frozen = false → (s.lde.paths.at p).limRun = 0 → (s.sfld (Fld.LDE_PATH_PC_G_TGT p) - g) % 2 = 0 →
    ∃ u, exec (.pcUpdate p (some g)) s = .next (endCondition u 0x16 p)
      ∧ u.sfld (Fld.LDE_PATH_PCSTAT_PG_OFS p) =
          max (-(25 * min 12 (s.fld (Fld.LDE_PATH_PC_PC_RANGE p)) : Int)) (min (25 * min 12 (s.fld (Fld.LDE_PATH_PC_PC_RANGE p)))
            (s.sfld (Fld.LDE_PATH_PCSTAT_PG_OFS p) + max (-10) (min 10 ((s.sfld (Fld.LDE_PATH_PC_G_TGT p) - g) / 2))))
      ∧ u.fld (Fld.LDE_PATH_PCSTAT_G_MEAS p) = unsigned 16 g ∧ SameRegs [Reg.LDE_PATH_PCSTAT p] s u)
  ∧ (∀ (s : State) (p : Fin 64) (det : Option Int), s.fld (Fld.LDE_PATH_CFG_PC_EN p) = 0 → exec (.pcUpdate p det) s = .next s)

/-- R216 to R221, R224 and R422: the observation receivers start captures with their pages, end them, skip classes, and serve the
host. The model's choices it rests on: assumption log 13, 55, 57. -/
def Obligations.ObservationCapturesRun : Prop :=
  (∀ (s : State) (j : Fin 8) (g : OrxTarget), ((aim s j).lde.orx.at j).target = some g → ((aim s j).lde.orx.at j).cap = none →
      ((aim s j).lde.orx.at j).held.length < 2 → (aim s j).fld (Fld.CVA_ORX_CFG_EN j) = 1 →
      (aim s j).fld (Fld.CVA_ORX_CFG_CALSRC j) = 0 → ((aim s j).lde.orx.at j).asked = false → (aim s j).windowOk j g = true →
      ((aim s j).lde.orx.at j).pages = [] →
    ((aim s j).pagesNow (2 + ((aim s j).capSlots g.path).length) = true → Completes (.orxCaptureStart j) s fun t =>
      t.fld (Fld.LDE_ORX_STAT_BUSY j) = 1 ∧ t.fld Fld.GRL_CNT3_OBS_REQ = min (s.fld Fld.GRL_CNT3_OBS_REQ + 1) 65535
      ∧ (t.lde.orx.at j).cap = some { kind := if g.sup then .sup else .adapt, path := g.path, cls := g.cls
                                      pages := (aim s j).freePages.take (2 + ((aim s j).capSlots g.path).length), start := s.time.now })
    ∧ ((aim s j).pagesNow (2 + ((aim s j).capSlots g.path).length) = false → Completes (.orxCaptureStart j) s fun t =>
      t.fld Fld.LDE_CNT2_PAGE_WAIT = min (s.fld Fld.LDE_CNT2_PAGE_WAIT + 1) 65535 ∧ (t.lde.orx.at j).asked = true
      ∧ (t.lde.orx.at j).cap = none ∧ t.mem.capReqs.length = s.mem.capReqs.length + 1))
  ∧ (∀ (s : State) (j : Fin 8) (m : CapMeas) (streams : List (List Word)) (c : OrxCap), (s.lde.orx.at j).cap = some c →
      c.kind = .adapt → c.path < 64 →
    (s.dacRow c.path = .quiet ∨ s.txElided c.path = true → Completes (.orxCaptureEnd j m streams) s fun t =>
      t.fld Fld.LDE_CNT1_FROZEN_CAP = min (s.fld Fld.LDE_CNT1_FROZEN_CAP + 1) 65535
      ∧ t.fld (Fld.LDE_PATH_CNT3_FROZEN_CAP c.path) = min (s.fld (Fld.LDE_PATH_CNT3_FROZEN_CAP c.path) + 1) 65535
      ∧ t.fld (Fld.LDE_ORX_STAT_BUSY j) = 0 ∧ (t.lde.orx.at j).cap = none
      ∧ (t.lde.paths.at c.path).toSolve = (s.lde.paths.at c.path).toSolve)
    ∧ (s.dacRow c.path ≠ .quiet → s.txElided c.path = false → s.cva.ovrOrx.at j = none → s.fld (Fld.CVA_ORX_STAT_OVR j) = 0 →
        s.xLow m = false → s.supervised c.path = false → (s.lde.paths.at c.path).verify.testBit c.cls = false →
      Completes (.orxCaptureEnd j m streams) s fun t =>
        t.fld Fld.LDE_CNT0_CAPTURES = min (s.fld Fld.LDE_CNT0_CAPTURES + 1) 65535
        ∧ t.fld (Fld.LDE_PATH_CNT2_CAPTURES c.path) = min (s.fld (Fld.LDE_PATH_CNT2_CAPTURES c.path) + 1) 65535
        ∧ t.fld (Fld.LDE_PATH_ACLR_LAST c.path) = min 65535 m.aclr
        ∧ (t.lde.paths.at c.path).toSolve = (s.lde.paths.at c.path).toSolve ++ [(c.cls, m.aclr)]
        ∧ t.fld (Fld.LDE_ORX_STAT_BUSY j) = 0 ∧ (t.lde.orx.at j).cap = none
        ∧ (t.lde.orx.at j).held = (s.lde.orx.at j).held ++ [c.pages]
        ∧ ∀ q, q ∈ c.pages → q < 128 → t.pageOwner q = 4 + c.path / 16))
  ∧ (∀ (s : State) (j : Fin 8) (g : OrxTarget), (s.lde.orx.at j).target = some g → (s.lde.orx.at j).cap = none → g.sup = false →
      (s.lde.orx.at j).waitFrom + max 1 (s.fld Fld.LDE_ADAPT_CFG_CLASS_WAIT) * 800000 ≤ s.time.now →
    Completes (.classWaitExpire j) s fun t =>
      t.fld Fld.LDE_CNT2_CLASS_SKIP = min (s.fld Fld.LDE_CNT2_CLASS_SKIP + 1) 65535
      ∧ (t.lde.paths.at g.path).nextCls = (g.cls + 1) % 8 ∧ (t.lde.orx.at j).waitFrom = s.time.now)
  ∧ (∀ (s : State) (j : Fin 8) (x z : List Word) (c : OrxCap) (a b : Nat), (s.lde.orx.at j).cap = some c → c.kind = .host →
      c.path < 64 → c.pages = [a, b] → a < 128 → b < 128 → a ≠ b → x.length ≤ 16384 → z.length ≤ 16384 →
    Completes (.hostCaptureDone j x z) s fun t =>
      t.fld (Fld.LDE_ORX_TCAP_DONE j) = 1 ∧ t.fld (Fld.LDE_ORX_TCAP_PATH j) = c.path
      ∧ t.fld (Fld.LDE_ORX_TCAP_PAGE_X j) = a ∧ t.fld (Fld.LDE_ORX_TCAP_PAGE_Z j) = b
      ∧ t.fld (Fld.LDE_ORX_STAT_BUSY j) = 0 ∧ t.pageOwner a = 12 ∧ t.pageOwner b = 12 ∧ a ∈ t.mem.joint ∧ b ∈ t.mem.joint
      ∧ (∀ i w, x[i]? = some w → t.memRead false (pageAddr a + 4 * i) 4 = leBytes w.toNat 4)
      ∧ (∀ i w, z[i]? = some w → t.memRead false (pageAddr b + 4 * i) 4 = leBytes w.toNat 4)
      ∧ (∀ y, ¬ (pageAddr a ≤ y ∧ y < pageAddr a + 65536) → ¬ (pageAddr b ≤ y ∧ y < pageAddr b + 65536) → t.sramByte y = s.sramByte y)
      ∧ t.mem.dram = s.mem.dram)

/-! ### The converters -/

/-- R236, R238, R239, R249, R269 and R270: facets and paths are enabled and disabled, foreground calibration ends, and the quiet pin
holds every DAC. The model's choices it rests on: assumption log 4, 33. -/
def Obligations.FacetsPathsAndQuiet : Prop :=
  (∀ (s : State) (k : Fin 4) (v : Word), s.fld (Fld.CVA_FACET_STAT_READY k) = 0 → s.fld (Fld.CVA_FACET_STAT_FGCAL_BUSY k) = 0 →
    ∃ u, exec (.facetEnable k v) s = .next (settle s u) ∧ u.fld (Fld.CVA_FACET_CFG_EN k) = 1
      ∧ (s.rcsLocked = true → s.shutDown k = false → s.cva.trims.at k = true → u.fld (Fld.CVA_FACET_STAT_READY k) = 1)
      ∧ (s.rcsLocked = true → s.shutDown k = false → s.cva.trims.at k = false → u.fld (Fld.CVA_FACET_STAT_FGCAL_BUSY k) = 1
          ∧ u.fld (Fld.CVA_FACET_STAT_READY k) = 0)
      ∧ (s.rcsLocked = false ∨ s.shutDown k = true → u.fld (Fld.CVA_FACET_STAT_READY k) = 0)
      ∧ OnlyRegs [Reg.CVA_FACET_CFG k, Reg.CVA_FACET_STAT k] s u)
  ∧ (∀ (s : State) (k : Fin 4) (v : Word), ∃ u, exec (.facetDisable k v) s = .next (settle s u)
      ∧ u.fld (Fld.CVA_FACET_CFG_EN k) = 0 ∧ u.fld (Fld.CVA_FACET_STAT_READY k) = 0
      ∧ u.fld (Fld.CVA_FACET_STAT_FGCAL_BUSY k) = 0 ∧ OnlyRegs [Reg.CVA_FACET_CFG k, Reg.CVA_FACET_STAT k] s u)
  ∧ (∀ (s : State) (k : Fin 4), s.fld (Fld.CVA_FACET_STAT_FGCAL_BUSY k) = 1 →
      (∃ u, exec (.fgcalDone k true) s = .next (settle s u) ∧ u.fld (Fld.CVA_FACET_STAT_READY k) = 1
        ∧ u.fld (Fld.CVA_FACET_STAT_FGCAL_BUSY k) = 0 ∧ u.cva.trims.at k = true ∧ SameRegs [Reg.CVA_FACET_STAT k] s u)
      ∧ (∃ u, exec (.fgcalDone k false) s = .next (reportFault u 0x18 k) ∧ u.fld (Fld.CVA_FACET_STAT_FGCAL_FAIL k) = 1
        ∧ u.fld (Fld.CVA_FACET_STAT_FGCAL_BUSY k) = 0 ∧ OnlyRegs [Reg.CVA_FACET_STAT k] s u))
  ∧ (∀ (s : State) (p : Fin 64) (v : Word),
      (∃ u, exec (.pathEnableWrite false p v) s = .next (settle s u) ∧ u.fld (Fld.CVA_TX_CFG_EN p) = v.toNat / 2 ^ 31
        ∧ u.fld (Fld.CVA_TX_CFG_SUP_EN p) = v.toNat / 2 ^ 30 % 2 ∧ OnlyRegs [Reg.CVA_TX_CFG p] s u)
      ∧ (Completes (.pathEnableWrite true p v) s fun t => t.fld (Fld.CVA_RX_CFG_EN p) = v.toNat / 2 ^ 31
        ∧ (v.toNat < 2 ^ 31 → t.fld (Fld.CVA_RX_STAT_OVR p) = 0 ∧ t.fld (Fld.CVA_RX_STAT_OVR_HI p) = 0 ∧ t.cva.ovr.at p = none)))
  ∧ (∀ s : State, Completes .txQuietNAssert s fun t => t.fld Fld.CVA_STATUS_QPIN = 1 ∧ t.fld Fld.CVA_STATUS_QPIN_EVT = 1
      ∧ (∀ p, p < 64 → t.dacRow p ≠ .data ∧ t.dacRow p ≠ .ramp)
      ∧ (∀ p, p < 64 → s.dacRow p = .data → t.dacRow p = .quiet
          ∧ t.fld (Fld.CVA_TX_CNT0_QUIET_EVT p) = min (s.fld (Fld.CVA_TX_CNT0_QUIET_EVT p) + 1) 65535))
  ∧ (∀ s : State, s.fld Fld.CVA_STATUS_QPIN = 1 → Completes .txQuietNDeassert s fun t => t.fld Fld.CVA_STATUS_QPIN = 0
      ∧ (∀ p, p < 64 → t.quietHeld p = false → t.cva.relWait.at p = some s.time.now ∧ t.dacRow p ≠ .data))
  ∧ (∀ (s : State) (p : Fin 64) (t0 : Nat), s.cva.relWait.at p = some t0 → s.quietHeld p = false → t0 + 80 ≤ s.time.now →
      Completes (.quietRelease p) s fun t => t.cva.relWait.at p = none
        ∧ (s.dacRow p = .quiet → s.cva.trans.at p = none → t.dacRow p = .data))

/-- R244 to R247, R250 to R253 and R256: a range commit starts a transition that ends counted, and overloads set and clear their
flags. The model's choices it rests on: assumption log 7, 33. -/
def Obligations.RangesAndOverloads : Prop :=
  (∀ (s : State) (p : Fin 64), s.cva.noBndCommit.at p = none → s.realises (p.val / 16) = true →
      s.fld (Fld.CVA_FACET_STAT_READY (p.val / 16)) = 1 → s.armedBefore (.txrange p) s.cyc = true →
    (ifsOf (genFld (s.candidate (.txrange p) s.cyc) (Fld.CVA_TX_RANGE_IFS p)) ≠ ifsOf (s.active (Fld.CVA_TX_RANGE_IFS p)) →
      ∃ u, exec (.txrangeCommit p) s = .next (settle s u) ∧ u.fld (Fld.CVA_TX_RCTL_IN_TRANS p) = 1
        ∧ u.acc.active = s.candidate (.txrange p) s.cyc
        ∧ u.fld (Fld.CVA_TX_RCTL_GEN p) = (s.fld (Fld.CVA_TX_RCTL_GEN p) + 1) % 65536
        ∧ u.cva.trans.at p = some { start := s.time.now, oldIfs := ifsOf (s.active (Fld.CVA_TX_RANGE_IFS p)) }
        ∧ SameRegs [Reg.CVA_TX_RCTL p] s u)
    ∧ (ifsOf (genFld (s.candidate (.txrange p) s.cyc) (Fld.CVA_TX_RANGE_IFS p)) = ifsOf (s.active (Fld.CVA_TX_RANGE_IFS p)) →
      Completes (.txrangeCommit p) s fun t => t.acc.active = s.candidate (.txrange p) s.cyc
        ∧ t.fld (Fld.CVA_TX_RCTL_GEN p) = (s.fld (Fld.CVA_TX_RCTL_GEN p) + 1) % 65536
        ∧ t.cva = s.cva ∧ SameRegs [Reg.CVA_TX_RCTL p] s t))
  ∧ (∀ (s : State) (p : Fin 64) (b : Nat), s.cva.noBndCommit.at p = some b → b ≤ s.cyc → Completes (.txrangeCommit p) s fun t =>
      t.acc.active = s.candidate (.txrange p) b ∧ t.cva.noBndCommit.at p = none ∧ t.cva.trans = s.cva.trans
      ∧ t.fld (Fld.CVA_TX_RCTL_GEN p) = (s.fld (Fld.CVA_TX_RCTL_GEN p) + 1) % 65536 ∧ SameRegs [Reg.CVA_TX_RCTL p] s t)
  ∧ (∀ (s : State) (p : Fin 64) (x : RangeTrans), s.cva.trans.at p = some x →
      ∃ u, exec (.txrangeTransitionEnd p) s = .next (settle s u) ∧ u.cva.trans.at p = none ∧ u.fld (Fld.CVA_TX_RCTL_IN_TRANS p) = 0
        ∧ u.fld (Fld.CVA_TX_CNT1_TXR_DISC p) =
            min (s.fld (Fld.CVA_TX_CNT1_TXR_DISC p) + (2 * s.samplesIn 1 + s.samplesIn 4)) (2 ^ 32 - 1)
        ∧ SameRegs [Reg.CVA_TX_RCTL p, Reg.CVA_TX_CNT1 p] s u)
  ∧ (∀ (s : State) (p : Fin 64) (code : Int), s.rxDead p = false →
    (s.fld (Fld.CVA_RX_CFG_OVR_THR p) ≤ code ∨ code ≤ -(s.fld (Fld.CVA_RX_CFG_OVR_THR p) : Int) - 1 → s.fld (Fld.CVA_RX_STAT_OVR p) = 0 →
      Completes (.ovrAssert false p code) s fun t => t.fld (Fld.CVA_RX_STAT_OVR p) = 1
        ∧ t.fld (Fld.CVA_RX_CNT_OVR_CNT p) = min (s.fld (Fld.CVA_RX_CNT_OVR_CNT p) + 1) 65535
        ∧ (4094 < code → t.fld (Fld.CVA_RX_STAT_OVR_HI p) = 1)
        ∧ (code.natAbs ≤ 4094 → t.fld (Fld.CVA_RX_STAT_OVR_HI p) = s.fld (Fld.CVA_RX_STAT_OVR_HI p))
        ∧ SameRegs [Reg.CVA_RX_STAT p, Reg.CVA_RX_CNT p] s t)
    ∧ (code.natAbs < s.fld (Fld.CVA_RX_CFG_OVR_THR p) → code.natAbs ≤ 4094 → exec (.ovrAssert false p code) s = .next s))
  ∧ (∀ (s : State) (p : Fin 64) (code : Int), s.fld (Fld.CVA_ORX_CFG_EN (p.val % 8)) = 1 →
      s.fld (Fld.CVA_ORX_CFG_OVR_THR (p.val % 8)) ≤ code → s.fld (Fld.CVA_ORX_STAT_OVR (p.val % 8)) = 0 →
      Completes (.ovrAssert true p code) s fun t => t.fld (Fld.CVA_ORX_STAT_OVR (p.val % 8)) = 1
        ∧ t.fld (Fld.CVA_ORX_STAT_OVR_CNT (p.val % 8)) = min (s.fld (Fld.CVA_ORX_STAT_OVR_CNT (p.val % 8)) + 1) 65535
        ∧ SameRegs [Reg.CVA_ORX_STAT (p.val % 8)] s t)
  ∧ (∀ (s : State) (p : Fin 64), (Completes (.ovrClear true p false) s fun t => t.fld (Fld.CVA_ORX_STAT_OVR (p.val % 8)) = 0
        ∧ OnlyRegs [Reg.CVA_ORX_STAT (p.val % 8)] s t)
      ∧ (s.fld (Fld.CVA_RX_STAT_OVR_HI p) = 0 → Completes (.ovrClear false p false) s fun t => t.fld (Fld.CVA_RX_STAT_OVR p) = 0
        ∧ t.cva.ovr.at p = none ∧ t.mem = s.mem)
      ∧ (s.fld (Fld.CVA_RX_STAT_OVR p) = 1 → Completes (.ovrClear false p true) s fun t => t.fld (Fld.CVA_RX_STAT_OVR_HI p) = 0
        ∧ OnlyRegs [Reg.CVA_RX_STAT p] s t))

/-- R259 to R267 and R272: waveforms play, calibration runs, its results are applied or rejected, a path is recalibrated, and
supervision asks for a capture. The model's choices it rests on: assumption log 13, 56, 58. -/
def Obligations.PlaybackAndCalibration : Prop :=
  (∀ (s : State) (k : Fin 4) (v : Word), s.fld (Fld.CVA_WFM_STAT_PLAYING k) = 0 → s.calHolds k = false →
      Completes (.wfmGo k v) s fun t => t.fld (Fld.CVA_WFM_STAT_PLAYING k) = 1
        ∧ t.cva.play.at k = some (if v.toNat / 2 ^ 28 % 4 = 1 then .waiting else .running s.time.now)
        ∧ SameRegs [Reg.CVA_WFM_CFG k, Reg.CVA_WFM_STAT k] s t)
  ∧ (∀ (s : State) (k : Fin 4) (v : Word), s.fld (Fld.CVA_WFM_STAT_PLAYING k) = 1 → Completes (.wfmGo k v) s fun t =>
      t.fld (Fld.CVA_WFM_STAT_ERR k) = 1 ∧ OnlyRegs [Reg.CVA_WFM_STAT k] s t)
  ∧ (∀ (s : State) (k : Fin 4), s.cva.play.at k = some .waiting → s.realises k = true → Completes (.wfmSymbolStart k) s fun t =>
      t.cva.play.at k = some (.running s.time.now) ∧ t.regs = s.regs)
  ∧ (∀ (s : State) (k : Fin 4) (x : Play), s.cva.play.at k = some x → Completes (.wfmStop k) s fun t =>
      t.cva.play.at k = none ∧ t.fld (Fld.CVA_WFM_STAT_PLAYING k) = 0
      ∧ t.fld (Fld.CVA_WFM_STAT_PLAYS k) = min (s.fld (Fld.CVA_WFM_STAT_PLAYS k) + 1) 65535 ∧ SameRegs [Reg.CVA_WFM_STAT k] s t)
  ∧ (∀ (s : State) (k : Fin 4) (sat : Bool) (t0 : Nat), s.cva.play.at k = some (.running t0) → Completes (.wfmPlayEnd k sat) s fun t =>
      (sat = true → t.fld (Fld.CVA_WFM_STAT_SAT k) = 1)
      ∧ (s.fld (Fld.CVA_WFM_CFG_LOOP k) = 0 → t.cva.play.at k = none ∧ t.fld (Fld.CVA_WFM_STAT_PLAYING k) = 0)
      ∧ (s.fld (Fld.CVA_WFM_CFG_LOOP k) = 1 → t.cva.play.at k = some (.running t0)) ∧ SameRegs [Reg.CVA_WFM_STAT k] s t)
  ∧ (∀ s : State, (s.fld Fld.CVA_CAL_CFG_EN = 1 ∨ s.cva.runOnce = true) → s.cva.runAsked = false → s.cva.run = none →
      s.calPages s.calRx ≠ 0 → Completes .calPageRequest s fun t => t.cva.runAsked = true
      ∧ (∃ r, t.mem.capReqs = s.mem.capReqs ++ [r] ∧ r.owner = 11 ∧ r.pages = s.calPages s.calRx) ∧ t.regs = s.regs)
  ∧ (∀ s : State, Completes .calRunOnce s fun t => t.cva.runOnce = true ∧ t.regs = s.regs)
  ∧ (∀ (s : State) (y : SymAbs) (streams : List (List Word)), s.calDue y = true → s.cva.run = none → s.cva.recal = none →
    (s.calSkips s.calRx (s.calMask s.calRx) = true → Completes (.calRun y streams) s fun t =>
      t.fld Fld.CVA_CAL_CNT_SKIPPED = min (s.fld Fld.CVA_CAL_CNT_SKIPPED + 1) 255 ∧ t.cva.run = none ∧ t.cva.runPages = []
      ∧ t.cva.runOnce = false)
    ∧ (s.calSkips s.calRx (s.calMask s.calRx) = false → Completes (.calRun y streams) s fun t =>
      t.fld Fld.CVA_CAL_STAT_BUSY = 1
      ∧ t.cva.run = some { rx := s.calRx, mask := s.calMask s.calRx, injecting := true, since := s.time.now }
      ∧ t.cva.nextRx = !s.calRx ∧ (s.calRx = true → t.cva.steer = some (s.fld Fld.CVA_CAL_CFG_SRC))
      ∧ (s.calRx = false → t.fld (Fld.CVA_ORX_CFG_CALSRC 0) = 1)))
  ∧ (∀ (s : State) (res : List PathCal) (r : CalRun), s.cva.run = some r →
      (res.filter (fun x => r.mask.testBit x.path)).find? (fun x => x.path.val == s.fld Fld.CVA_CAL_CFG_REF) = none →
      Completes (.calResult res) s fun t => t.cva.run = none ∧ t.fld Fld.CVA_CAL_STAT_BUSY = 0 ∧ t.fld Fld.CVA_CAL_STAT_FAIL = 1
        ∧ t.fld Fld.CVA_CAL_STAT_RUNS = min (s.fld Fld.CVA_CAL_STAT_RUNS + 1) 65535)
  ∧ (∀ (s : State) (x : PathCal) (r : CalRun), s.cva.run = some r → r.mask.testBit x.path = true → r.rx = true →
      x.path.val = s.fld Fld.CVA_CAL_CFG_REF → 200 ≤ x.peak → 0 < x.gi * x.gi + x.gq * x.gq →
      (dlyOf (s.rd (Reg.CVA_RX_DLY x.path)).toNat).natAbs ≤ 31 * 256 →
      Completes (.calResult [x]) s fun t => t.cva.run = none ∧ t.fld Fld.CVA_CAL_STAT_BUSY = 0
        ∧ t.fld Fld.CVA_CAL_STAT_FAIL = s.fld Fld.CVA_CAL_STAT_FAIL
        ∧ t.rd (Reg.BFE_PATH_CAL_RX x.path) = s.rd (Reg.BFE_PATH_CAL_RX x.path)
        ∧ dlyOf (t.rd (Reg.CVA_RX_DLY x.path)).toNat = dlyOf (s.rd (Reg.CVA_RX_DLY x.path)).toNat)
  ∧ (∀ (s : State) (p : Fin 64), s.cva.run = none → s.cva.recal = none →
    ((s.elided false p = true ∨ s.fld (Fld.CVA_TX_CFG_EN p) = 0) → Completes (.recalTx p) s fun t => t.cva.recal = some (false, p.val)
      ∧ t.fld Fld.CVA_CAL_STAT_BUSY = 1 ∧ t.dacRow p = .parked)
    ∧ ((s.elided true p = true ∨ s.fld (Fld.CVA_RX_CFG_EN p) = 0) → Completes (.recalRx p) s fun t => t.cva.recal = some (true, p.val)
      ∧ t.fld Fld.CVA_CAL_STAT_BUSY = 1 ∧ t.fld (Fld.CVA_RX_STAT_OVR p) = 0)
    ∧ (s.elided false p = false → s.fld (Fld.CVA_TX_CFG_EN p) = 1 → Completes (.recalTx p) s fun t =>
      t.fld Fld.CVA_CAL_STAT_REFUSED = 1 ∧ OnlyRegs [Reg.CVA_CAL_STAT] s t))
  ∧ (∀ (s : State) (rx : Bool) (p : Nat), s.cva.recal = some (rx, p) → Completes .recalDone s fun t =>
      t.cva.recal = none ∧ t.fld Fld.CVA_CAL_STAT_BUSY = 0)
  ∧ (∀ (s : State) (p : Fin 64), s.supervised p = true → (s.cva.sup.at p).want = false →
      (s.cva.sup.at p).lastEval + max 1 (s.fld Fld.CVA_CTRL_SUP_PER) * 800000 ≤ s.time.now → Completes (.supCaptureRequest p) s fun t =>
      (t.cva.sup.at p).want = true ∧ (∀ q, q ≠ p.val → t.cva.sup.at q = s.cva.sup.at q) ∧ t.regs = s.regs)

/-! ### The sample clock -/

/-- R279 to R281, R574: the commands of RCS_CMD are accepted or refused with the first failed check, and end. The model's choices it
rests on: assumption log 61. -/
def Obligations.ClockCommandsRunAndEnd : Prop :=
  (∀ (s : State) (e : Fin 64), s.rcsCause 1 e = 0 → Completes (.rcsTune e) s fun t =>
      t.fld Fld.RCS_STATUS_ENTRY = e ∧ t.fld Fld.RCS_CMD_STAT_BUSY = 1 ∧ t.rcs.busy = some (.tune false e)
      ∧ t.fld Fld.RCS_STATUS_STATE = (if s.on (validFld (s.fld Fld.RCS_STATUS_ACTIVE) e) then 2 else 1)
      ∧ t.fld Fld.RCS_STATUS_STBY_OK = 0
      ∧ (s.rcsLocked = true → t.fld Fld.RCS_CNT1_UNLOCKS = min (s.fld Fld.RCS_CNT1_UNLOCKS + 1) 65535
          ∧ ∀ k, k < 4 → (t.facetT k).anchored = false))
  ∧ (∀ (s : State) (e : Fin 64), s.rcsCause 2 e = 0 → Completes (.rcsCal e) s fun t =>
      t.fld Fld.RCS_STATUS_ENTRY = e ∧ t.rcs.busy = some (.tune true e) ∧ t.fld Fld.RCS_STATUS_STATE = 1
      ∧ t.fld Fld.RCS_CMD_STAT_BUSY = 1)
  ∧ (∀ s : State, s.rcsCause 3 0 = 0 → Completes .rcsSwitch s fun t => t.rcs.busy = some .switch ∧ t.rcs.pend.isSome = true
      ∧ t.fld Fld.RCS_CMD_STAT_BUSY = 1 ∧ OnlyRegs [Reg.RCS_CMD_STAT] s { t with rcs := s.rcs })
  ∧ (∀ (s : State) (e : Fin 64), s.rcsCause 4 e = 0 → Completes (.rcsInvalidate e) s fun t =>
      t.fld (Fld.RCS_TC_CFG_VALID_A e) = 0 ∧ t.fld (Fld.RCS_TC_CFG_VALID_B e) = 0
      ∧ OnlyRegs [Reg.RCS_TC_CFG e, Reg.CLS_CE_EVPEND 1, Reg.CLS_CE_CNT1 1] s t)
  ∧ (∀ s : State, s.rcsCause 5 0 = 0 → s.rcsLocked = true → Completes .rcsCalStby s fun t => t.rcs.busy = some .calStby
      ∧ t.rcs.standby = .cal false false ∧ t.fld Fld.RCS_CMD_STAT_BUSY = 1 ∧ t.fld Fld.RCS_STATUS_STBY_OK = 0)
  ∧ (∀ (s : State) (e : Fin 64),
      (s.rcsCause 1 e ≠ 0 → Completes (.rcsTune e) s fun t => t.fld Fld.RCS_CMD_STAT_REFUSED = 1
        ∧ t.fld Fld.RCS_CMD_STAT_CAUSE = s.rcsCause 1 e ∧ OnlyRegs [Reg.RCS_CMD_STAT] s t)
      ∧ (s.rcsCause 3 0 ≠ 0 → Completes .rcsSwitch s fun t => t.fld Fld.RCS_CMD_STAT_REFUSED = 1
        ∧ t.fld Fld.RCS_CMD_STAT_CAUSE = s.rcsCause 3 0 ∧ OnlyRegs [Reg.RCS_CMD_STAT] s t))
  ∧ (∀ (s : State) (op : Fin 16), op.val = 0 ∨ 6 ≤ op.val → Completes (.rcsCmdBadOp op) s fun t =>
      t.fld Fld.RCS_CMD_STAT_REFUSED = 1 ∧ t.fld Fld.RCS_CMD_STAT_CAUSE = (if s.rcs.busy.isSome then 1 else 6)
      ∧ OnlyRegs [Reg.RCS_CMD_STAT] s t)
  ∧ (∀ (s : State) (cal : Bool) (e : Nat) (r0 r1 r2 : Word), s.rcs.busy = some (.tune cal e) → s.rcs.refBad = false →
    (Completes (.rcsLocked true r0 r1 r2) s fun t => t.fld Fld.RCS_STATUS_STATE = 3 ∧ t.fld Fld.RCS_CMD_STAT_BUSY = 0
      ∧ t.rcs.busy = none ∧ t.rcs.lockedAt = s.time.now
      ∧ (s.rcsState = 1 → s.fld Fld.RCS_STATUS_ACTIVE = 0 →
          t.rd (Reg.RCS_TC_CALA (s.fld Fld.RCS_STATUS_ENTRY) 0) = r0 ∧ t.rd (Reg.RCS_TC_CALA (s.fld Fld.RCS_STATUS_ENTRY) 1) = r1
          ∧ t.rd (Reg.RCS_TC_CALA (s.fld Fld.RCS_STATUS_ENTRY) 2) = r2
          ∧ t.fld (Fld.RCS_TC_CFG_VALID_A (s.fld Fld.RCS_STATUS_ENTRY)) = 1 ∧ t.fld Fld.RCS_STATUS_FAILED_A = 0))
    ∧ (∃ u, exec (.rcsLocked false r0 r1 r2) s = .next (if s.rcsState = 1 then reportFault u 0x24 (s.fld Fld.RCS_STATUS_ACTIVE) else u)
      ∧ u.fld Fld.RCS_STATUS_STATE = 4 ∧ u.fld Fld.RCS_CMD_STAT_BUSY = 0 ∧ u.rcs.busy = none))
  ∧ (∀ (s : State) (cal : Bool) (e : Nat), s.rcs.busy = some (.tune cal e) → s.rcs.refBad = true → Completes .rcsCmdEndLost s fun t =>
      t.fld Fld.RCS_STATUS_STATE = 4 ∧ t.fld Fld.RCS_CMD_STAT_BUSY = 0 ∧ t.rcs.busy = none
      ∧ OnlyRegs [Reg.RCS_STATUS, Reg.RCS_CMD_STAT, Reg.CLS_CE_EVPEND 1, Reg.CLS_CE_CNT1 1] s { t with rcs := s.rcs })
  ∧ (∀ s : State, s.rcs.autoDue = true → s.rcs.busy = none →
      (s.rcsLocked = true → Completes .autoTuneIssue s fun t => t.rcs.autoDue = false ∧ t.regs = s.regs)
      ∧ (s.rcsLocked = false → s.rcsCause 1 (s.fld Fld.RCS_STATUS_ENTRY) = 0 → Completes .autoTuneIssue s fun t =>
        t.rcs.autoDue = false ∧ t.rcs.busy = some (.tune false (s.fld Fld.RCS_STATUS_ENTRY)) ∧ t.fld Fld.RCS_CMD_STAT_BUSY = 1))

/-- R275, R277, R282, R283, R293 to R296: the source is chosen, lost and recovered, lock is lost, facets anchor, and pulses align
the epochs of parts. The model's choices it rests on: assumption log 61. -/
def Obligations.SourceLockAndAnchoring : Prop :=
  (∀ (s : State) (v : Word), Completes (.rcsSourceWrite v) s fun t =>
      (s.rcs.busy = none → t.rd Reg.RCS_CTRL = (s.writeRw Reg.RCS_CTRL v).rd Reg.RCS_CTRL)
      ∧ (s.rcs.busy.isSome = true → t.fld Fld.RCS_CTRL_SRC = s.fld Fld.RCS_CTRL_SRC
          ∧ t.fld Fld.RCS_CTRL_REF_FREQ = s.fld Fld.RCS_CTRL_REF_FREQ)
      ∧ (t.fld Fld.RCS_CTRL_SRC ≠ s.fld Fld.RCS_CTRL_SRC → s.rcsState ≠ 0 → t.fld Fld.RCS_STATUS_STATE = 4)
      ∧ (t.fld Fld.RCS_CTRL_SRC = s.fld Fld.RCS_CTRL_SRC → t.fld Fld.RCS_CTRL_REF_FREQ = s.fld Fld.RCS_CTRL_REF_FREQ →
          t.fld Fld.RCS_STATUS_STATE = s.fld Fld.RCS_STATUS_STATE))
  ∧ (∀ s : State, s.fld Fld.RCS_CTRL_STBY_EN = 0 → s.rcs.busy = none → s.rcsLocked = true → s.fld Fld.RCS_CTRL_SRC = 0 →
      Completes .stbyEnable s fun t => t.fld Fld.RCS_CTRL_STBY_EN = 1
        ∧ t.rcs.standby = (if s.on (validFld s.standbySyn (s.fld Fld.RCS_STATUS_ENTRY)) then .track else .cal false false)
        ∧ t.fld Fld.RCS_STATUS_STATE = 3)
  ∧ (∀ s : State, s.fld Fld.RCS_CTRL_SRC = 1 → Completes .extfsGood s fun t => t.fld Fld.RCS_STATUS_STATE = 3 ∧ t.rcs.refBad = false)
  ∧ (∀ s : State, s.rcs.refBad = false → ∃ u, exec .refLost s = .next (reportKind u 0x20 (s.fld Fld.RCS_CTRL_SRC))
      ∧ u.rcs.refBad = true ∧ u.fld Fld.RCS_STATUS_REF_LOST_EVT = 1
      ∧ u.fld Fld.RCS_CNT1_REF_LOSS = min (s.fld Fld.RCS_CNT1_REF_LOSS + 1) 65535
      ∧ (s.rcsLocked = true → u.fld Fld.RCS_STATUS_STATE = 4)
      ∧ (s.rcsLocked = false → u.fld Fld.RCS_STATUS_STATE = s.fld Fld.RCS_STATUS_STATE))
  ∧ (∀ s : State, s.fld Fld.RCS_CTRL_SRC = 0 → s.rcs.refBad = true → Completes .refRecover s fun t =>
      t.rcs.refBad = false ∧ t.rcs.autoDue = (s.rcsState != 0) ∧ t.fld Fld.RCS_STATUS_STATE = s.fld Fld.RCS_STATUS_STATE)
  ∧ (∀ s : State, s.rcsLocked = true → s.fld Fld.RCS_STATUS_STBY_OK = 0 → Completes .rcsLossOfLock s fun t =>
      t.fld Fld.RCS_STATUS_STATE = 4 ∧ t.fld Fld.RCS_STATUS_UNLOCK_EVT = 1 ∧ t.fld Fld.RCS_STATUS_ANCHORED = 0
      ∧ t.fld Fld.RCS_CNT1_UNLOCKS = min (s.fld Fld.RCS_CNT1_UNLOCKS + 1) 65535
      ∧ t.rcs.autoDue = !s.on Fld.RCS_CTRL_SRC ∧ (∀ k, k < 4 → (t.facetT k).anchored = false)
      ∧ (∀ p, p < 64 → t.dacRow p ≠ .data ∧ t.dacRow p ≠ .ramp))
  ∧ (∀ (s : State) (k : Fin 4), s.rcsLocked = true → (s.facetT k).anchored = false → s.rcs.lockedAt + 1600 ≤ s.time.now →
      s.rcs.waitPulse = false → Completes (.facetAnchor k) s fun t => (t.facetT k).anchored = true
      ∧ (t.facetT k).anchorFine = s.phcFine ∧ t.fld (lagFld k) = 0 ∧ (∀ j, j < 4 → j ≠ k.val → t.facetT j = s.facetT j)
      ∧ (∀ i, i < 8 → (t.line (8 * k.val + i)).muted = false))
  ∧ (∀ (s : State) (r : Nat), s.syncMode = 1 → s.anyAnchored = true → r < s.kR →
      exec (.syncOutPulse r) s = .next (s.emit (.sync (r + 1))))
  ∧ (∀ (s : State) (w : Nat) (diff : Int), s.syncMode = 2 → s.rcsLocked = true →
    (w = 0 ∨ s.kR < w → Completes (.syncInPulse w diff) s fun t =>
      t.fld Fld.RCS_SYNC_STAT_SYNC_ERR = min (s.fld Fld.RCS_SYNC_STAT_SYNC_ERR + 1) 255 ∧ OnlyRegs [Reg.RCS_SYNC_STAT] s t)
    ∧ (0 < w → w ≤ s.kR → s.rcs.waitPulse = true → s.rcs.lockedAt + 1600 ≤ s.time.now → Completes (.syncInPulse w diff) s fun t =>
      t.fld Fld.RCS_SYNC_STAT_FOLLOWING = 1 ∧ t.rcs.waitPulse = false ∧ ∀ k, k < 4 → (t.facetT k).anchored = true)
    ∧ (0 < w → w ≤ s.kR → s.rcs.waitPulse = false → s.anyAnchored = true → 24 < diff.natAbs → Completes (.syncInPulse w diff) s fun t =>
      t.fld Fld.RCS_SYNC_STAT_SYNC_ERR = min (s.fld Fld.RCS_SYNC_STAT_SYNC_ERR + 1) 255 ∧ OnlyRegs [Reg.RCS_SYNC_STAT] s t)
    ∧ (0 < w → w ≤ s.kR → s.rcs.waitPulse = false → s.anyAnchored = true → diff.natAbs ≤ 24 → Completes (.syncInPulse w diff) s fun t =>
      t.fld Fld.RCS_SYNC_STAT_FOLLOWING = 1 ∧ t.rcs.missRun = 0))
  ∧ (∀ s : State, s.syncMode = 2 → s.anyAnchored = true → s.rcs.missRun < 2 → Completes .syncMiss s fun t =>
      t.fld Fld.RCS_SYNC_STAT_SYNC_MISS = min (s.fld Fld.RCS_SYNC_STAT_SYNC_MISS + 1) 255 ∧ t.rcs.missRun = s.rcs.missRun + 1
      ∧ SameRegs [Reg.RCS_SYNC_STAT] s t)
  ∧ (∀ s : State, s.syncMode = 2 → s.anyAnchored = true → 2 ≤ s.rcs.missRun → ∃ u, exec .syncMiss s = .next (reportKind u 0x25 0)
      ∧ u.fld Fld.RCS_SYNC_STAT_FOLLOWING = 0 ∧ SameRegs [Reg.RCS_SYNC_STAT] s u)
  ∧ (∀ s : State, s.rcs.waitPulse = true → s.rcs.lockedAt + 800000 ≤ s.time.now → ∃ u, exec .syncAnchorTimeout s =
      .next (reportKind u 0x25 0) ∧ u.rcs.waitPulse = false ∧ u.regs = s.regs)

/-- R286 to R291: the standby calibrates, tracks and takes over after a soft or a hard failure, and a divergence counts. The model's
choices it rests on: assumption log 61. -/
def Obligations.SynthesisersTakeOver : Prop :=
  (∀ (s : State) (r0 r1 r2 : Word) (own again : Bool) (dphi : Int), s.rcs.standby = .cal own again →
    (Completes (.rcsStandbyDone true r0 r1 r2 dphi) s fun t => t.rcs.standby = .track
      ∧ (s.fld Fld.RCS_STATUS_ACTIVE = 0 → t.rd (Reg.RCS_TC_CALB (s.fld Fld.RCS_STATUS_ENTRY) 0) = r0
          ∧ t.fld (Fld.RCS_TC_CFG_VALID_B (s.fld Fld.RCS_STATUS_ENTRY)) = 1 ∧ t.fld Fld.RCS_STATUS_FAILED_B = 0)
      ∧ t.rcs.busy ≠ some .calStby)
    ∧ (own = true → again = false → Completes (.rcsStandbyDone false r0 r1 r2 dphi) s fun t =>
      t.rcs.standby = .cal true true ∧ t.regs = s.regs))
  ∧ (∀ (s : State) (dphi : Int), s.rcs.standby = .track → dphi.natAbs ≤ 50 → Completes (.stbyOkSet dphi) s fun t =>
      t.fld Fld.RCS_STATUS_STBY_OK = 1 ∧ t.sfld Fld.RCS_TRACK_DPHI = dphi ∧ SameRegs [Reg.RCS_STATUS, Reg.RCS_TRACK] s t)
  ∧ (∀ (s : State) (synB : Bool), s.rcsLocked = true → s.fld Fld.RCS_CTRL_SRC = 0 → s.fld Fld.RCS_STATUS_STBY_OK = 1 →
      s.fld Fld.RCS_CTRL_AUTO_SW = 1 → s.fld Fld.RCS_STATUS_ACTIVE = synB.toNat →
    (s.rcs.pend = none → Completes (.synSoftFail synB) s fun t => t.rcs.pend = some { since := s.time.now, failed := true } ∧ t.regs = s.regs)
    ∧ (∃ u, exec (.synHardFail synB) s = .next (ownRecal (reportFault u 0x22 (s.fld Fld.RCS_STATUS_ACTIVE)))
      ∧ u.fld Fld.RCS_STATUS_ACTIVE = 1 - synB.toNat ∧ u.fld Fld.RCS_STATUS_SWITCH_EVT = 1 ∧ u.fld Fld.RCS_STATUS_STBY_OK = 0
      ∧ u.fld Fld.RCS_CNT0_HARD_SW = min (s.fld Fld.RCS_CNT0_HARD_SW + 1) 65535
      ∧ u.fld Fld.RCS_CNT0_SWITCHES = min (s.fld Fld.RCS_CNT0_SWITCHES + 1) 65535))
  ∧ (∀ (s : State) (synB : Bool), s.rcsLocked = true → s.fld Fld.RCS_CTRL_SRC = 0 → s.fld Fld.RCS_STATUS_STBY_OK = 0 →
      s.rcs.pend = none → s.fld Fld.RCS_STATUS_ACTIVE = synB.toNat →
    (Completes (.synSoftFail synB) s fun t => t.fld Fld.RCS_STATUS_STATE = 4 ∧ t.rcs.autoDue = true)
    ∧ (Completes (.synHardFail synB) s fun t => t.fld Fld.RCS_STATUS_STATE = 4 ∧ t.rcs.autoDue = true))
  ∧ (∀ (s : State) (dphi : Int), s.rcsLocked = true → s.fld Fld.RCS_CTRL_SRC = 0 → s.fld Fld.RCS_STATUS_STBY_OK = 1 →
      100 < dphi.natAbs → dphi.natAbs < 32768 → ∃ u, exec (.synDiverge dphi) s = .next (ownRecal (reportFault u 0x23 0))
      ∧ u.fld Fld.RCS_STATUS_DIVERGE_EVT = 1 ∧ u.fld Fld.RCS_STATUS_STBY_OK = 0 ∧ u.sfld Fld.RCS_TRACK_DPHI = dphi
      ∧ SameRegs [Reg.RCS_STATUS, Reg.RCS_TRACK] s u)
  ∧ (∀ (s : State) (p : PendSwitch), s.rcs.pend = some p → p.since + 240 ≤ s.time.now → p.failed = false →
      Completes .synSwitch s fun t => t.fld Fld.RCS_STATUS_ACTIVE = 1 - s.fld Fld.RCS_STATUS_ACTIVE
        ∧ t.fld Fld.RCS_STATUS_SWITCH_EVT = 1 ∧ t.rcs.pend = none ∧ t.rcs.standby = .track
        ∧ t.fld Fld.RCS_CNT0_SWITCHES = min (s.fld Fld.RCS_CNT0_SWITCHES + 1) 65535
        ∧ t.fld Fld.RCS_CNT0_HARD_SW = s.fld Fld.RCS_CNT0_HARD_SW ∧ t.rcs.busy ≠ some .switch)

/-! ### Serial lanes -/

/-- R300, R304 to R310 and R320 to R322: lanes are configured, trained, locked, retrained and tested. The model's choices it rests
on: assumption log 45. -/
def Obligations.LanesTrainLockAndTest : Prop :=
  (∀ (s : State) (l : Fin 16) (trate : Bool) (v : Word), s.persona = false → ∃ u f, exec (.laneConfigWrite l trate v) s = .next (judge s u f)
      ∧ u.rd (if trate then Reg.SRD_LANE_TRATE l else Reg.SRD_LANE_CFG l) =
          (s.writeRw (if trate then Reg.SRD_LANE_TRATE l else Reg.SRD_LANE_CFG l) v).rd
            (if trate then Reg.SRD_LANE_TRATE l else Reg.SRD_LANE_CFG l)
      ∧ (trate = false → u.badRole l = true → u.fld (Fld.SRD_LANE_STAT_BAD_CFG l) = 1)
      ∧ (l.val ∈ f ↔ u.rd (if trate then Reg.SRD_LANE_TRATE l else Reg.SRD_LANE_CFG l) ≠
          s.rd (if trate then Reg.SRD_LANE_TRATE l else Reg.SRD_LANE_CFG l)) ∧ u = { s with regs := u.regs })
  ∧ (∀ (s : State) (l : Fin 16) (ctle : Fin 16) (h1 : Byte), s.laneState l = 1 → s.extest = false →
      Completes (.laneTrainingAttempt l true ctle h1) s fun t => t.fld (Fld.SRD_LANE_STAT_LOS l) = 0
        ∧ (t.laneDyn l).attempt = true
        ∧ (s.fld (Fld.SRD_LANE_RXEQ_ADAPT_EN l) = 1 → t.fld (Fld.SRD_LANE_RXEQ_CTLE l) = ctle
            ∧ t.fld (Fld.SRD_LANE_RXEQ_DFE_H1 l) = h1.toNat)
        ∧ (s.fld (Fld.SRD_LANE_RXEQ_ADAPT_EN l) = 0 → t.rd (Reg.SRD_LANE_RXEQ l) = s.rd (Reg.SRD_LANE_RXEQ l))
        ∧ SameRegs [Reg.SRD_LANE_STAT l, Reg.SRD_LANE_RXEQ l] s t)
  ∧ (∀ (s : State) (l : Fin 16) (ctle : Fin 16) (h1 : Byte), Completes (.laneTrainingAttempt l false ctle h1) s fun t =>
      t.fld (Fld.SRD_LANE_STAT_LOS l) = 1 ∧ OnlyRegs [Reg.SRD_LANE_STAT l] s t)
  ∧ (∀ (s : State) (l : Fin 16) (inv : Bool), s.laneState l = 1 → s.extest = false → (s.laneDyn l).attempt = true →
      Completes (.laneLock l inv) s fun t => t.laneState l = 2 ∧ (t.laneDyn l).upSince = some s.time.now
        ∧ (t.fld Fld.SRD_STATUS_LOCKED).testBit l = true
        ∧ (t.fld (Fld.SRD_LANE_STAT_POL_INV l) = 1 ↔
            (s.on (Fld.SRD_LANE_CFG_RX_INV l) ≠ (s.on (Fld.SRD_LANE_CFG_AUTO_POL l) && 2 ≤ s.laneRole l && inv)))
        ∧ (∀ m, m ≠ l.val → t.laneDyn m = s.laneDyn m) ∧ t.fpe = s.fpe)
  ∧ (∀ (s : State) (l : Fin 16), Completes (.laneTrainingTimeout l) s fun t => (t.laneDyn l).attempt = false
      ∧ t.regs = s.regs ∧ t = { s with srd := t.srd })
  ∧ (∀ (s : State) (l : Fin 16) (t0 : Nat), s.laneState l = 4 → (s.laneDyn l).retiredAt = some t0 → t0 + 800000 ≤ s.time.now →
      Completes (.laneRetrainStart l) s fun t => (t.laneDyn l).retiredAt = none ∧ t.regs = s.regs)
  ∧ (∀ (s : State) (l : Fin 16), s.inService l = true → Completes (.laneLockLoss l) s fun t =>
      t.fld (Fld.SRD_LANE_CNT_LOCK_LOSS l) = min (s.fld (Fld.SRD_LANE_CNT_LOCK_LOSS l) + 1) 65535 ∧ OnlyRegs [Reg.SRD_LANE_CNT l] s t)
  ∧ (∀ (s : State) (l : Fin 16) (best : Fin 3), (s.laneDyn l).trial = true → Completes (.ctleTrial l best) s fun t =>
      t.fld (Fld.SRD_LANE_RXEQ_CTLE l) = min 15 (s.fld (Fld.SRD_LANE_RXEQ_CTLE l) + best - 1)
      ∧ (t.laneDyn l).trial = false ∧ (t.laneDyn l).trialRun = 0 ∧ SameRegs [Reg.SRD_LANE_RXEQ l] s t)
  ∧ (∀ (s : State) (l : Fin 16) (v : Word), s.laneState l = 1 → s.testRateOk l = true →
      testBits ((s.writeRw (Reg.SRD_LANE_PRBS l) v).rd (Reg.SRD_LANE_PRBS l)) = true →
    Completes (.prbsTestEnable l v) s fun t => t.laneState l = 5 ∧ (t.fld Fld.SRD_SERVICE_TEST).testBit l = true)
  ∧ (∀ (s : State) (l : Fin 16) (v : Word), s.laneState l = 5 → (s.laneUse l).isSome = true →
      testBits ((s.writeRw (Reg.SRD_LANE_PRBS l) v).rd (Reg.SRD_LANE_PRBS l)) = false →
    Completes (.testExit l v) s fun t => t.laneState l = 1 ∧ (t.fld Fld.SRD_SERVICE_TEST).testBit l = false)
  ∧ (∀ (s : State) (l : Fin 16) (lock : Bool) (bits errs : Nat), s.laneState l = 5 → s.fld (Fld.SRD_LANE_PRBS_CHK_EN l) = 1 →
      Completes (.prbsCheckerLock l lock bits errs) s fun t => t.fld (Fld.SRD_LANE_PRBS_CHK_LOCK l) = lock.toNat
        ∧ (s.fld (Fld.SRD_LANE_PRBS_CHK_LOCK l) = 1 →
            t.fld (Fld.SRD_LANE_PRBS_ERR_ERR l) = min (s.fld (Fld.SRD_LANE_PRBS_ERR_ERR l) + errs) (2 ^ 32 - 1)
            ∧ t.rd64 (Reg.SRD_LANE_PRBS_BITS_LO l) = min (2 ^ 64 - 1) (s.rd64 (Reg.SRD_LANE_PRBS_BITS_LO l) + bits))
        ∧ OnlyRegs [Reg.SRD_LANE_PRBS l, Reg.SRD_LANE_PRBS_ERR l, Reg.SRD_LANE_PRBS_BITS_LO l, Reg.SRD_LANE_PRBS_BITS_HI l] s t)

/-- R307, R308 and R314: an evaluation shows the Lane Quality Index of each lane in service by the eye and the error ratio, and a
CPRI loss brings a link back to state B. The model's choices it rests on: assumption log 45, 47. -/
def Obligations.LaneQualityIsEvaluated : Prop :=
  (∀ (s : State) (meas : List LaneMeas),
      (∀ l, l < 16 → s.laneState l = 0 ∨ s.laneState l = 1 ∨ s.laneState l = 5 ∨ (s.laneState l = 2
        ∧ (meas.getD l default).locked = true ∧ (meas.getD l default).lost = false
        ∧ s.fld Fld.SRD_CTRL_LQI_WARN ≤ min (qEye (meas.getD l default).eye (meas.getD l default).eyeMax)
            (qErr (meas.getD l default).err (meas.getD l default).bits))) →
    Completes (.lqiEvaluate meas) s fun t => ∀ l, l < 16 → t.laneState l = s.laneState l
      ∧ (s.laneState l = 2 →
          t.fld (Fld.SRD_LANE_LQI_EYE l) = qEye (meas.getD l default).eye (meas.getD l default).eyeMax
          ∧ t.fld (Fld.SRD_LANE_LQI_ERR l) = qErr (meas.getD l default).err (meas.getD l default).bits
          ∧ t.fld (Fld.SRD_LANE_LQI_LQI l) = min (qEye (meas.getD l default).eye (meas.getD l default).eyeMax)
              (qErr (meas.getD l default).err (meas.getD l default).bits)
          ∧ t.fld (Fld.SRD_LANE_LQI_LQI_MIN l) ≤ t.fld (Fld.SRD_LANE_LQI_LQI l)
          ∧ (t.laneDyn l).highRun = (s.laneDyn l).highRun + 1 ∧ (t.laneDyn l).lowRun = 0)
      ∧ (s.laneState l ≠ 2 → t.fld (Fld.SRD_LANE_LQI_LQI l) = 0))
  ∧ (∀ h h0 : Nat, 0 < h0 → 2 * (qEye h h0 * h0) ≤ 2 * 255 * h + h0 ∧ (qEye h h0 < 255 → 2 * 255 * h + h0 < 2 * (qEye h h0 * h0) + 2 * h0))
  ∧ (∀ err bits : Nat, 0 < err → (qErr err bits < 255 → bits ^ 32 < 10 ^ (2 * qErr err bits + 1) * err ^ 32)
      ∧ (0 < qErr err bits → 10 ^ (2 * qErr err bits - 1) * err ^ 32 ≤ bits ^ 32))
  ∧ (∀ (s : State) (l : Fin 4), s.persona = true → 2 ≤ s.cpri l →
    (Completes (.cpriLossOfSignal l) s fun t => t.cpri l = 1 ∧ (t.lgc.links.at l).los = true)
    ∧ (Completes (.cpriLossOfSync l) s fun t => t.cpri l = 1 ∧ (t.lgc.links.at l).lof = true))

/-! ### The T1640 persona -/

/-- R329 to R334, R338, R343, R344, R348 and R349: the CPRI links' states, the AxC table, the port enables, the carrier frequencies
and the alarms. The model's choices it rests on: assumption log 14, 15. -/
def Obligations.PersonaLinksAndTables : Prop :=
  (∀ (s : State) (n : Fin 4), s.persona = true → s.cpri n = 0 → Completes (.cpriLinkEnable n) s fun t =>
      t.fld (Fld.LGC_LINK_CTRL_LINK_EN n) = 1 ∧ t.cpri n = 1 ∧ t.fld (Fld.LGC_LINK_STATE_OPTION n) = s.nextOption n 8
      ∧ (t.lgc.links.at n).since = s.time.now)
  ∧ (∀ (s : State) (n : Fin 4), s.persona = true → 1 ≤ s.cpri n → s.cpri n ≤ 4 → Completes (.cpriStateAdvance n) s fun t =>
      t.cpri n = s.cpri n + 1 ∧ (s.cpri n = 4 → n.val = 0 → t.fld Fld.TIM_STATUS_TIME_OK = 1)
      ∧ (∀ m, m < 4 → m ≠ n.val → t.cpri m = s.cpri m))
  ∧ (∀ (s : State) (n : Fin 4) (d : Nat), s.persona = true → s.cpriTimeout n = some d → (s.lgc.links.at n).since + d ≤ s.time.now →
      Completes (.cpriStateTimeout n) s fun t =>
        t.fld (Fld.LGC_LINK_CNT_TMO_CNT n) = min (s.fld (Fld.LGC_LINK_CNT_TMO_CNT n) + 1) 255
        ∧ t.fld (Fld.LGC_LINK_STATE_LAST_TMO n) = s.cpri n
        ∧ t.cpri n = (if s.cpri n = 4 then 5 else 1)
        ∧ (s.cpri n = 1 → t.fld (Fld.LGC_LINK_STATE_OPTION n) = s.nextOption n (s.fld (Fld.LGC_LINK_STATE_OPTION n)))
        ∧ (s.cpri n = 4 → t.fld (Fld.LGC_LINK_STATE_VEND_DEF n) = 1))
  ∧ (∀ (s : State) (n : Fin 4) (los lof rst : Bool), s.persona = true →
    (Completes (.cpriLinkReset n los lof rst true) s fun t => t.cpri n = 0 ∧ t.fld (Fld.LGC_LINK_CTRL_LINK_EN n) = 0)
    ∧ (2 ≤ s.cpri n → (los = true ∨ lof = true ∨ rst = true) → Completes (.cpriLinkReset n los lof rst false) s fun t =>
      t.cpri n = 1 ∧ (t.lgc.links.at n).los = ((s.lgc.links.at n).los || los)
      ∧ (rst = true → t.lgc.rstCnt = min 0xFFFF (s.lgc.rstCnt + if s.fld Fld.VP_QUIRK_DBL_RST = 1 then 2 else 1))))
  ∧ (∀ (s : State) (n : Fin 4) (rai sdi cv : Bool) (ofs : Int), s.persona = true → s.cpri n = 5 →
      Completes (.hyperframeRx n rai sdi cv ofs) s fun t =>
        (∃ r x, t.out = .hyperframe n r x :: s.out) ∧ (t.lgc.links.at n).los = false ∧ (t.lgc.links.at n).rai = rai
        ∧ (t.lgc.links.at n).sdi = sdi
        ∧ (cv = true → t.fld (Fld.LGC_LINK_CNT_CV_CNT n) = min (s.fld (Fld.LGC_LINK_CNT_CV_CNT n) + 1) 255)
        ∧ (n.val ≠ 0 ∨ ofs = 0 → t.time = s.time))
  ∧ (∀ (s : State) (w : Nat) (table : List AxcEntry), s.persona = true →
    (s.axcOk w table = true → Completes (.axcApply w table) s fun t => t.lgc.axcNext = some (w, table) ∧ t.lgc.axc = s.lgc.axc ∧ t.regs = s.regs)
    ∧ (s.axcOk w table = false → Completes (.axcApply w table) s fun t => t.fld Fld.VP_STATUS_AXC_BAD = 1 ∧ t.lgc.axcNext = s.lgc.axcNext
      ∧ t.lgc.alarm.testBit 1 = true))
  ∧ (∀ (s : State) (w : Nat) (table : List AxcEntry), s.lgc.axcNext = some (w, table) → Completes .axcTableSwitch s fun t =>
      t.lgc.axc = table ∧ t.lgc.axcW = w ∧ t.lgc.axcNext = none ∧ t.regs = s.regs)
  ∧ (∀ (s : State) (i : Fin 16) (en : Bool), s.persona = true → Completes (.portTxenWrite i en) s fun t =>
      t.lgc.txen.testBit i = en ∧ t.lgc.txenOn = s.lgc.txenOn
      ∧ t.lgc.txenWait.at i = some { en, since := s.time.now, left := none } ∧ t.regs = s.regs)
  ∧ (∀ (s : State) (i : Fin 16) (w : TxenWait), s.lgc.txenWait.at i = some w → w.left = none → w.since + 80 ≤ s.time.now →
    (s.fld Fld.VP_QUIRK_TXEN_DLY2 = 0 → Completes (.portTxenEffect i) s fun t =>
      t.lgc.txenOn.testBit i = w.en ∧ t.lgc.txenWait.at i = none ∧ t.regs = s.regs)
    ∧ (s.fld Fld.VP_QUIRK_TXEN_DLY2 = 1 → Completes (.portTxenEffect i) s fun t =>
      t.lgc.txenOn = s.lgc.txenOn ∧ t.lgc.txenWait.at i = some { w with left := some 2 }))
  ∧ (∀ (s : State) (j : Fin 2) (kHz : Nat), s.persona = true → j.val + 1 ≠ s.lgc.cars.length → Completes (.carFreqWrite (.freq j kHz)) s fun t =>
      t.lgc.freq.at j = kHz ∧ t.regs = s.regs ∧ t.acc = s.acc)
  ∧ (∀ (s : State) (v : Half), s.persona = true → Completes (.alarmClear v) s fun t =>
      (∀ b, b < 16 → t.lgc.alarm.testBit b = true → (s.lgc.alarm.testBit b = true ∧ v.getLsbD b = false) ∨ s.alarmSources.testBit b = true))

/-- R345, R346 and R350: C&M messages, the persona's MSPI frames and the vendor page's window reach the persona's words and the
native map. The model's choices it rests on: assumption log 76. -/
def Obligations.PersonaWordsAreReached : Prop :=
  (∀ (s : State) (n : Fin 4) (fast : Bool) (seq : Byte) (addr count : Fin 65536), s.persona = true → s.cpri n = 5 →
    ((count.val = 0 ∨ 256 < count.val) → exec (.cmRead n fast seq addr count) s = .next (s.emit (.cm n fast 0x81 seq.toNat 2 [])))
    ∧ (0 < count.val → count.val ≤ 256 → 0x4000 < addr.val + count.val →
      exec (.cmRead n fast seq addr count) s = .next (s.emit (.cm n fast 0x81 seq.toNat 1 [])))
    ∧ (0 < count.val → count.val ≤ 256 → addr.val + count.val ≤ 0x4000 → Completes (.cmRead n fast seq addr count) s fun t =>
      ∃ l u, t.out = .cm n fast 0x81 seq.toNat 0 l :: u ∧ l.length = count.val))
  ∧ (∀ (s : State) (n : Fin 4) (fast : Bool) (seq : Byte) (addr : Fin 65536) (v : Half), s.persona = true → s.cpri n = 5 → addr.val ≠ 0 →
      addr.val < 0x3000 → regRow (wordAddr addr) = none → wordAddr addr ≠ Reg.VP_WIN_D_HI → wordAddr addr ≠ Reg.VP_WIN_D_LO →
      (∀ m, m < 4 → wordAddr addr ≠ Reg.LGC_LINK_CTRL m) →
    (Completes (.cmWrite n fast seq addr 1 [v]) s fun t => t.lgc.words.at addr = v ∧ (∀ w, w ≠ addr.val → t.lgc.words.at w = s.lgc.words.at w)
      ∧ t.out = .cm n fast 0x82 seq.toNat 0 [] :: s.out ∧ t.regs = s.regs)
    ∧ (Completes (.cmRead n fast seq addr 1) s fun t => t.out = .cm n fast 0x81 seq.toNat 0 [(s.lgc.words.at addr).toNat] :: s.out
      ∧ t.regs = s.regs)
    ∧ (Completes (.personaMspiRead addr 1) s fun t => t.out = .mspi (bytesOf (s.lgc.words.at addr).toNat 2) :: s.out)
    ∧ (Completes (.personaMspiWrite addr [v]) s fun t => t.lgc.words.at addr = v ∧ t.out = s.out))
  ∧ (∀ (s : State) (addr : Fin 65536) (count : Nat), s.persona = true → 0x4000 ≤ addr.val → Completes (.personaMspiRead addr count) s fun t =>
      t.out = .mspi (List.replicate (2 * count) 0) :: s.out
      ∧ t.fld Fld.VP_STATUS_BAD_ADDR = min (s.fld Fld.VP_STATUS_BAD_ADDR + count) 255 ∧ SameRegs [Reg.VP_STATUS] s t)
  ∧ (∀ (s u : State) (v : Word), s.persona = true → plainRead s { path := .mspi, perm := .mspi } s.windowAddr = (u, .ok v) →
      Completes .vpWinRead s fun t => t.fld Fld.VP_WIN_D_HI_DATA = v.toNat / 65536
        ∧ t.out = .read 1 Reg.VP_WIN_D_LO (some (v.toNat % 65536)) :: u.out ∧ SameRegs [Reg.VP_WIN_D_HI] u t)
  ∧ (∀ (s u : State) (h : Half) (w : Word), s.persona = true →
      mapWrite (s.setFld Fld.VP_WIN_D_HI_DATA h.toNat) { path := .mspi, perm := .mspi }
        (s.setFld Fld.VP_WIN_D_HI_DATA h.toNat).windowAddr
        (BitVec.ofNat 32 (h.toNat * 65536 + (s.setFld Fld.VP_WIN_D_HI_DATA h.toNat).fld Fld.VP_WIN_D_LO_DATA)) = (u, .ok w) →
      exec (.vpWinWrite h) s = .next u)

/-! ### The Yakea cores -/

/-- R355 to R358 and R377, formats R and I: the results of each integer instruction with their latencies, the flags Z, N and V and
the sticky SAT; a field that must be zero and is not raises ILLEGAL. The model's choices it rests on: assumption log 63, 64. -/
def Obligations.YakeaIntegerResults : Prop :=
  ∀ (s : State) (n : Fin 4) (slot : YSlot) (f : BitVec 24), s.canIssue n slot →
    let c := (s.pairOpen n).core n
    let d := yBits f 20 4
    let x := c.d.at (yBits f 16 4)
    let y := c.d.at (yBits f 12 4)
    let imm := signed 16 (yBits f 0 16)
    let low := BitVec.ofNat 32 (yBits f 0 16)
    let k := yBits f 0 5
    let out := fun (v : Int) => decide (v < -2 ^ 31 ∨ 2 ^ 31 ≤ v)
    let sat := fun (v : Int) => max (-2 ^ 31) (min (2 ^ 31 - 1) v)
    let out16 := fun (v : Int) => decide (v < -2 ^ 15 ∨ 2 ^ 15 ≤ v)
    let sat16 := fun (v : Int) => max (-2 ^ 15) (min (2 ^ 15 - 1) v)
    let zn := fun (w : Word) => (if w = 0 then 2 else 0) + (if w.toInt < 0 then 4 else 0)
    let znv := fun (w : Word) (v : Bool) => [(1, YDst.d d, w.toNat), (1, .flags 14, zn w + if v then 8 else 0)]
    let sticky := fun (b : Bool) => if b then [(1, YDst.sticky, 1024)] else []
    (yBits f 0 12 = 0 →
      Issues (.yNop n slot f) s n slot c
      ∧ Issues (.yAdd n slot f) s n slot (c.gives (znv (x + y) (out (x.toInt + y.toInt))))
      ∧ Issues (.ySub n slot f) s n slot (c.gives (znv (x - y) (out (x.toInt - y.toInt))))
      ∧ Issues (.yAnd n slot f) s n slot (c.gives (znv (x &&& y) false))
      ∧ Issues (.yOr n slot f) s n slot (c.gives (znv (x ||| y) false))
      ∧ Issues (.yXor n slot f) s n slot (c.gives (znv (x ^^^ y) false))
      ∧ Issues (.yShl n slot f) s n slot (c.gives (znv (x <<< (y.toNat % 32)) false))
      ∧ Issues (.yShr n slot f) s n slot (c.gives (znv (x >>> (y.toNat % 32)) false))
      ∧ Issues (.yShra n slot f) s n slot (c.gives (znv (BitVec.ofInt 32 (x.toInt / 2 ^ (y.toNat % 32))) false))
      ∧ Issues (.yAdds n slot f) s n slot (c.gives
          (znv (BitVec.ofInt 32 (sat (x.toInt + y.toInt))) (out (x.toInt + y.toInt)) ++ sticky (out (x.toInt + y.toInt))))
      ∧ Issues (.ySubs n slot f) s n slot (c.gives
          (znv (BitVec.ofInt 32 (sat (x.toInt - y.toInt))) (out (x.toInt - y.toInt)) ++ sticky (out (x.toInt - y.toInt))))
      ∧ Issues (.yCadd n slot f) s n slot (c.gives
          ((1, .d d, (packHalves (sat16 (hiHalf x + hiHalf y)) (sat16 (loHalf x + loHalf y))).toNat)
            :: sticky (out16 (hiHalf x + hiHalf y) || out16 (loHalf x + loHalf y))))
      ∧ Issues (.yCsub n slot f) s n slot (c.gives
          ((1, .d d, (packHalves (sat16 (hiHalf x - hiHalf y)) (sat16 (loHalf x - loHalf y))).toNat)
            :: sticky (out16 (hiHalf x - hiHalf y) || out16 (loHalf x - loHalf y))))
      ∧ (∀ w : Word, (w = x ∨ w = y) → w.toInt = min x.toInt y.toInt →
          Issues (.yMin n slot f) s n slot (c.gives [(1, .d d, w.toNat), (1, .flags 6, zn w)]))
      ∧ (∀ w : Word, (w = x ∨ w = y) → w.toInt = max x.toInt y.toInt →
          Issues (.yMax n slot f) s n slot (c.gives [(1, .d d, w.toNat), (1, .flags 6, zn w)]))
      ∧ Issues (.yMov n slot f) s n slot (c.gives [(1, .d d, x.toNat)]))
    ∧ Issues (.yMovi n slot f) s n slot (c.gives [(1, .d d, unsigned 32 imm)])
    ∧ Issues (.yMovh n slot f) s n slot (c.gives [(1, .dhi d, yBits f 0 16)])
    ∧ Issues (.yAddi n slot f) s n slot (c.gives (znv (x + BitVec.ofInt 32 imm) (out (x.toInt + imm))))
    ∧ Issues (.yAndi n slot f) s n slot (c.gives (znv (x &&& low) false))
    ∧ Issues (.yOri n slot f) s n slot (c.gives (znv (x ||| low) false))
    ∧ Issues (.yShli n slot f) s n slot (c.gives (znv (x <<< k) false))
    ∧ Issues (.yShri n slot f) s n slot (c.gives (znv (x >>> k) false))
    ∧ Issues (.yShrai n slot f) s n slot (c.gives (znv (BitVec.ofInt 32 (x.toInt / 2 ^ k)) false))
    ∧ Issues (.yCmpi n slot f) s n slot
        (c.gives [(1, .flags 14, zn (x - BitVec.ofInt 32 imm) + if out (x.toInt - imm) then 8 else 0)])
    ∧ Issues (.yAdda n slot f) s n slot (c.gives [(1, .a (d % 8), (c.a.at (d % 8) + BitVec.ofInt 32 imm).toNat)])
    ∧ (yBits f 0 12 ≠ 0 → ∀ i, i ∈ [Instr.yNop, .yAdd, .ySub, .yAnd, .yOr, .yXor, .yShl, .yShr, .yShra, .yAdds, .ySubs, .yCadd,
          .yCsub, .yMin, .yMax, .yMov, .yFadd, .yFsub, .yFmul, .yFmac, .yFrsq, .yFcvtf, .yFcvti, .yFcmp, .yMfs, .yMts, .yMfa, .yMta] →
        Issues (i n slot f) s n slot (c.raises 1 none))

/-- R355, R357, R377 and R382: the binary32 instructions with their latencies and FI, and the moves from and to special, address,
base, length and step registers. The model's choices it rests on: assumption log 63, 64. -/
def Obligations.YakeaFloatsAndMoves : Prop :=
  ∀ (s : State) (n : Fin 4) (slot : YSlot) (f : BitVec 24), s.canIssue n slot → yBits f 0 12 = 0 →
    let c := (s.pairOpen n).core n
    let d := yBits f 20 4
    let x := c.d.at (yBits f 16 4)
    let y := c.d.at (yBits f 12 4)
    let code := yBits f 16 4
    let float := fun (lat : Nat) (r : Word × Bool) => (lat, YDst.d d, r.1.toNat) :: if r.2 then [(lat, YDst.sticky, 2048)] else []
    Issues (.yFadd n slot f) s n slot (c.gives (float 4 (fpAdd x y)))
    ∧ Issues (.yFsub n slot f) s n slot (c.gives (float 4 (fpSub x y)))
    ∧ Issues (.yFmul n slot f) s n slot (c.gives (float 4 (fpMul x y)))
    ∧ Issues (.yFmac n slot f) s n slot (c.gives (float 6
        ((fpAdd (c.d.at d) (fpMul x y).1).1, (fpMul x y).2 || (fpAdd (c.d.at d) (fpMul x y).1).2)))
    ∧ Issues (.yFrsq n slot f) s n slot (c.gives (float 6 (fpRsqrt x)))
    ∧ Issues (.yFcvtf n slot f) s n slot (c.gives [(4, .d d, (fpOfInt x.toInt 0).toNat)])
    ∧ (fpIsNan x = true → Issues (.yFcvti n slot f) s n slot (c.gives [(4, .d d, 0), (4, .sticky, 2048)]))
    ∧ (∀ v : Int, fpToInt x = some v → Issues (.yFcvti n slot f) s n slot (c.gives
        ((4, .d d, unsigned 32 (max (-2 ^ 31) (min (2 ^ 31 - 1) v)))
          :: if v < -2 ^ 31 ∨ 2 ^ 31 ≤ v then [(4, .sticky, 1024)] else [])))
    ∧ (x = 0x7F800000 → Issues (.yFcvti n slot f) s n slot (c.gives [(4, .d d, 0x7FFFFFFF), (4, .sticky, 1024)]))
    ∧ (x = 0xFF800000 → Issues (.yFcvti n slot f) s n slot (c.gives [(4, .d d, 0x80000000), (4, .sticky, 1024)]))
    ∧ Issues (.yFcmp n slot f) s n slot (c.gives [(4, .flags 14, (if fpEqual x y then 2 else 0) + (if fpLess x y then 4 else 0)
        + if fpIsNan x || fpIsNan y then 8 else 0)])
    ∧ Issues (.yMfs n slot f) s n slot (c.gives [(1, .d d,
        if code = 0 then c.sr.toNat
        else if code = 12 then (c.es.at 1).toNat / 2 ^ 32 * 256 + (c.es.at 0).toNat / 2 ^ 32
        else if code = 13 then (c.es.at 3).toNat / 2 ^ 32 * 256 + (c.es.at 2).toNat / 2 ^ 32
        else if code = 14 then (s.pairOpen n).cyclesSince c.resetAt % 2 ^ 32
        else if code = 15 then n.val
        else (c.spec.at code).toNat)])
    ∧ (d ∈ [3, 4, 14, 15] → c.user = false → Issues (.yMts n slot f) s n slot c)
    ∧ (d = 0 → Issues (.yMts n slot f) s n slot { c.gives [(1, .sr c.user, x.toNat)] with wroteSr := true })
    ∧ (d = 5 → c.user = false → Issues (.yMts n slot f) s n slot (c.gives [(1, .spec 5, x.toNat / 64 * 64)]))
    ∧ (d ∈ [1, 2, 6, 7, 8, 9, 10, 11] → c.user = false → Issues (.yMts n slot f) s n slot (c.gives [(1, .spec d, x.toNat)]))
    ∧ (d = 12 → Issues (.yMts n slot f) s n slot (c.gives [(1, .eg 0, x.toNat), (1, .eg 1, x.toNat / 256)]))
    ∧ (d = 13 → Issues (.yMts n slot f) s n slot (c.gives [(1, .eg 2, x.toNat), (1, .eg 3, x.toNat / 256)]))
    ∧ (d ∈ [1, 2, 3, 4, 5] → c.user = true → Issues (.yMts n slot f) s n slot (c.raises 4 none))
    ∧ (d ∈ [6, 7, 8, 9, 10, 11] → c.user = true → c.ownLoops.testBit ((d - 6) / 3) = false →
        Issues (.yMts n slot f) s n slot (c.raises 4 none))
    ∧ (d ∈ [6, 7, 8, 9, 10, 11] → c.user = true → c.ownLoops.testBit ((d - 6) / 3) = true →
        Issues (.yMts n slot f) s n slot (c.gives [(1, .spec d, x.toNat)]))
    ∧ Issues (.yMfa n slot f) s n slot (c.gives [(1, .d d, (([c.a, c.b, c.l, c.n].getD (yBits f 12 4 % 4) []).at (yBits f 16 4 % 8)).toNat)])
    ∧ Issues (.yMta n slot f) s n slot (c.gives [(1,
        ([YDst.a, .b, .l, .n].getD (yBits f 12 4 % 4) YDst.a) (d % 8), x.toNat)])

/-- R356, R357, R360, R361 and R378: the accumulators of format M and the stores of format S: what is added, how it wraps or clamps,
how it is rounded and saturated, and what is ILLEGAL. The model's choices it rests on: assumption log 63, 66. -/
def Obligations.YakeaMacsAndAccumulatorStores : Prop :=
  ∀ (s : State) (n : Fin 4) (slot : YSlot) (f : BitVec 24), s.canIssue n slot →
    let c := (s.pairOpen n).core n
    let e := yBits f 22 2
    let x := c.d.at (yBits f 18 4)
    let y := c.d.at (yBits f 14 4)
    let hh := hiHalf x * hiHalf y
    let ll := loHalf x * loHalf y
    let hl := hiHalf x * loHalf y
    let lh := loHalf x * hiHalf y
    let exact := fun (i : Nat) (v : Int) =>
      (if yBits f 11 1 = 1 then 0 else (c.em.at i).toInt) + (if yBits f 13 1 = 1 then -v else v)
    let acc := fun (i : Nat) (v : Int) =>
      let r := exact i v
      let clamped := max (-(2 ^ 39 - 1)) (min (2 ^ 39 - 1) r)
      let big := if c.srBit 26 then decide (clamped ≠ r) else decide (r < -2 ^ 39 ∨ 2 ^ 39 ≤ r)
      let w := unsigned 40 (if c.srBit 26 then clamped else r)
      [(1, YDst.em i, w), (2, YDst.es i, w)] ++ if big then [(2, YDst.sticky, 512)] else []
    let d := yBits f 18 4
    let v := fun (i : Nat) => accRound c.rnd (c.es.at i).toInt (yBits f 13 5)
    let sat := fun (w : Nat) (v : Int) => max (-2 ^ (w - 1)) (min (2 ^ (w - 1) - 1) v)
    let sticky := fun (b : Bool) => if b then [(2, YDst.sticky, 1024)] else []
    (slot ≠ .slot1 → yBits f 0 11 = 0 → yBits f 12 1 = 0 →
      (e % 2 = 0 → Issues (.yCmac n slot f) s n slot (c.gives (acc e (hh - ll) ++ acc (e + 1) (hl + lh))))
      ∧ (e = 0 → Issues (.yQmac n slot f) s n slot (c.gives (acc 0 hh ++ acc 1 hl ++ acc 2 lh ++ acc 3 ll)))
      ∧ (e % 2 = 0 → Issues (.yDmac n slot f) s n slot (c.gives (acc e hh ++ acc (e + 1) ll)))
      ∧ Issues (.yDot n slot f) s n slot (c.gives (acc e (hh + ll)))
      ∧ Issues (.yEadd n slot f) s n slot (c.gives (acc e (c.em.at (yBits f 14 2)).toInt))
      ∧ Issues (.yEmov n slot f) s n slot (c.gives [(1, .em e, unsigned 40 (if yBits f 13 1 = 1 then -x.toInt else x.toInt)),
          (2, .es e, unsigned 40 (if yBits f 13 1 = 1 then -x.toInt else x.toInt))]))
    ∧ (slot ≠ .slot1 → yBits f 0 11 = 0 → yBits f 12 1 = 1 → e % 2 = 0 →
        Issues (.yCmac n slot f) s n slot (c.gives (acc e (hh + ll) ++ acc (e + 1) (lh - hl))))
    ∧ ((slot = .slot1 ∨ yBits f 0 11 ≠ 0 ∨ yBits f 12 1 = 1) → ∀ i, i ∈ [Instr.yQmac, .yDmac, .yDot, .yEadd, .yEmov] →
        Issues (i n slot f) s n slot (c.raises 1 none))
    ∧ ((slot = .slot1 ∨ yBits f 0 11 ≠ 0 ∨ e % 2 = 1) → ∀ i, i ∈ [Instr.yCmac, .yDmac] → Issues (i n slot f) s n slot (c.raises 1 none))
    ∧ (e ≠ 0 → Issues (.yQmac n slot f) s n slot (c.raises 1 none))
    ∧ (slot ≠ .slot1 → yBits f 0 13 = 0 →
      Issues (.ySaw n slot f) s n slot (c.gives ((2, .d d, unsigned 32 (sat 32 (v e))) :: sticky (decide (sat 32 (v e) ≠ v e))))
      ∧ Issues (.ySahl n slot f) s n slot (c.gives ((2, .dlo d, unsigned 16 (sat 16 (v e))) :: sticky (decide (sat 16 (v e) ≠ v e))))
      ∧ Issues (.ySahh n slot f) s n slot (c.gives ((2, .dhi d, unsigned 16 (sat 16 (v e))) :: sticky (decide (sat 16 (v e) ≠ v e))))
      ∧ (e % 2 = 0 → Issues (.ySac n slot f) s n slot (c.gives
          ((2, .d d, unsigned 16 (sat 16 (v e)) * 65536 + unsigned 16 (sat 16 (v (e + 1))))
            :: sticky (decide (sat 16 (v e) ≠ v e) || decide (sat 16 (v (e + 1)) ≠ v (e + 1))))))
      ∧ (∀ k, k ≤ 40 → (∀ i, i < k → (c.es.at e).getLsbD (39 - i) = (c.es.at e).msb) →
          (k < 40 → (c.es.at e).getLsbD (39 - k) ≠ (c.es.at e).msb) →
          Issues (.yEnorm n slot f) s n slot (c.gives [(2, .d d, unsigned 32 ((k : Int) - 9))]))
      ∧ (yBits f 13 5 = 0 → Issues (.ySar n slot f) s n slot (c.gives [(2, .d d, (c.es.at e).toNat % 2 ^ 32)])))
    ∧ ((slot = .slot1 ∨ yBits f 0 13 ≠ 0) → ∀ i, i ∈ [Instr.ySaw, .ySahl, .ySahh, .ySac, .yEnorm, .ySar] →
        Issues (i n slot f) s n slot (c.raises 1 none))
    ∧ (e % 2 = 1 → Issues (.ySac n slot f) s n slot (c.raises 1 none))
    ∧ (yBits f 13 5 ≠ 0 → Issues (.ySar n slot f) s n slot (c.raises 1 none))
    ∧ (∀ (a : Int) (k : Nat), (accRound 0 a k = a / 2 ^ k) ∧ (0 < k → accRound 1 a k = (a + 2 ^ (k - 1)) / 2 ^ k)
        ∧ 2 * (2 ^ k * accRound 2 a k - a).natAbs ≤ 2 ^ k)

/-- R352, R356, R357, R359, R362 to R365, R372, R378, R380 and R382: the address and the update of Ax of format L, aligned loads and
stores of the core's memories and of its local registers, native accesses, and the exceptions of the others. The latency of a load
outside every memory is free (assumption log 2). The model's choices it rests on: assumption log 2, 6, 63, 64, 66. -/
def Obligations.YakeaLoadsAndStores : Prop :=
  (∀ (s : State) (n : Fin 4) (slot : YSlot) (f : BitVec 24), s.canIssue n slot →
    let u := s.pairOpen n
    let c := u.core n
    let x := yBits f 17 3
    let mod := yBits f 15 2
    let imm := signed 15 (yBits f 0 15)
    let d := yBits f 20 4
    let ea := if mod = 0 then unsigned 32 ((c.a.at x).toNat + imm) else (c.a.at x).toNat
    let post := fun (step : Int) => unsigned 32 (if c.l.at x = 0 then (c.a.at x).toNat + step
      else (c.b.at x).toNat + ((c.a.at x).toNat - (c.b.at x).toNat + step) % (c.l.at x).toNat)
    let modified := fun (m : Nat) => if m = 0 then [] else if m = 1 then [(1, YDst.a x, post (c.n.at x).toInt)]
      else if m = 2 then [(1, .a x, post imm)] else [(1, .a x, c.bitRev x)]
    let up := modified mod
    let far := some (BitVec.ofNat 32 ea)
    let lat := if 0xA00000 ≤ ea ∧ ea < 0xC00000 then 6 else 3
    Issues (.yModa n slot f) s n slot (c.gives (modified (if mod = 0 then 2 else mod)))
    ∧ (ea % 4 ≠ 0 → ∀ i, i ∈ [Instr.yLdw, .yStw, .yLdg, .yStg] → Issues (i n slot f) s n slot (c.raises 2 far))
    ∧ (ea % 2 ≠ 0 → ∀ i, i ∈ [Instr.yLdh, .ySth] → Issues (i n slot f) s n slot (c.raises 2 far))
    ∧ (c.user = true → yUserData ea = false → ea % 4 = 0 → ∀ i, i ∈ [Instr.yLdw, .yLdh, .yStw, .ySth] →
        Issues (i n slot f) s n slot ((c.gives up).raises 4 far))
    ∧ (c.user = true → ea % 4 = 0 → ∀ i, i ∈ [Instr.yLdg, .yStg] → Issues (i n slot f) s n slot ((c.gives up).raises 4 far))
    ∧ (c.user = false → c.global = true → ea % 4 = 0 → ∀ i, i ∈ [Instr.yLdg, .yStg] →
        Issues (i n slot f) s n slot ((c.gives up).raises 1 none))
    ∧ ((c.user = true → yUserData ea = true) →
      (∀ a, yWindow n ea = some a → u.ueWord false a = false →
        (ea % 4 = 0 → Issues (.yLdw n slot f) s n slot (c.gives (up ++ [(lat, .d d, leNat (u.memRead false a 4))])))
        ∧ (ea % 2 = 0 → Issues (.yLdh n slot f) s n slot
            (c.gives (up ++ [(lat, .d d, unsigned 32 (signed 16 (leNat (u.memRead false a 2))))])))
        ∧ (ea % 4 = 0 → Issues (.yStw n slot f) s n slot
            { c.gives up with stores := c.stores ++ [(ea, 4, (c.d.at d).toNat)] })
        ∧ (ea % 2 = 0 → Issues (.ySth n slot f) s n slot
            { c.gives up with stores := c.stores ++ [(ea, 2, (c.d.at d).toNat % 65536)] }))
      ∧ (yWindow n ea = none →
        (ea % 2 = 0 → Issues (.ySth n slot f) s n slot ((c.gives up).raises 3 far))
        ∧ (ea % 4 = 0 → yLocal ea = false → Issues (.yStw n slot f) s n slot ((c.gives up).raises 3 far))
        ∧ (ea % 4 = 0 → yLocal ea = true → Issues (.yStw n slot f) s n slot
            { c.gives up with stores := c.stores ++ [(ea, 4, (c.d.at d).toNat)] })
        ∧ (ea % 4 = 0 → yLocal ea = true → slot = .slot0 →
            let r := yLocalRead (u.updCore n (fun _ => c.gives up)) n (ea - 0xF00000)
            exec (.yLdw n slot f) s = .next (r.1.updCore n (fun k => k.gives [(3, .d d, r.2.toNat)])))
        ∧ (slot = .slot0 → ∃ l, 3 ≤ l ∧ l ≤ 6 ∧
            (ea % 2 = 0 → exec (.yLdh n slot f) s = .next (u.tookFree.updCore n (fun _ => c.gives (up ++ [(l, .abort, ea)]))))
            ∧ (ea % 4 = 0 → yLocal ea = false →
              exec (.yLdw n slot f) s = .next (u.tookFree.updCore n (fun _ => c.gives (up ++ [(l, .abort, ea)])))))))
    ∧ (c.user = false → c.global = false → ea % 4 = 0 → slot = .slot0 →
        let w := u.updCore n (fun _ => { c.gives up with global := true })
        (∃ t r, nativeRead w (w.reqOf (.y n)) ea = (t, r) ∧ exec (.yLdg n slot f) s = .next (t.updCore n (fun k => k.gives
          [match r with
            | .ok v => (1, .d d, v.toNat)
            | _ => (1, .abort, ea)])))
        ∧ (∃ t r, nativeWrite w (w.reqOf (.y n)) ea (c.d.at d) = (t, r) ∧ exec (.yStg n slot f) s = .next (match r with
            | .ok _ => t
            | _ => t.updCore n (fun k => k.raises 3 far)))))
  ∧ (∀ (n : Fin 4) (ea : Nat), (yWindow n ea = none ↔
      ¬((0x40000 ≤ ea ∧ ea < 0xC0000) ∨ (0xA00000 ≤ ea ∧ ea < 0xC00000)))
      ∧ (yLocal ea = true ↔ 0xF00000 ≤ ea ∧ ea < 0xF00020)
      ∧ (yUserData ea = true ↔ (0x10000 ≤ ea ∧ ea < 0x20000) ∨ (0xA0000 ≤ ea ∧ ea < 0xC0000) ∨ (0xB80000 ≤ ea ∧ ea < 0xC00000)))
  ∧ (∀ (m n : Fin 4) (a b w : Nat), yWindow m a = some w → yWindow n b = some w → a = b ∧ (m = n ∨ 0xA00000 ≤ a))
  ∧ (∀ (c : YCore) (x m : Nat), 1 ≤ m → m ≤ 31 → (c.l.at x).toNat = 2 ^ m → ∃ r, r < 2 ^ m
      ∧ c.bitRev x = ((c.b.at x).toNat + r) % 2 ^ 32
      ∧ bitReverse m r = (bitReverse m ((((c.a.at x).toNat : Int) - (c.b.at x).toNat) % 2 ^ m).toNat
          + bitReverse m ((c.n.at x).toNat % 2 ^ m)) % 2 ^ m)
  ∧ (∀ m k i : Nat, (bitReverse m k).testBit i = (decide (i < m) && k.testBit (m - 1 - i)))

/-- R356 to R359 and R366 to R368: the end of a pair: stores are made, the PC moves on past the pair, a delay pair or a loop body,
and the results that are due become visible. The model's choices it rests on: assumption log 63. -/
def Obligations.YakeaPairsEnd : Prop :=
  (∀ (s : State) (n : Nat), (s.core n).opened = true → (s.core n).exc = none → (s.core n).after = .go → (s.core n).badFetch = false →
      (∀ r, r ∈ (s.core n).inflight → r.dst ≠ .abort) → s.yBit Fld.DSP_CTRL_RUN n = true →
    let c := s.core n
    let due := fun (r : YRes) => r.due ≤ c.pair + 1
    let t := endPair s n
    let k := t.core n
    ((c.stores = [] → t = { s with dsp := { s.dsp with cores := t.dsp.cores } } ∧ ∀ m, m ≠ n → t.core m = s.core m)
    ∧ (∀ ea size v a, c.stores = [(ea, size, v)] → yWindow n ea = some a → s.ueWord false a = false → ea % 8 + size ≤ 8 →
        (∀ i, i < size → t.sramByte (a + i) = BitVec.ofNat 8 (v / 256 ^ i))
        ∧ (∀ b, (b < a ∨ a + size ≤ b) → t.sramByte b = s.sramByte b) ∧ t.regs = s.regs ∧ ∀ m, m ≠ n → t.core m = s.core m)
    ∧ ((∀ e, e ∈ c.stores → yLocal e.1 = false) →
      k.pair = c.pair + 1 ∧ k.opened = false ∧ k.stores = [] ∧ k.skip = none ∧ k.global = false
      ∧ k.inflight = c.inflight.filter (fun r => c.pair + 1 < r.due) ∧ k.mbIn = c.mbIn ∧ k.mbOut = c.mbOut
      ∧ (∀ target, c.branch = some (target, 0) → k.pc = target ∧ k.branch = none)
      ∧ (∀ target j, c.branch = some (target, j + 1) → k.pc = (c.pc + 8) % 2 ^ 32 ∧ k.branch = some (target, j))
      ∧ (∀ target, c.branch = none → c.skip = some target → k.pc = target)
      ∧ (c.branch = none → c.skip = none → (∀ r, r ∈ c.inflight → ∀ i, r.dst ≠ .spec i) →
        let ends := fun (v : Nat) => c.pc = c.loopReg v 1 ∧ c.loopReg v 2 ≠ 0
        k.branch = none
        ∧ (ends 1 → 1 < c.loopReg 1 2 → k.pc = c.loopReg 1 0 ∧ k.loopReg 1 2 = c.loopReg 1 2 - 1 ∧ k.loopReg 0 2 = c.loopReg 0 2)
        ∧ (ends 1 → c.loopReg 1 2 = 1 → k.loopReg 1 2 = 0)
        ∧ (¬ends 1 → k.loopReg 1 2 = c.loopReg 1 2)
        ∧ ((ends 1 → c.loopReg 1 2 = 1) →
          (ends 0 → k.loopReg 0 2 = c.loopReg 0 2 - 1 ∧ k.pc = if 1 < c.loopReg 0 2 then c.loopReg 0 0 else (c.pc + 8) % 2 ^ 32)
          ∧ (¬ends 0 → k.loopReg 0 2 = c.loopReg 0 2 ∧ k.pc = (c.pc + 8) % 2 ^ 32)))
      ∧ (∀ l r l' i, c.inflight = l ++ r :: l' → due r → r.dst = .d i →
          (∀ q, q ∈ l' → due q → q.dst ≠ .d i ∧ q.dst ≠ .dlo i ∧ q.dst ≠ .dhi i) → k.d.at i = BitVec.ofNat 32 r.val)
      ∧ (∀ l r l' i, c.inflight = l ++ r :: l' → due r → r.dst = .dlo i → (∀ q, q ∈ l' → due q → q.dst ≠ .d i ∧ q.dst ≠ .dlo i) →
          (k.d.at i).toNat % 65536 = r.val % 65536)
      ∧ (∀ l r l' i, c.inflight = l ++ r :: l' → due r → r.dst = .dhi i → (∀ q, q ∈ l' → due q → q.dst ≠ .d i ∧ q.dst ≠ .dhi i) →
          (k.d.at i).toNat / 65536 = r.val % 65536)
      ∧ (∀ l r l' i, c.inflight = l ++ r :: l' → due r → r.dst = .em i → (∀ q, q ∈ l' → due q → q.dst ≠ .em i ∧ q.dst ≠ .eg i) →
          k.em.at i = BitVec.ofNat 40 r.val)
      ∧ (∀ l r l' i, c.inflight = l ++ r :: l' → due r → r.dst = .es i → (∀ q, q ∈ l' → due q → q.dst ≠ .es i ∧ q.dst ≠ .eg i) →
          k.es.at i = BitVec.ofNat 40 r.val)
      ∧ (∀ l r l' i, c.inflight = l ++ r :: l' → due r → r.dst = .a i → (∀ q, q ∈ l' → due q → q.dst ≠ .a i) →
          k.a.at i = BitVec.ofNat 32 r.val)
      ∧ (∀ l r l' i, c.inflight = l ++ r :: l' → due r → r.dst = .spec i → c.branch ≠ none →
          (∀ q, q ∈ l' → due q → q.dst ≠ .spec i) → k.spec.at i = BitVec.ofNat 32 r.val)
      ∧ (∀ i, (∀ r, r ∈ c.inflight → due r → r.dst ≠ .d i ∧ r.dst ≠ .dlo i ∧ r.dst ≠ .dhi i) → k.d.at i = c.d.at i)
      ∧ (∀ i, (∀ r, r ∈ c.inflight → due r → r.dst ≠ .a i) → k.a.at i = c.a.at i)
      ∧ (∀ r b, r ∈ c.inflight → due r → r.dst = .sticky → b < 32 → r.val.testBit b = true → k.sr.getLsbD b = true)
      ∧ (∀ l r l' m b, c.inflight = l ++ r :: l' → due r → r.dst = .flags m → b < 32 → m.testBit b = true →
          (∀ q, q ∈ l' → due q → (∀ i, q.dst ≠ .flags i) ∧ ∀ i, q.dst ≠ .sr i) →
          (∀ q, q ∈ c.inflight → due q → q.dst = .sticky → q.val.testBit b = false) → k.sr.getLsbD b = r.val.testBit b)
      ∧ ((∀ r, r ∈ c.inflight → due r → r.dst ≠ .sticky ∧ (∀ i, r.dst ≠ .flags i) ∧ ∀ i, r.dst ≠ .sr i) → k.sr = c.sr))))
  ∧ (∀ (old v : Word) (user : Bool),
      (∀ b, b ∈ [9, 10, 11] → (writeSr old v user).getLsbD b = (old.getLsbD b && v.getLsbD b))
      ∧ (∀ b, b ∈ [1, 2, 3, 26, 27, 28] → (writeSr old v user).getLsbD b = v.getLsbD b)
      ∧ (∀ b, b ∈ [29, 30, 31] → (writeSr old v user).getLsbD b = if user then old.getLsbD b else v.getLsbD b)
      ∧ (∀ b, b ∈ [0, 4, 5, 6, 7, 8] ∨ (12 ≤ b ∧ b ≤ 25) → (writeSr old v user).getLsbD b = old.getLsbD b))

/-- R356, R366 to R368, R372, R374, R378 and R382: branches with their conditions and targets, the set-up of loops, TRAP, RTI, WAIT
and SYNC, and what makes format B ILLEGAL. The model's choices it rests on: assumption log 63, 64, 66. -/
def Obligations.YakeaBranchesAndLoops : Prop :=
  (∀ (s : State) (n : Fin 4) (slot : YSlot) (f : BitVec 24), s.canIssue n slot →
    let c := (s.pairOpen n).core n
    let cond := yBits f 20 4
    let target := unsigned 32 (c.pc + 8 * signed 20 (yBits f 0 20))
    let next := (c.pc + 24) % 2 ^ 32
    let v := c.srBit 3
    let neg := c.srBit 2
    let z := c.srBit 1
    let taken := [true, z, !z, neg, !neg, !neg && !z, neg || z, v].getD cond false
    let ls := (c.pc + 8) % 2 ^ 32
    let set := fun (level count len : Nat) (k : YCore) =>
      let le := (ls + 8 * (len - 1)) % 2 ^ 32
      ((3 ≤ len ∧ ¬(level = 1 ∧ c.loopReg 0 2 ≠ 0 ∧ c.loopReg 0 1 < le)) →
        k = { c.gives [(1, .spec (6 + 3 * level), ls), (1, .spec (7 + 3 * level), le), (1, .spec (8 + 3 * level), count)] with
          skip := if count = 0 then some ((le + 8) % 2 ^ 32) else none,
          ownLoops := if c.user then putBit c.ownLoops level true else c.ownLoops })
      ∧ ((len < 3 ∨ (level = 1 ∧ c.loopReg 0 2 ≠ 0 ∧ c.loopReg 0 1 < le)) → k = c.raises 1 none)
    (slot ≠ .slot1 → c.branch = none → c.inTail 3 = false →
      (cond < 8 → Issues (.yBcc n slot f) s n slot { c with branch := some (if taken then target else next, 2) })
      ∧ (cond < 8 → yBits f 0 16 = 0 → Issues (.yJr n slot f) s n slot
          { c with branch := some (if taken then (c.d.at (yBits f 16 4)).toNat / 8 * 8 else next, 2) })
      ∧ (cond = 0 → Issues (.yCall n slot f) s n slot { c.gives [(1, .d 15, next)] with branch := some (target, 2) })
      ∧ (∃ k, Issues (.yLoopi n slot f) s n slot k ∧ set (yBits f 23 1) (yBits f 10 13) (yBits f 0 10) k)
      ∧ (yBits f 10 9 = 0 → ∃ k, Issues (.yLoopr n slot f) s n slot k
          ∧ set (yBits f 23 1) ((c.d.at (yBits f 19 4)).toNat % 65536) (yBits f 0 10) k)
      ∧ (f = 0 → c.user = false → Issues (.yRti n slot f) s n slot { c with after := .rti }
          ∧ Issues (.yWait n slot f) s n slot { c with after := .wait })
      ∧ (f = 0 → c.user = true → Issues (.yRti n slot f) s n slot (c.raises 4 none) ∧ Issues (.yWait n slot f) s n slot (c.raises 4 none))
      ∧ (f = 0 → Issues (.ySync n slot f) s n slot { c with after := .sync })
      ∧ (yBits f 8 16 = 0 → c.exc = none → Issues (.yTrap n slot f) s n slot
          { c with exc := some { cause := 5, code := yBits f 0 8, far := none } }))
    ∧ ((slot = .slot1 ∨ c.branch ≠ none ∨ c.inTail 3 = true) →
        ∀ i, i ∈ [Instr.yBcc, .yCall, .yJr, .yLoopi, .yLoopr, .yRti, .yWait, .yTrap, .ySync] → Issues (i n slot f) s n slot (c.raises 1 none))
    ∧ (8 ≤ cond → ∀ i, i ∈ [Instr.yBcc, .yJr] → Issues (i n slot f) s n slot (c.raises 1 none))
    ∧ (f ≠ 0 → ∀ i, i ∈ [Instr.yRti, .yWait, .ySync] → Issues (i n slot f) s n slot (c.raises 1 none)))
  ∧ (∀ (c : YCore) (k : Nat), c.inTail k = true ↔ ∃ v i, v < 2 ∧ i < k ∧ c.loopReg v 2 ≠ 0 ∧ c.pc + 8 * i = c.loopReg v 1)
  ∧ (∀ (s : State) (n : Fin 4), (s.core n).opened = true → (s.core n).exc = none → (s.core n).stores = [] → (s.core n).badFetch = false →
      (∀ r, r ∈ (s.core n).inflight → r.dst ≠ .abort) → (s.core n).branch = none → (s.core n).skip = none →
      s.yBit Fld.DSP_CTRL_RUN n = true →
    let t := endPair s n
    ((s.core n).after = .sync → (∀ r, r ∈ (s.core n).inflight → r.due ≤ (s.core n).pair + 7) → (t.core n).inflight = [] ∧ t.regs = s.regs)
    ∧ ((s.core n).after = .rti → (s.core n).inflight = [] → (t.core n).pc = ((s.core n).spec.at 1).toNat / 8 * 8
        ∧ (t.core n).sr = (s.core n).spec.at 2 ∧ (t.core n).d = (s.core n).d ∧ (t.core n).branch = none ∧ t.regs = s.regs)
    ∧ ((s.core n).after = .wait → (s.core n).irqSource = none → t.yBit Fld.DSP_STATUS_WAITING n = true
        ∧ (t.core n).opened = false ∧ (∀ m, m ≠ n.val → t.core m = s.core m ∧ t.yBit Fld.DSP_STATUS_WAITING m = s.yBit Fld.DSP_STATUS_WAITING m)
        ∧ SameRegs [Reg.DSP_STATUS] s t)
    ∧ ((s.core n).after = .wait → (s.core n).irqSource ≠ none → (s.core n).inflight = [] → (s.core n).srBit 31 = false →
        t.yBit Fld.DSP_STATUS_WAITING n = false ∧ (t.core n).opened = false))

/-- R369 to R375 and R387: exceptions and interrupts: what entering a handler saves and where it goes, when an interrupt is taken,
which one, the end of WAIT, the timer and the watchdog. The model's choices it rests on: assumption log 7, 65, 66. -/
def Obligations.YakeaExceptionsAndInterrupts : Prop :=
  (∀ (s : State) (n : Fin 4) (e : YExc), (s.core n).opened = true → (s.core n).exc = some e →
      (∀ x, x ∈ (s.core n).stores → yLocal x.1 = false) → (∀ r, r ∈ (s.core n).inflight → r.dst ≠ .abort) →
      s.yBit Fld.DSP_CTRL_RUN n = true →
    let w := endPair (s.updCore n (fun c => { c with exc := none, after := .go })) n
    endPair s n = yHaltAsked (takeExc w n e) n ∧ ((s.core n).badFetch = true → (w.core n).pc = (s.core n).pc))
  ∧ (∀ (s : State) (n : Fin 4) (e : YExc), (∀ r, r ∈ (s.core n).inflight → r.dst ≠ .abort) →
    let c := (s.core n).drain
    let t := takeExc s n e
    let k := t.core n
    ((s.core n).srBit 29 = false → (k.pc = (c.spec.at 5).toNat / 64 * 64 ∧ k.srBit 31 = false ∧ k.srBit 30 = false ∧ k.srBit 29 = true
        ∧ k.branch = none ∧ k.spec.at 1 = BitVec.ofNat 32 (s.core n).pc ∧ k.spec.at 2 = c.sr
        ∧ (∀ b, b < 29 → k.srBit b = c.srBit b) ∧ k.d = c.d
        ∧ k.spec.at 3 = BitVec.ofNat 32 (e.cause * 2 ^ 28 + e.code * 2 ^ 16)
        ∧ (∀ a, e.far = some a → k.spec.at 4 = a ∧ t.rd (Reg.DSP_Y_FAR n) = a)
        ∧ t.fld (Fld.DSP_Y_FAULT_CAUSE n) = e.cause % 16
        ∧ (e.cause = 5 → t.fld (Fld.DSP_Y_FAULT_CODE n) = e.code % 256
            ∧ t.fld (Fld.DSP_Y_FAULT_EXC_CNT n) = s.fld (Fld.DSP_Y_FAULT_EXC_CNT n))
        ∧ (e.cause ≠ 5 → t.fld (Fld.DSP_Y_FAULT_EXC_CNT n) = min (s.fld (Fld.DSP_Y_FAULT_EXC_CNT n) + 1) 65535)
        ∧ (∀ m, m ≠ n.val → t.core m = s.core m) ∧ SameRegs [Reg.DSP_Y_FAULT n, Reg.DSP_Y_FAR n] s t ∧ t.mem = s.mem)
      ∧ (c.user = true → k.kernel = none) ∧ (c.user = false → k.kernel = c.kernel))
    ∧ ((s.core n).srBit 29 = true → ∃ u, t = reportFault u 0x40 n ∧ u.yBit Fld.DSP_STATUS_HALTED n = true
        ∧ u.yBit Fld.DSP_STATUS_FAULTED n = true ∧ (u.core n).spec.at 1 = (s.core n).spec.at 1 ∧ (u.core n).pc = (s.core n).pc
        ∧ u.fld (Fld.DSP_Y_FAULT_CAUSE n) = e.cause % 16 ∧ SameRegs [Reg.DSP_Y_FAULT n, Reg.DSP_Y_FAR n, Reg.DSP_STATUS] s u))
  ∧ (∀ (s : State) (n : Fin 4) (src : Nat), src < 8 → (s.core n).pend.testBit src = true → (s.core n).irqEn.testBit src = true →
      (∀ i, i < src → ¬((s.core n).pend.testBit i = true ∧ (s.core n).irqEn.testBit i = true)) →
      (s.core n).srBit 31 = true → (s.core n).srBit 29 = false → (∀ r, r ∈ (s.core n).inflight → r.dst ≠ .abort) →
    let c := (s.core n).drain
    let taken := fun (t : State) =>
      (t.core n).pc = ((c.spec.at 5).toNat / 64 * 64 + 0x40 * (src + 1)) % 2 ^ 32 ∧ (t.core n).spec.at 1 = BitVec.ofNat 32 (s.core n).pc
      ∧ (t.core n).spec.at 2 = c.sr ∧ (∀ b, b < 29 → (t.core n).srBit b = c.srBit b) ∧ (t.core n).srBit 31 = false
      ∧ (t.core n).srBit 30 = false ∧ (t.core n).srBit 29 = true ∧ (t.core n).d = c.d ∧ (t.core n).irqPend = (s.core n).irqPend
      ∧ ∀ m, m ≠ n.val → t.core m = s.core m
    (s.yIssues n = true → (s.core n).boundary = true →
      Completes (.yInterruptEntry n) s fun t => taken t ∧ t = { s with dsp := t.dsp })
    ∧ (s.yBit Fld.DSP_STATUS_WAITING n = true → s.yBit Fld.DSP_STATUS_HALTED n = false →
      Completes (.yWaitWake n) s fun t => taken t ∧ t.yBit Fld.DSP_STATUS_WAITING n = false ∧ SameRegs [Reg.DSP_STATUS] s t))
  ∧ (∀ (s : State) (n : Fin 4), ((s.core n).srBit 31 = false ∨ (s.core n).srBit 29 = true ∨ (s.core n).boundary = false
      ∨ (∀ i, i < 8 → ¬((s.core n).pend.testBit i = true ∧ (s.core n).irqEn.testBit i = true))) →
    exec (.yInterruptEntry n) s = .next s)
  ∧ (∀ (s : State) (n : Fin 4), s.yBit Fld.DSP_STATUS_WAITING n = true → s.yBit Fld.DSP_STATUS_HALTED n = false →
      (s.core n).irqSource ≠ none → (s.core n).srBit 31 = false → Completes (.yWaitWake n) s fun t =>
      t.yBit Fld.DSP_STATUS_WAITING n = false ∧ t.dsp = s.dsp ∧ OnlyRegs [Reg.DSP_STATUS] s t)
  ∧ (∀ (c : YCore) (i : Nat), c.pend.testBit i = if i = 0 then !c.mbIn.isEmpty else if i = 1 then decide (c.mbOut.length < 8)
      else decide (i < 8) && c.irqPend.testBit i)
  ∧ (∀ (s : State) (n : Fin 4), (s.core n).timerOn = true → (s.core n).timer ≤ (s.time.now - (s.core n).timerFrom) * 5 / 4 →
    Completes (.yTimerZero n) s fun t => (t.core n).timerOn = false ∧ (t.core n).irqPend.testBit 4 = true
      ∧ (∀ i, i ≠ 4 → (t.core n).irqPend.testBit i = (s.core n).irqPend.testBit i) ∧ (∀ m, m ≠ n.val → t.core m = s.core m)
      ∧ t = { s with dsp := t.dsp })
  ∧ (∀ (s : State) (n : Fin 4), s.fld (Fld.DSP_Y_WDOG_TIMEOUT n) ≠ 0 → (s.core n).kernel = none → s.yBit Fld.DSP_STATUS_HALTED n = false →
    (s.fld (Fld.DSP_Y_WDOG_TIMEOUT n) * 800000 ≤ 2 * (s.time.now - (s.core n).wdogFrom) → (s.core n).wdogHalf = false →
      Completes (.yWatchdogHalf n) s fun t => (t.core n).irqPend.testBit 7 = true ∧ (t.core n).wdogHalf = true
        ∧ (∀ i, i ≠ 7 → (t.core n).irqPend.testBit i = (s.core n).irqPend.testBit i) ∧ t = { s with dsp := t.dsp })
    ∧ (s.fld (Fld.DSP_Y_WDOG_TIMEOUT n) * 800000 ≤ s.time.now - (s.core n).wdogFrom →
      ∃ u, exec (.yWatchdogExpire n) s = .next (reportFault u 0x41 n) ∧ u.yBit Fld.DSP_STATUS_HALTED n = true
        ∧ u.yBit Fld.DSP_STATUS_FAULTED n = true ∧ u.yBit Fld.DSP_STATUS_WAITING n = false ∧ OnlyRegs [Reg.DSP_STATUS] s u))
  ∧ (∀ (s : State) (n : Fin 4), (s.fld (Fld.DSP_Y_WDOG_TIMEOUT n) = 0 ∨ (s.core n).kernel ≠ none) →
      exec (.yWatchdogHalf n) s = .next s ∧ exec (.yWatchdogExpire n) s = .next s)
  ∧ (∀ (s : State) (n : Fin 4), Completes (.yWdogKick n) s fun t =>
      (t.core n).wdogFrom = s.time.now ∧ (t.core n).wdogHalf = false ∧ (∀ m, m ≠ n.val → t.core m = s.core m) ∧ t = { s with dsp := t.dsp })

/-- R355, R379 and R383 to R387: the mailboxes, the local registers and doorbells, user kernels with their answers, and the reset
and run bits. Where an aborted kernel's firmware goes on is a free value (assumption log 2). The model's choices it rests on:
assumption log 2, 65, 66. -/
def Obligations.YakeaMailboxesKernelsAndReset : Prop :=
  (∀ (s : State) (n : Fin 4) (w : Word),
    ((s.core n).mbIn.length < 8 → Completes (.yMbHostPush n w) s fun t => (t.core n).mbIn = (s.core n).mbIn ++ [w]
        ∧ (∀ m, m ≠ n.val → t.core m = s.core m) ∧ t = { s with dsp := t.dsp })
    ∧ (8 ≤ (s.core n).mbIn.length → Completes (.yMbHostPush n w) s fun t =>
        t.fld (Fld.DSP_Y_MBSTAT_MBI_OVF n) = 1 ∧ OnlyRegs [Reg.DSP_Y_MBSTAT n] s t)
    ∧ ((s.core n).mbOut.length < 8 → Completes (.yMbCorePush n w) s fun t => (t.core n).mbOut = (s.core n).mbOut ++ [w]
        ∧ (t.core n).outOvf = (s.core n).outOvf ∧ (∀ m, m ≠ n.val → t.core m = s.core m) ∧ t = { s with dsp := t.dsp })
    ∧ (8 ≤ (s.core n).mbOut.length → Completes (.yMbCorePush n w) s fun t => (t.core n).mbOut = (s.core n).mbOut
        ∧ (t.core n).outOvf = true ∧ t = { s with dsp := t.dsp }))
  ∧ (∀ (s : State) (n : Fin 4) (path : Path) (w : Word) (l : List Word),
    ((s.core n).mbOut = w :: l → Completes (.yMbHostPop path n) s fun t => (t.core n).mbOut = l ∧ (∀ m, m ≠ n.val → t.core m = s.core m)
        ∧ t.out = .read (pathCode path) (Reg.DSP_Y_MBO n) (some w.toNat) :: s.out ∧ t.regs = s.regs)
    ∧ ((s.core n).mbOut = [] → Completes (.yMbHostPop path n) s fun t => t.fld (Fld.DSP_Y_MBSTAT_MBO_UNF n) = 1 ∧ t.dsp = s.dsp
        ∧ t.out = .read (pathCode path) (Reg.DSP_Y_MBO n) (some 0) :: s.out ∧ SameRegs [Reg.DSP_Y_MBSTAT n] s t)
    ∧ (∀ d, (s.core n).mbIn = w :: l → Completes (.yMbCorePop n d) s fun t => (t.core n).mbIn = l
        ∧ (t.core n).inflight = (s.core n).inflight ++ [{ due := (s.core n).pair + 3, dst := .d d, val := w.toNat }] ∧ t = { s with dsp := t.dsp })
    ∧ (∀ d, (s.core n).mbIn = [] → Completes (.yMbCorePop n d) s fun t => (t.core n).inUnf = true
        ∧ (t.core n).inflight = (s.core n).inflight ++ [{ due := (s.core n).pair + 3, dst := .d d, val := 0 }] ∧ t = { s with dsp := t.dsp }))
  ∧ (∀ (s : State) (n : Fin 4) (target : Fin 16), Completes (.yDoorbell n target) s fun t =>
      t.core n = s.core n ∧ (∀ m, m < 4 → m ≠ n.val → target.val.testBit m = true → t.core m = { s.core m with irqPend := putBit (s.core m).irqPend 5 true })
      ∧ (∀ m, target.val.testBit m = false → t.core m = s.core m) ∧ t = { s with dsp := t.dsp })
  ∧ (∀ (s : State) (n : Fin 4), s.yIssues n = true → (s.core n).opened = false → (s.core n).kernel = none → s.on Fld.DSP_STATUS_FW_OK = true →
    ∀ (cmd : Word) (args : List Word), (s.core n).callWords ++ (s.core n).mbIn = cmd :: args →
    let k := fieldOf 24 4 cmd
    let answer := fun (status : Nat) (words : List Word) (c : YCore) =>
      (s.core n).mbOut.length + words.length < 8 →
        c.mbOut = (s.core n).mbOut ++ BitVec.ofNat 32 (9 * 2 ^ 28 + words.length * 2 ^ 24 + status) :: words
    ((fieldOf 28 4 cmd ≠ 8 ∨ 6 < k) → Completes (.yKernelCall n) s fun t => (t.core n).mbIn = [] ∧ (t.core n).callWords = []
        ∧ answer 4 [] (t.core n) ∧ (t.core n).kernel = none ∧ t = { s with dsp := t.dsp })
    ∧ (fieldOf 28 4 cmd = 8 → k ≤ 6 → args.length < k → Completes (.yKernelCall n) s fun t =>
        (t.core n).mbIn = [] ∧ (t.core n).callWords = cmd :: args ∧ (t.core n).mbOut = (s.core n).mbOut ∧ t = { s with dsp := t.dsp })
    ∧ (fieldOf 28 4 cmd = 8 → k ≤ 6 → k ≤ args.length →
      (s.kernelAt n (fieldOf 0 8 cmd) = none ∨ s.fld (Fld.DSP_Y_KCFG_BUDGET n) = 0) → Completes (.yKernelCall n) s fun t =>
        (t.core n).mbIn = args.drop k ∧ answer 1 [] (t.core n) ∧ (t.core n).kernel = none ∧ t = { s with dsp := t.dsp })
    ∧ (∀ l, fieldOf 28 4 cmd = 8 → k ≤ 6 → k ≤ args.length → s.kernelAt n (fieldOf 0 8 cmd) = some l →
        s.fld (Fld.DSP_Y_KCFG_BUDGET n) ≠ 0 → (s.core n).inflight = [] → Completes (.yKernelCall n) s fun t =>
        (t.core n).mbIn = args.drop k ∧ (t.core n).pc = l.entry ∧ (t.core n).user = true ∧ (t.core n).kernel = some { id := l.id, since := s.time.now }
        ∧ (∀ i w, (args.take k)[i]? = some w → (t.core n).d.at i = w) ∧ (∀ i, k ≤ i → (t.core n).d.at i = (s.core n).d.at i)
        ∧ t.fld (Fld.DSP_Y_CNT_KCALLS n) = min (s.fld (Fld.DSP_Y_CNT_KCALLS n) + 1) 65535 ∧ (∀ m, m ≠ n.val → t.core m = s.core m)
        ∧ SameRegs [Reg.DSP_Y_CNT n] s t))
  ∧ (∀ (s : State) (n : Fin 4) (k : YKernel), (s.core n).kernel = some k →
      s.fld (Fld.DSP_Y_KCFG_BUDGET n) * 8000 < s.time.now - k.since → Completes (.yKernelBudget n) s fun t =>
      (t.core n).kernel = none ∧ (t.core n).user = false ∧ t.fld (Fld.DSP_Y_CNT_KABORT n) = min (s.fld (Fld.DSP_Y_CNT_KABORT n) + 1) 65535
      ∧ ((s.core n).mbOut.length < 8 → (t.core n).mbOut = (s.core n).mbOut ++ [0x90000002]) ∧ (∀ m, m ≠ n.val → t.core m = s.core m)
      ∧ SameRegs [Reg.DSP_Y_CNT n] s t)
  ∧ (∀ (s : State) (n : Fin 4) (j : Nat), (s.core n).kernel ≠ none → (s.core n).spec.at 3 = 0x50000000 → ((s.core n).d.at 15).toNat % 8 = j →
      (s.core n).mbOut = [] →
      ((kernelException s n).core n).kernel = none
      ∧ (j = 7 → ((kernelException s n).core n).mbOut = [0x90000005])
      ∧ (j ≠ 7 → ((kernelException s n).core n).mbOut
          = BitVec.ofNat 32 (0x90000000 + j * 2 ^ 24) :: (List.range j).map (fun i => (s.core n).d.at i)))
  ∧ (∀ (s : State) (n : Fin 4), Completes (.dspCoreReset n) s fun t =>
      (t.core n).pc = 0 ∧ (t.core n).sr = 0x08000000 ∧ (t.core n).loopReg 0 2 = 0 ∧ (t.core n).loopReg 1 2 = 0 ∧ (t.core n).inflight = []
      ∧ t.yBit Fld.DSP_STATUS_HALTED n = true ∧ t.yBit Fld.DSP_STATUS_FAULTED n = false ∧ t.yBit Fld.DSP_STATUS_WAITING n = false
      ∧ (∀ m, m ≠ n.val → t.core m = s.core m ∧ t.yBit Fld.DSP_STATUS_HALTED m = s.yBit Fld.DSP_STATUS_HALTED m
        ∧ t.yBit Fld.DSP_STATUS_FAULTED m = s.yBit Fld.DSP_STATUS_FAULTED m)
      ∧ SameRegs [Reg.DSP_STATUS, Reg.DSP_CTRL] s t ∧ t.mem = s.mem)
  ∧ (∀ (s : State) (run : Fin 16), Completes (.dspRunWrite run) s fun t =>
      (∀ n, n < 4 → t.yBit Fld.DSP_CTRL_RUN n = run.val.testBit n)
      ∧ (∀ n, n < 4 → run.val.testBit n = true → s.yBit Fld.DSP_CTRL_RUN n = false → s.yBit Fld.DSP_STATUS_FAULTED n = false →
          t.yBit Fld.DSP_STATUS_HALTED n = false ∧ (t.core n).pc = (s.core n).pc)
      ∧ (∀ n, n < 4 → run.val.testBit n = false → (s.core n).boundary = true → s.yBit Fld.DSP_CTRL_RUN n = true →
          t.yBit Fld.DSP_STATUS_HALTED n = true ∧ t.core n = s.core n)
      ∧ SameRegs [Reg.DSP_STATUS, Reg.DSP_CTRL] s t ∧ t.mem = s.mem)
/-! ### The clause engines -/

/-- R390 to R393, R398 and R399: each instruction of a running engine: its register, its flags and its PC, loads and stores of its
data memory and of the native map, and what abandons the clause. The model's choices it rests on: assumption log 2, 67. -/
def Obligations.ClauseInstructionsRun : Prop :=
  (∀ (s : State) (e : Fin 4) (f : BitVec 28), s.ceRun e = 2 → (s.ceUser e = true → ceUserCode (s.ce e).pc = true) →
    let c := s.ce e
    let d := ceBits f 25 3
    let x := c.reg (ceBits f 22 3)
    let y := c.reg (ceBits f 19 3)
    let imm := BitVec.ofInt 32 (signed 22 (ceBits f 0 22))
    let a := (x + imm).toNat
    let k := signed 6 (ceBits f 0 6)
    let goes := fun (i : Instr) (g : CeState) => exec i s = .next (s.updCe e (fun _ => { g with pc := (c.pc + 1) % 4096 }))
    let jumps := fun (i : Instr) (g : CeState) (target : Nat) =>
      exec i s = .next (if s.ceUser e = true ∧ ceUserCode target = false then ceAbandon s e 4 else s.updCe e (fun _ => { g with pc := target }))
    let res := fun (w : Word) => { c.setReg d w with z := decide (w = 0), n := decide (w.toInt < 0) }
    goes (.ceLdi e f) (c.setReg d (BitVec.ofInt 32 (signed 25 (ceBits f 0 25))))
    ∧ goes (.ceAddi e f) (res (x + imm))
    ∧ (ceBits f 16 9 = 0 → goes (.ceLui e f) (c.setReg d
        (BitVec.ofNat 32 ((c.reg d).toNat % 65536 + ceBits f 0 16 * 65536))))
    ∧ (ceBits f 0 19 = 0 → goes (.ceAdd e f) (res (x + y)) ∧ goes (.ceSub e f) (res (x - y)) ∧ goes (.ceAnd e f) (res (x &&& y))
        ∧ goes (.ceOr e f) (res (x ||| y)))
    ∧ (ceBits f 6 16 = 0 → (0 ≤ k → goes (.ceShf e f) (res (x <<< k.toNat))) ∧ (k < 0 → goes (.ceShf e f) (res (x >>> (-k).toNat))))
    ∧ (ceBits f 12 13 = 0 → ceBits f 25 3 < 7 →
      let holds := [true, c.z, !c.z, c.n, !c.n, c.tmo, c.be].getD (ceBits f 25 3) false
      (holds = true → jumps (.ceBr e f) c (ceBits f 0 12)) ∧ (holds = false → goes (.ceBr e f) c))
    ∧ (ceBits f 12 16 = 0 → jumps (.ceCall e f) (c.setReg 7 (BitVec.ofNat 32 ((c.pc + 1) % 4096))) (ceBits f 0 12))
    ∧ (ceBits f 25 3 = 0 → ceBits f 0 22 = 0 → jumps (.ceJmp e f) c (x.toNat % 4096))
    ∧ (a % 4 = 0 → a < 0x1000 → (s.ceUser e = true → 0xC00 ≤ a) →
        goes (.ceLd e f) { c.setReg d (c.data.at (a / 4)) with be := false }
        ∧ goes (.ceSt e f) { c with data := c.data.put (a / 4) (c.reg d), be := false })
    ∧ (a % 4 = 0 → 0x01000000 ≤ a →
      (∀ t v, nativeRead s (s.reqOf (.ce e)) a = (t, .ok v) → t.ceRun e = 2 → exec (.ceLd e f) s
        = .next (t.updCe e (fun g => { g.setReg d v with be := false, pc := (g.pc + 1) % 4096 })))
      ∧ (∀ t, nativeRead s (s.reqOf (.ce e)) a = (t, .bus) → t.ceRun e = 2 → exec (.ceLd e f) s
        = .next (t.updCe e (fun g => { g.setReg d 0xFFFFFFFF with be := true, pc := (g.pc + 1) % 4096 })))
      ∧ (∀ t v, nativeWrite s (s.reqOf (.ce e)) a (c.reg d) = (t, .ok v) → t.ceRun e = 2 → exec (.ceSt e f) s
        = .next (t.updCe e (fun g => { g with be := false, pc := (g.pc + 1) % 4096 })))
      ∧ (∀ t, nativeWrite s (s.reqOf (.ce e)) a (c.reg d) = (t, .bus) → t.ceRun e = 2 → exec (.ceSt e f) s
        = .next (t.updCe e (fun g => { g with be := true, pc := (g.pc + 1) % 4096 }))))
    ∧ (∀ i, i ∈ [Instr.ceLd e f, .ceSt e f] → (a % 4 ≠ 0 → exec i s = .next (ceAbandon s e 2))
        ∧ (a % 4 = 0 → 0x1000 ≤ a → a < 0x01000000 → exec i s = .next (ceAbandon s e 3))
        ∧ (a % 4 = 0 → a < 0xC00 → s.ceUser e = true → exec i s = .next (ceAbandon s e 4)))
    ∧ (ceBits f 0 19 ≠ 0 → ∀ i, i ∈ [Instr.ceAdd e f, .ceSub e f, .ceAnd e f, .ceOr e f] → exec i s = .next (ceAbandon s e 1))
    ∧ (ceBits f 16 9 ≠ 0 → exec (.ceLui e f) s = .next (ceAbandon s e 1))
    ∧ (ceBits f 6 16 ≠ 0 → exec (.ceShf e f) s = .next (ceAbandon s e 1))
    ∧ ((ceBits f 12 13 ≠ 0 ∨ ceBits f 25 3 = 7) → exec (.ceBr e f) s = .next (ceAbandon s e 1))
    ∧ (ceBits f 12 16 ≠ 0 → exec (.ceCall e f) s = .next (ceAbandon s e 1))
    ∧ ((ceBits f 25 3 ≠ 0 ∨ ceBits f 0 22 ≠ 0) → exec (.ceJmp e f) s = .next (ceAbandon s e 1)))
  ∧ (∀ (c : CeState) (i j : Nat) (v : Word), (c.setReg i v).reg j = if j = i ∧ i ≠ 0 then v else c.reg j)
  ∧ (∀ c : CeState, c.reg 0 = 0)
  ∧ (∀ (s : State) (e : Fin 4) (f : BitVec 28), s.ceRun e = 2 → s.ceUser e = true → ceUserCode (s.ce e).pc = false →
      ∀ i, i ∈ [Instr.ceLdi, .ceAdd, .ceBr, .ceLd, .ceSt, .ceWaite] → exec (i e f) s = .next (ceAbandon s e 4))
  ∧ (∀ (s : State) (e cause : Nat), e < 4 → cause < 16 → ∃ u, ceAbandon s e cause = reportFault u 0x42 e
      ∧ u.fld (Fld.CLS_CE_FAULT_CAUSE e) = cause ∧ u.fld (Fld.CLS_CE_FAULT_SLOT e) = s.ceSlot e
      ∧ u.fld (Fld.CLS_CE_FAULT_PC e) = (s.ce e).pc % 4096 ∧ u.ceRun e = 1 ∧ (u.ce e).waite = none
      ∧ u.fld (Fld.CLS_CE_CNT1_ABORTS e) = min (s.fld (Fld.CLS_CE_CNT1_ABORTS e) + 1) 65535
      ∧ (u.ce e).g = (s.ce e).g ∧ (∀ j, j ≠ e → u.ce j = s.ce j)
      ∧ SameRegs [Reg.CLS_CE_FAULT e, Reg.CLS_CE_CNT1 e, Reg.CLS_CE_STAT e] s u)

/-- R388 and R394 to R401 and R501: event lines latch and merge, WAITE ends on an event or its timeout with the event first, the
dispatcher starts the lowest slot, WAIT ends a clause, SIG acts, and an engine's limits and reset. The model's choices it rests on:
assumption log 2, 7, 67. -/
def Obligations.ClauseEventsWaitsAndLimits : Prop :=
  (∀ (s : State) (e line : Nat), e < 4 → line < 32 →
      let t := s.ceEvent e line
      (t.fld (Fld.CLS_CE_EVPEND_PEND e)).testBit line = true
      ∧ (∀ i, i ≠ line → (t.fld (Fld.CLS_CE_EVPEND_PEND e)).testBit i = (s.fld (Fld.CLS_CE_EVPEND_PEND e)).testBit i)
      ∧ t.fld (Fld.CLS_CE_CNT1_EV_MERGE e) = (if (s.fld (Fld.CLS_CE_EVPEND_PEND e)).testBit line = true
          then min (s.fld (Fld.CLS_CE_CNT1_EV_MERGE e) + 1) 65535 else s.fld (Fld.CLS_CE_CNT1_EV_MERGE e))
      ∧ OnlyRegs [Reg.CLS_CE_EVPEND e, Reg.CLS_CE_CNT1 e] s t)
  ∧ (∀ (s : State) (e : Fin 4) (line : Fin 32), (ceListed e line = true → exec (.ceEventArrive e line) s = .next (s.ceEvent e line))
      ∧ (ceListed e line = false → exec (.ceEventArrive e line) s = .next s)
      ∧ (ceListed e line = false ↔ (e.val = 0 ∧ line.val ∈ [14, 15]) ∨ (e.val = 1 ∧ line.val ∈ [12, 13, 14, 15])
          ∨ (e.val = 2 ∧ line.val ∈ [13, 14, 15]) ∨ (e.val = 3 ∧ line.val ∈ [12, 13, 14, 15])))
  ∧ (∀ (s : State) (e : Fin 4) (mask : Byte), Completes (.ceEvset e mask) s fun t =>
      (∀ i, i < 32 → (t.fld (Fld.CLS_CE_EVPEND_PEND e)).testBit i
        = ((s.fld (Fld.CLS_CE_EVPEND_PEND e)).testBit i || mask.toNat.testBit i))
      ∧ OnlyRegs [Reg.CLS_CE_EVPEND e, Reg.CLS_CE_CNT1 e] s t)
  ∧ (∀ (s : State) (e target : Fin 4) (code : Half), s.ceRun e = 2 → (s.ceUser e = true → ceUserCode (s.ce e).pc = true) →
      let after := fun (u : State) => u.updCe e (fun g => { g with pc := (g.pc + 1) % 4096 })
      exec (.ceSigEvent e target 0 code) s = .next (after (s.ceEvent target (code.toNat % 8)))
      ∧ exec (.ceSigIrq e target 0 code) s = .next (after (s.latchIrq target 6))
      ∧ (s.ceUser e = false → exec (.ceSigFault e target 0 code) s = .next (after (reportFault s (code.toNat / 256) (code.toNat % 256))))
      ∧ (s.ceUser e = true → exec (.ceSigFault e target 0 code) s = .next (ceAbandon s e 4))
      ∧ (Completes (.ceSigMsg e target 0 code) s fun t => t.fld (Fld.CLS_CE_STAT_MSG e) = code.toNat % 4096
          ∧ (t.ce e).pc = ((s.ce e).pc + 1) % 4096 ∧ t.ceRun e = s.ceRun e ∧ SameRegs [Reg.CLS_CE_STAT e] s t)
      ∧ (∀ zero : Byte, zero ≠ 0 → ∀ i, i ∈ [Instr.ceSigEvent, .ceSigIrq, .ceSigMsg] → exec (i e target zero code) s = .next (ceAbandon s e 1)))
  ∧ (∀ (s : State) (e : Fin 4) (f : BitVec 28), s.ceRun e = 2 → (s.ceUser e = true → ceUserCode (s.ce e).pc = true) →
      let mask := (s.ce e).reg (ceBits f 22 3)
      let count := ceBits f 0 20
      let unit := ceBits f 20 2
      (mask = 0 → count = 0 → exec (.ceWaite e f) s = .next (ceAbandon s e 6))
      ∧ (∀ line, line < 32 → mask.getLsbD line = true → (s.fld (Fld.CLS_CE_EVPEND_PEND e)).testBit line = true →
          (∀ i, i < line → ¬(mask.getLsbD i = true ∧ (s.fld (Fld.CLS_CE_EVPEND_PEND e)).testBit i = true)) →
        Completes (.ceWaite e f) s fun t => (t.ce e).reg (ceBits f 25 3) = (if ceBits f 25 3 = 0 then 0 else BitVec.ofNat 32 line)
          ∧ (t.ce e).tmo = false ∧ (t.ce e).waite = none ∧ (t.ce e).pc = ((s.ce e).pc + 1) % 4096 ∧ t.ceRun e = 2
          ∧ (∀ i, (t.fld (Fld.CLS_CE_EVPEND_PEND e)).testBit i = (decide (i ≠ line) && (s.fld (Fld.CLS_CE_EVPEND_PEND e)).testBit i))
          ∧ SameRegs [Reg.CLS_CE_EVPEND e] s t)
      ∧ ((mask ≠ 0 ∨ count ≠ 0) → (∀ i, i < 32 → ¬(mask.getLsbD i = true ∧ (s.fld (Fld.CLS_CE_EVPEND_PEND e)).testBit i = true)) →
        Completes (.ceWaite e f) s fun t => t.ceRun e = 3 ∧ (t.ce e).pc = ((s.ce e).pc + 1) % 4096
          ∧ (∃ w, (t.ce e).waite = some w ∧ w.mask = mask ∧ w.dest = ceBits f 25 3 ∧ (count = 0 → w.deadline = none)
            ∧ (count ≠ 0 → ∃ k, w.deadline = some (s.time.now + k) ∧ (unit = 1 → k = count * 800) ∧ (unit = 2 → k = count * 800000)
              ∧ (unit = 3 → k = count * 800000000)
              ∧ (unit = 0 → if e.val = 0 then count * 125 ≤ 6 * k ∧ 6 * k < count * 125 + 6 else count * 8 ≤ 5 * k ∧ 5 * k < count * 8 + 5)))
          ∧ SameRegs [Reg.CLS_CE_STAT e] s t))
  ∧ (∀ (s : State) (e : Fin 4) (w : WaiteState), s.ceRun e = 3 → (s.ce e).waite = some w →
      (∀ line, line < 32 → w.mask.getLsbD line = true → (s.fld (Fld.CLS_CE_EVPEND_PEND e)).testBit line = true →
          (∀ i, i < line → ¬(w.mask.getLsbD i = true ∧ (s.fld (Fld.CLS_CE_EVPEND_PEND e)).testBit i = true)) →
        (Completes (.ceWaiteEvent e) s fun t => t.ceRun e = 2 ∧ (t.ce e).reg w.dest = (if w.dest = 0 then 0 else BitVec.ofNat 32 line)
          ∧ (t.ce e).tmo = false ∧ (t.ce e).waite = none
          ∧ (∀ i, (t.fld (Fld.CLS_CE_EVPEND_PEND e)).testBit i = (decide (i ≠ line) && (s.fld (Fld.CLS_CE_EVPEND_PEND e)).testBit i))
          ∧ SameRegs [Reg.CLS_CE_EVPEND e, Reg.CLS_CE_STAT e] s t)
        ∧ exec (.ceWaiteTimeout e) s = .next s)
      ∧ (∀ k, w.deadline = some k → k ≤ s.time.now →
          (∀ i, i < 32 → ¬(w.mask.getLsbD i = true ∧ (s.fld (Fld.CLS_CE_EVPEND_PEND e)).testBit i = true)) →
        Completes (.ceWaiteTimeout e) s fun t => t.ceRun e = 2 ∧ (t.ce e).tmo = true ∧ (t.ce e).waite = none
          ∧ (t.ce e).reg w.dest = (if w.dest = 0 then 0 else 0xFFFFFFFF)
          ∧ t.fld (Fld.CLS_CE_CNT0_TIMEOUTS e) = min (s.fld (Fld.CLS_CE_CNT0_TIMEOUTS e) + 1) 65535
          ∧ SameRegs [Reg.CLS_CE_CNT0 e, Reg.CLS_CE_STAT e] s t))
  ∧ (∀ (s : State) (e : Fin 4), s.ceRun e = 2 → (s.ceUser e = true → ceUserCode (s.ce e).pc = true) →
      (Completes (.ceWait e 0) s fun t => t.ceRun e = 1 ∧ (t.ce e).g = (s.ce e).g ∧ (t.ce e).pc = ((s.ce e).pc + 1) % 4096
        ∧ SameRegs [Reg.CLS_CE_STAT e] s t)
      ∧ (e ≠ 0 → exec (.ceWaitPower e 0) s = .next (ceAbandon s e 6))
      ∧ (e = 0 → ∃ u, exec (.ceWaitPower e 0) s = .next (powerOff u) ∧ u.ceRun 0 = 1 ∧ u.pws = s.pws ∧ SameRegs [Reg.CLS_CE_STAT 0] s u
          ∧ (s.pws.phase = .active → powerOff u = u) ∧ (s.pws.phase = .entering false → (powerOff u).pws.phase = .array)
          ∧ (s.pws.phase = .entering true → (powerOff u).pws.phase = .standby))
      ∧ (∀ f, f ≠ 0 → exec (.ceWait e f) s = .next (ceAbandon s e 1) ∧ exec (.ceWaitPower e f) s = .next (ceAbandon s e 1)))
  ∧ (∀ (s : State) (e : Fin 4) (i : Nat), s.fld (Fld.CLS_CE_CTRL_RUN e) = 1 → s.ceRun e < 2 → i < 16 →
      s.fld (Fld.CLS_CE_SLOT_EN e i) = 1 → (s.fld (Fld.CLS_CE_EVPEND_PEND e)).testBit (s.fld (Fld.CLS_CE_SLOT_EVENT e i)) = true →
      (∀ j, j < i → ¬(s.fld (Fld.CLS_CE_SLOT_EN e j) = 1
        ∧ (s.fld (Fld.CLS_CE_EVPEND_PEND e)).testBit (s.fld (Fld.CLS_CE_SLOT_EVENT e j)) = true)) →
    Completes (.ceDispatch e) s fun t => t.ceRun e = 2 ∧ t.ceSlot e = i ∧ (t.ce e).pc = s.fld (Fld.CLS_CE_SLOT_ENTRY e i)
      ∧ (t.ce e).g = (s.ce e).g ∧ (t.fld (Fld.CLS_CE_EVPEND_PEND e)).testBit (s.fld (Fld.CLS_CE_SLOT_EVENT e i)) = false
      ∧ t.fld (Fld.CLS_CE_CNT0_CLAUSES e) = min (s.fld (Fld.CLS_CE_CNT0_CLAUSES e) + 1) 65535
      ∧ (∀ j, j ≠ e.val → t.ce j = s.ce j) ∧ SameRegs [Reg.CLS_CE_EVPEND e, Reg.CLS_CE_STAT e, Reg.CLS_CE_CNT0 e] s t)
  ∧ (∀ (s : State) (e : Fin 4), 2 ≤ s.ceRun e → exec (.ceDispatch e) s = .next s)
  ∧ (∀ (s : State) (e : Fin 4), s.ceRun e = 2 → s.ceUser e = true →
      ((s.ce e).runFrom + max 1 (s.fld (Fld.CLS_CE_CTRL_USER_MAX e)) * 800 < s.time.now → exec (.ceRunLimit e) s = .next (ceAbandon s e 5))
      ∧ (s.time.now ≤ (s.ce e).runFrom + max 1 (s.fld (Fld.CLS_CE_CTRL_USER_MAX e)) * 800 → exec (.ceRunLimit e) s = .next s))
  ∧ (∀ (s : State) (e : Fin 4), s.ceRun e = 2 → s.ceUser e = false →
      (e ≠ 0 → (s.ce e).runFrom + 8000000 ≤ s.time.now → exec (.ceHang e) s = .next (reportFault s 0x43 e))
      ∧ (e = 0 → 10 ≤ s.fld Fld.BOOT_STATUS_STAGE → (s.ce e).runFrom + 800000000 ≤ s.time.now →
          exec (.ceHang e) s = .next (reportFault s 0x43 e)))
  ∧ (∀ (s : State) (e : Fin 4), (e ≠ 0 → Completes (.ceEngineReset e) s fun t => (∀ i, (t.ce e).reg i = 0) ∧ (t.ce e).pc = 0
        ∧ t.fld (Fld.CLS_CE_EVPEND_PEND e) = 0 ∧ (t.ce e).waite = none ∧ (t.ce e).prog = (s.ce e).prog ∧ (t.ce e).data = (s.ce e).data
        ∧ t.ceRun e = s.fld (Fld.CLS_CE_CTRL_RUN e) ∧ (∀ j, j ≠ e.val → t.ce j = s.ce j)
        ∧ SameRegs [Reg.CLS_CE_EVPEND e, Reg.CLS_CE_STAT e] s t)
      ∧ (e = 0 → exec (.ceEngineReset e) s = .next s))
/-! ### The memories and the Data Mover -/

/-- R404 to R406 and R409 to R418: the row-and-column code corrects every single bad bit and reports every two bad data bits; scrub
reads, write-backs, the watch table, row repair, and writes of an uncorrectable word. The model's choices it rests on: assumption
log 7, 59. -/
def Obligations.MemoryCodeScrubsAndRepairs : Prop :=
  (∀ (d : BitVec 64) (p q : Byte), decodeParity d p q = .clean →
    (∀ i, i < 64 → decodeParity (d ^^^ BitVec.ofNat 64 (2 ^ i)) p q = .corrected d)
    ∧ (∀ i, i < 8 → decodeParity d (p ^^^ BitVec.ofNat 8 (2 ^ i)) q = .corrected d ∧ decodeParity d p (q ^^^ BitVec.ofNat 8 (2 ^ i)) = .corrected d)
    ∧ (∀ i j, i < j → j < 64 → decodeParity (d ^^^ BitVec.ofNat 64 (2 ^ i) ^^^ BitVec.ofNat 64 (2 ^ j)) p q = .uncorrectable))
  ∧ (∀ (s : State) (addr : Nat) (d : BitVec 64) (p q : Byte), s.fld Fld.MEM_CTRL_SCRUB_EN = 1 → s.fld (Fld.PWS_CLIENT_LEVEL 10) = 0 →
      0x40000000 ≤ addr → addr < 0x42000000 →
    let a := addr / 8 * 8
    (decodeParity d p q = .clean → Completes (.scrubRead addr (.sram d p q)) s fun t =>
      (∀ i, i < 8 → t.sramByte (a + i) = BitVec.ofNat 8 (d.toNat / 256 ^ i)) ∧ (∀ b, (b < a ∨ a + 8 ≤ b) → t.sramByte b = s.sramByte b)
      ∧ t.regs = s.regs ∧ t.mem.dram = s.mem.dram)
    ∧ (∀ d', decodeParity d p q = .corrected d' → ∃ w v, exec (.scrubRead addr (.sram d p q)) s = .next (watchCorrection v false a)
        ∧ v.regs = (memEvent w false false a).regs ∧ { dram := false, addr := a } ∈ v.mem.writeBack
        ∧ (∀ i, i < 8 → w.sramByte (a + i) = BitVec.ofNat 8 (d'.toNat / 256 ^ i)) ∧ w.regs = s.regs)
    ∧ (decodeParity d p q = .uncorrectable → ∃ w, exec (.scrubRead addr (.sram d p q)) s = .next (memEvent w true false a)
        ∧ w.ueWord false a = true ∧ w.mem.sram = s.mem.sram ∧ w.regs = s.regs))
  ∧ (∀ (s : State) (addr : Nat), s.fld Fld.MEM_CTRL_SCRUB_EN = 1 → s.fld (Fld.PWS_CLIENT_LEVEL 10) = 0 →
      s.fld Fld.MEM_STATUS_DRAM_READY = 1 → addr / 8 * 8 < s.dramLimit →
    let a := addr / 8 * 8
    exec (.scrubRead addr (.dram .clean)) s = .next s
    ∧ (∀ d, ∃ w v, exec (.scrubRead addr (.dram (.single d))) s = .next (watchCorrection v true a)
        ∧ v.regs = (memEvent w false true a).regs ∧ { dram := true, addr := a } ∈ v.mem.writeBack
        ∧ (∀ i, i < 8 → w.dramByte (a + i) = BitVec.ofNat 8 (d.toNat / 256 ^ i)))
    ∧ (∃ w, exec (.scrubRead addr (.dram .double)) s = .next (memEvent w true true a) ∧ w.ueWord true a = true ∧ w.mem.dram = s.mem.dram))
  ∧ (∀ (s : State) (addr : Nat) (w : WordRead), s.fld Fld.MEM_CTRL_SCRUB_EN = 0 → exec (.scrubRead addr w) s = .next s)
  ∧ (∀ (s : State) (ue dram : Bool) (a : Nat),
    let region := if dram then 11 else regionOf a
    ∃ u, memEvent s ue dram a = reportFault u (if ue then 5 else 1) region
      ∧ u.fld Fld.MEM_LAST_ERR_UE = ue.toNat ∧ u.fld Fld.MEM_LAST_ERR_DRAM = dram.toNat ∧ u.fld Fld.MEM_LAST_ERR_REGION = region
      ∧ u.rd Reg.MEM_LAST_ADDR = BitVec.ofNat 32 a
      ∧ (∀ f, f = (if dram then (if ue then Fld.MEM_CNT1_DRAM_UE else Fld.MEM_CNT1_DRAM_CORR)
          else (if ue then Fld.MEM_CNT0_SRAM_UE else Fld.MEM_CNT0_SRAM_CORR)) → u.fld f = min (s.fld f + 1) 65535)
      ∧ (ue = true → u.fld (Fld.MEM_UE_CNT_UE region) = min (s.fld (Fld.MEM_UE_CNT_UE region) + 1) 65535)
      ∧ SameRegs [Reg.MEM_LAST_ERR, Reg.MEM_LAST_ADDR, Reg.MEM_CNT0, Reg.MEM_CNT1, Reg.MEM_UE_CNT region] s u)
  ∧ (∀ (s : State) (b : WriteBack) (rest : List WriteBack), s.mem.writeBack = b :: rest →
    let w := if b.dram then s.mem.dramWatch else s.mem.watch
    Completes .sramWriteBack s fun t => t.mem.writeBack = rest
      ∧ (∀ w', w' = (if b.dram then t.mem.dramWatch else t.mem.watch) →
        ((∃ k, (b.addr, k) ∈ w) → w' = w ∧ t.regs = s.regs)
        ∧ ((∀ k, (b.addr, k) ∉ w) → w.length < 32 → w' = w ++ [(b.addr, 0)] ∧ t.regs = s.regs)
        ∧ ((∀ k, (b.addr, k) ∉ w) → 32 ≤ w.length → w' = w.drop 1 ++ [(b.addr, 0)]
          ∧ t.fld Fld.MEM_CNT2_WATCH_OVF = min (s.fld Fld.MEM_CNT2_WATCH_OVF + 1) 255))
      ∧ t.mem.sram = s.mem.sram ∧ t.mem.dram = s.mem.dram ∧ SameRegs [Reg.MEM_CNT2] s t)
  ∧ (∀ s : State, Completes .scrubEpoch s fun t => t.mem.watch = [] ∧ t.mem.dramWatch = []
      ∧ (t.fld (Fld.CLS_CE_EVPEND_PEND 3)).testBit 10 = true ∧ SameRegs [Reg.CLS_CE_EVPEND 3, Reg.CLS_CE_CNT1 3] s t)
  ∧ (∀ (s : State) (l l' : List (Nat × Nat)) (a k : Nat), s.mem.watch = l ++ (a, k) :: l' → (∀ p, p ∈ l ++ l' → p.1 ≠ a) →
      let u := { s with mem := { s.mem with watch := l ++ (a, k + 1) :: l' } }
      (k ≠ 2 → watchCorrection s false a = u) ∧ (k = 2 → watchCorrection s false a = hardWord u a))
  ∧ (∀ (s : State) (l l' : List (Nat × Nat)) (a : Nat), s.mem.dramWatch = l ++ (a, 2) :: l' → (∀ p, p ∈ l ++ l' → p.1 ≠ a) →
      ∃ u, watchCorrection s true a = reportFault u 3 11 ∧ u.fld Fld.MEM_CNT3_DRAM_HARD = min (s.fld Fld.MEM_CNT3_DRAM_HARD + 1) 65535)
  ∧ (∀ (s : State) (a : Nat), let k := arrayOf a
      (s.mem.spares.at k < 4 → s.mem.repair.length < 64 → ∃ u, hardWord s a = reportFault u 2 (regionOf a)
        ∧ u.mem.repair = s.mem.repair ++ [(k, a % 32768 / 64)] ∧ u.mem.spares.at k = s.mem.spares.at k + 1
        ∧ u.fld Fld.MEM_STATUS_RT_REPAIRS = s.mem.repair.length + 1
        ∧ u.fld Fld.MEM_CNT2_MIGRATIONS = min (s.fld Fld.MEM_CNT2_MIGRATIONS + 1) 65535 ∧ u.mem.sram = s.mem.sram)
      ∧ ((4 ≤ s.mem.spares.at k ∨ 64 ≤ s.mem.repair.length) → ∃ u, hardWord s a = reportFault u 4 (regionOf a)
        ∧ u.fld Fld.MEM_CNT2_NO_SPARE = min (s.fld Fld.MEM_CNT2_NO_SPARE + 1) 255 ∧ u.mem = s.mem))
  ∧ (∀ (s : State) (a : Nat) (l : List Byte), (a % 8 + l.length ≤ 8 → l.length ≠ 0 → l.length < 8 → s.ueWord false a = true →
        s.memWrite false a l = none)
      ∧ (a % 8 = 0 → l.length = 8 → ∃ t, s.memWrite false a l = some t ∧ t.ueWord false a = false
        ∧ (∀ i b, l[i]? = some b → t.sramByte (a + i) = b) ∧ (∀ b, (b < a ∨ a + 8 ≤ b) → t.sramByte b = s.sramByte b)
        ∧ { dram := false, addr := a } ∉ t.mem.writeBack ∧ t.mem.dram = s.mem.dram))

/-- R421 to R424, R429 to R433: capture pages are requested, granted in whole and in order, released and reclaimed; channels are
requested, granted and commanded, and move through their states as their elements end. The model's choices it rests on: assumption
log 7, 57, 60, 68. -/
def Obligations.CapturePagesAndChannels : Prop :=
  (∀ (s : State) (path : Path) (n : Fin 256),
    let o := s.ownerOf path
    let waits := ((s.mem.capReqs.filter (fun r => hostCode r.owner)).map (fun r => r.pages)).foldl (· + ·) 0
    (o ≠ 0 → n.val ≠ 0 → n.val ≤ 16 → (hostCode o = true → s.hostPages.length + waits + n ≤ s.fld Fld.MEM_CAP_CFG_HOST_MAX) →
      (∀ r, r ∈ s.mem.capReqs → r.owner ≠ o) → Completes (.capRequest path n) s fun t =>
        t.mem.capReqs = s.mem.capReqs ++ [{ owner := o, prio := capPrio o, pages := n }] ∧ SameRegs [Reg.GRL_CNT1] s t)
    ∧ ((n.val = 0 ∨ 16 < n.val ∨ (hostCode o = true ∧ s.fld Fld.MEM_CAP_CFG_HOST_MAX < s.hostPages.length + waits + n)
        ∨ ∃ r, r ∈ s.mem.capReqs ∧ r.owner = o) → Completes (.capRequest path n) s fun t =>
        t.fld Fld.MEM_CAP_CNT_REFUSED = min (s.fld Fld.MEM_CAP_CNT_REFUSED + 1) 65535 ∧ OnlyRegs [Reg.MEM_CAP_CNT] s t))
  ∧ (∀ l : List CapReq, (nextCapReq l = none ↔ l = []) ∧ ∀ r, nextCapReq l = some r →
      ∃ a b, l = a ++ r :: b ∧ (∀ q, q ∈ a → r.prio < q.prio) ∧ ∀ q, q ∈ b → r.prio ≤ q.prio)
  ∧ (∀ (s : State) (r : CapReq), nextCapReq s.mem.capReqs = some r → r.owner < 16 →
    (s.freePages.length < r.pages → exec .capGrant s = .next s)
    ∧ (r.pages ≤ s.freePages.length → Completes .capGrant s fun t =>
      (∀ p, p < 128 → t.pageOwner p = if p ∈ s.freePages.take r.pages then r.owner else s.pageOwner p)
      ∧ (∀ p, p ∈ s.freePages.take r.pages → t.mem.capSince.at p = s.time.now) ∧ t.mem.capReqs = s.mem.capReqs.erase r
      ∧ t.fld Fld.GRL_CNT2_PAGE_GRANTS = min (s.fld Fld.GRL_CNT2_PAGE_GRANTS + 1) 65535
      ∧ (4 ≤ r.owner → r.owner ≤ 7 → (t.core (r.owner - 4)).irqPend.testBit 3 = true) ∧ t.mem.sram = s.mem.sram))
  ∧ (∀ (s : State) (path : Path) (p : Fin 256),
    (p.val < 128 → s.holdsPage (s.ownerOf path) p = true → Completes (.capRelease path p) s fun t =>
      t.pageOwner p = 0 ∧ p.val ∉ t.mem.joint ∧ SameRegs [Reg.MEM_CAP_OWNER p] s t ∧ t.mem.sram = s.mem.sram)
    ∧ ((128 ≤ p.val ∨ s.holdsPage (s.ownerOf path) p = false) → Completes (.capRelease path p) s fun t =>
      t.fld Fld.MEM_CAP_CNT_REFUSED = min (s.fld Fld.MEM_CAP_CNT_REFUSED + 1) 65535 ∧ OnlyRegs [Reg.MEM_CAP_CNT] s t)
    ∧ (Completes (.capReleaseAll path) s fun t =>
      (∀ q, q < 128 → t.pageOwner q = if s.holdsPage (s.ownerOf path) q then 0 else s.pageOwner q)
      ∧ t.mem.sram = s.mem.sram ∧ t.mem.capReqs = s.mem.capReqs))
  ∧ (∀ (s : State) (o p : Nat), s.holdsPage o p = true ↔ o ≠ 0 ∧ (s.pageOwner p = o ∨ (1 ≤ o ∧ o ≤ 3 ∧ p ∈ s.mem.joint)))
  ∧ (∀ (s : State) (p : Fin 128), p.val ∈ s.hostPages → s.fld Fld.MEM_CAP_CFG_PAGE_HOLD ≠ 0 →
      s.mem.capSince.at p + s.fld Fld.MEM_CAP_CFG_PAGE_HOLD * 800000 < s.time.now → Completes (.capReclaim p) s fun t =>
      t.pageOwner p = 0 ∧ t.fld Fld.MEM_CAP_CNT_RECLAIMS = min (s.fld Fld.MEM_CAP_CNT_RECLAIMS + 1) 65535
      ∧ SameRegs [Reg.MEM_CAP_OWNER p, Reg.MEM_CAP_CNT] s t)
  ∧ (∀ (s : State) (path : Path), s.ownerOf path ≠ 0 → s.ownerOf path ∉ s.mem.dmvReqs → Completes (.dmvAllocReq path) s fun t =>
      t.mem.dmvReqs = s.mem.dmvReqs ++ [s.ownerOf path] ∧ SameRegs [Reg.GRL_CNT1] s t)
  ∧ (∀ (s : State) (o c : Nat), o ∈ s.mem.dmvReqs → (∀ q, q ∈ s.mem.dmvReqs → o ≤ q) → o < 16 → c < 32 → s.chState c = 0 →
      (o < 4 → 4 ≤ c) → (∀ b, b < c → s.chState b ≠ 0 ∨ (o < 4 ∧ b < 4)) → Completes .dmvGrant s fun t =>
      t.chState c = 1 ∧ t.fld (Fld.DMV_CH_STAT_OWNER c) = o ∧ t.mem.dmvGrant.at o = some c ∧ o ∉ t.mem.dmvReqs
      ∧ t.fld Fld.GRL_CNT2_DM_GRANTS = min (s.fld Fld.GRL_CNT2_DM_GRANTS + 1) 65535
      ∧ SameRegs [Reg.DMV_CH_STAT c, Reg.GRL_CNT2, Reg.DMV_STATUS] s t)
  ∧ (∀ (s : State) (path : Path) (c : Fin 32), s.ownsCh path c = true →
    (s.chState c ∈ [1, 5, 6] → Completes (.dmvGo path c) s fun t => t.chState c = 2
        ∧ t.rd (Reg.DMV_CH_CUR c) = BitVec.ofNat 32 (s.fld (Fld.DMV_CH_LIST_ADDR c) * 16)
        ∧ t.mem.curDram.at c = (s.fld (Fld.DMV_CH_LIST_SP c) != 0) ∧ t.fld (Fld.DMV_CH_STAT_CAUSE c) = 0
        ∧ t.fld (Fld.DMV_CH_STAT_OWNER c) = s.fld (Fld.DMV_CH_STAT_OWNER c)
        ∧ SameRegs [Reg.DMV_CH_STAT c, Reg.DMV_CH_CUR c, Reg.DMV_CH_RESIDUE c, Reg.DMV_STATUS] s t)
    ∧ (s.chState c = 4 → Completes (.dmvGo path c) s fun t => t.chState c = 2
        ∧ SameRegs [Reg.DMV_CH_STAT c, Reg.DMV_CH_RESIDUE c, Reg.DMV_STATUS] s t)
    ∧ (s.chState c ∈ [0, 2, 3, 7] → Completes (.dmvGo path c) s fun t => t.regs = s.regs)
    ∧ (s.chState c = 2 → Completes (.dmvStop path c) s fun t => t.chState c = 3 ∧ t.mem.drain.at c = .stop
        ∧ SameRegs [Reg.DMV_CH_STAT c, Reg.DMV_STATUS] s t)
    ∧ (s.chState c ≠ 2 → exec (.dmvStop path c) s = .next s)
    ∧ ((s.chState c = 2 ∨ s.chState c = 3) →
        (Completes (.dmvAbort path c) s fun t => t.chState c = 3 ∧ (∃ r, t.mem.drain.at c = .abort r)
          ∧ SameRegs [Reg.DMV_CH_STAT c, Reg.DMV_STATUS] s t)
        ∧ (Completes (.dmvRelease path c) s fun t => t.chState c = 3 ∧ t.mem.drain.at c = .abort true
          ∧ SameRegs [Reg.DMV_CH_STAT c, Reg.DMV_STATUS] s t))
    ∧ (s.chState c ≠ 2 → s.chState c ≠ 3 → Completes (.dmvRelease path c) s fun t => t.rd (Reg.DMV_CH_STAT c) = 0
        ∧ t.mem.drain.at c = .no ∧ SameRegs [Reg.DMV_CH_STAT c, Reg.DMV_STATUS] s t))
  ∧ (∀ (s : State) (path : Path) (c : Fin 32), s.ownsCh path c = false →
      ∀ i, i ∈ [Instr.dmvGo path c, .dmvStop path c, .dmvAbort path c, .dmvRelease path c] → exec i s = .next s)
  ∧ (∀ (s : State) (c : Fin 32) (st : Nat), st < 8 → let t := endCh s c st
      t.chState c = st ∧ SameRegs [Reg.DMV_CH_STAT c, Reg.DMV_STATUS] s t ∧ t.mem = s.mem
      ∧ (∀ m, m < 4 → s.fld (Fld.DMV_CH_STAT_OWNER c) = 4 + m → (t.core m).irqPend.testBit 2 = true))
  ∧ (∀ (s : State) (c : Fin 32) (e : Elem) (x : Run), runCurrent s c none = (some e, x) →
    (x.cause = 0 → s.chState c = 2 → ∃ u, exec (.dmvElementDone c) s = .next (if e.last then endCh u c 5 else u)
        ∧ (e.last = true → SameRegs [Reg.DMV_CH_CNT c] x.s u)
        ∧ (e.last = false → u.rd (Reg.DMV_CH_CUR c) = BitVec.ofNat 32 e.next ∧ u.mem.curDram.at c = e.nextDram
          ∧ SameRegs [Reg.DMV_CH_CNT c, Reg.DMV_CH_CUR c] x.s u)
        ∧ u.fld (Fld.DMV_CH_CNT_BYTES c) = min (x.s.fld (Fld.DMV_CH_CNT_BYTES c) + x.wrote) (2 ^ 32 - 1))
    ∧ (x.cause = 0 → s.chState c = 3 → s.mem.drain.at c = .stop →
        ∃ u, exec (.dmvStopped c 0) s = .next (endCh u c (if e.last then 5 else 4)) ∧ u.mem.drain.at c = .no
        ∧ (e.last = false → u.rd (Reg.DMV_CH_CUR c) = BitVec.ofNat 32 e.next)
        ∧ SameRegs [Reg.DMV_CH_CNT c, Reg.DMV_CH_CUR c] x.s u)
    ∧ (x.cause ≠ 0 → x.cause < 8 → (s.chState c = 2 ∨ s.chState c = 3) → s.mem.drain.at c ≠ .abort true →
        ∃ u, exec (.dmvDescriptorError c) s = .next (endCh u c 6) ∧ u.fld (Fld.DMV_CH_STAT_CAUSE c) = x.cause
        ∧ u.fld (Fld.DMV_CH_RESIDUE_RESIDUE c) = (e.len - x.wrote) % 2 ^ 24
        ∧ SameRegs [Reg.DMV_CH_CNT c, Reg.DMV_CH_RESIDUE c, Reg.DMV_CH_STAT c] x.s u))
  ∧ (∀ (s : State) (c : Fin 32) (e e' : Elem) (x x' : Run) (left : Nat), runCurrent s c (some 0) = (some e', x') →
      runCurrent s c (some (e'.len - left)) = (some e, x) → left ≤ e'.len → x.cause = 0 → s.chState c = 3 →
    (s.mem.drain.at c = .abort false → (e.last = false ∨ left ≠ 0) → ∃ u, exec (.dmvStopped c left) s = .next (endCh u c 4)
        ∧ u.fld (Fld.DMV_CH_RESIDUE_RESIDUE c) = left % 2 ^ 24 ∧ u.fld (Fld.DMV_CH_STAT_ABORTED c) = 1
        ∧ u.fld (Fld.DMV_CH_CNT_BYTES c) = min (x.s.fld (Fld.DMV_CH_CNT_BYTES c) + x.wrote) (2 ^ 32 - 1)
        ∧ SameRegs [Reg.DMV_CH_CNT c, Reg.DMV_CH_RESIDUE c, Reg.DMV_CH_STAT c] x.s u)
    ∧ (s.mem.drain.at c = .abort false → e.last = true → left = 0 → ∃ u, exec (.dmvStopped c left) s = .next (endCh u c 5)
        ∧ SameRegs [Reg.DMV_CH_CNT c] x.s u)
    ∧ (s.mem.drain.at c = .abort true → Completes (.dmvStopped c left) s fun t => t.rd (Reg.DMV_CH_STAT c) = 0))

/-- R425, R428: an element whose bytes can be read and written leaves what a copy through a separate buffer would leave, overlap or
not, and a fill repeats its four bytes. The model's choices it rests on: assumption log 6, 68. -/
def Obligations.MoverCopiesAsThroughABuffer : Prop :=
  ∀ (s : State) (r : Req) (e : Elem), s.fld Fld.MEM_STATUS_DRAM_READY = 1 → s.mem.dramUe = [] → e.dstDram = true →
    e.dst + e.len ≤ s.dramLimit →
    let x := runElem s r e e.len
    (e.fill = false → e.srcDram = true → e.src + e.len ≤ s.dramLimit →
      x.cause = 0 ∧ x.wrote = e.len ∧ (∀ i, i < e.len → x.s.dramByte (e.dst + i) = s.dramByte (e.src + i))
      ∧ (∀ a, (a < e.dst ∨ e.dst + e.len ≤ a) → x.s.dramByte a = s.dramByte a) ∧ x.s.regs = s.regs ∧ x.s.mem.sram = s.mem.sram)
    ∧ (e.fill = true →
      x.cause = 0 ∧ x.wrote = e.len ∧ (∀ i, i < e.len → x.s.dramByte (e.dst + i) = BitVec.ofNat 8 (e.src / 256 ^ (i % 4)))
      ∧ (∀ a, (a < e.dst ∨ e.dst + e.len ≤ a) → x.s.dramByte a = s.dramByte a) ∧ x.s.regs = s.regs ∧ x.s.mem.sram = s.mem.sram)
/-! ### Monitor converters, front-end control and the Locket -/

/-- R436 to R442: start pulses, sequences and urgent requests of the converters, what the end of a conversion writes and starts, the
cross-check and the thresholds. The model's choices it rests on: assumption log 2, 7, 69. -/
def Obligations.MonitorsConvertAndCompare : Prop :=
  (∀ (s : State) (x : Fin 2) (v : Word),
    let ch := v.toNat % 64
    let samp := v.toNat / 2 ^ 22 % 512
    ((s.madc x).job = none → ch < 55 → Completes (.monGo x v) s fun t =>
      (t.madc x).job = some ({ kind := .pulse, ch, samp }, s.time.now) ∧ (t.madc x).lastPulse = s.time.now ∧ (t.madc x).seqRun = false
      ∧ t.fld (Fld.MON_STAT_BUSY x) = 1 ∧ t.fld (Fld.MON_SEL_CH x) = ch ∧ t.fld (Fld.MON_SEL_SAMP x) = samp
      ∧ (∀ y, y ≠ x.val → t.madc y = s.madc y) ∧ SameRegs [Reg.MON_SEL x, Reg.MON_STAT x] s t)
    ∧ ((s.madc x).job ≠ none → Completes (.monGo x v) s fun t => (t.madc x).job = (s.madc x).job ∧ (t.madc x).lastPulse = s.time.now
      ∧ (t.madc x).endRun = (s.madc x).seqRun ∧ t.fld (Fld.MON_CNT_START_DROP x) = min (s.fld (Fld.MON_CNT_START_DROP x) + 1) 65535
      ∧ SameRegs [Reg.MON_SEL x, Reg.MON_STAT x, Reg.MON_CNT x] s t)
    ∧ ((s.madc x).job = none → 55 ≤ ch → Completes (.monGo x v) s fun t => (t.madc x).job = none ∧ t.fld (Fld.MON_STAT_BAD_CH x) = 1
      ∧ SameRegs [Reg.MON_SEL x, Reg.MON_STAT x] s t))
  ∧ (∀ (s : State) (x : Fin 2) (e : Nat), (s.madc x).seqRun = false → (s.madc x).job = none →
      (s.pws.coreOff = true ∨ (s.madc x).lastPulse + 80000 ≤ s.time.now) → e < 16 → s.fld (Fld.MON_SEQ_EN x e) = 1 →
      (∀ i, i < (e + 16 - s.fld (Fld.MON_STAT_SEQ_POS x)) % 16 → s.fld (Fld.MON_SEQ_EN x ((s.fld (Fld.MON_STAT_SEQ_POS x) + i) % 16)) = 0) →
      s.fld (Fld.MON_SEQ_CH x e) < 55 → Completes (.monSequenceStart x) s fun t =>
      (t.madc x).job = some ({ kind := .seq, ch := s.fld (Fld.MON_SEQ_CH x e), samp := s.fld (Fld.MON_SEQ_SAMP x e) }, s.time.now)
      ∧ t.fld (Fld.MON_STAT_SEQ_POS x) = e ∧ t.fld (Fld.MON_STAT_SEQ_RUN x) = 1 ∧ t.fld (Fld.MON_STAT_BUSY x) = 1
      ∧ (∀ y, y ≠ x.val → t.madc y = s.madc y) ∧ SameRegs [Reg.MON_STAT x] s t)
  ∧ (∀ (s : State) (x : Fin 2), ((∀ e, e < 16 → s.fld (Fld.MON_SEQ_EN x e) = 0) ∨ (s.madc x).seqRun = true
      ∨ (s.pws.coreOff = false ∧ s.time.now < (s.madc x).lastPulse + 80000)) → exec (.monSequenceStart x) s = .next s)
  ∧ (∀ (s : State) (x : Fin 2) (det : Option (Fin 64)) (v : Word),
    let y := match det with
      | some _ => 0
      | none => x.val
    let ch := match det with
      | some p => s.fld (Fld.LDE_PATH_LOOP_DET_CH p)
      | none => v.toNat % 64
    let kind := match det with
      | some p => MonKind.detector p
      | none => .host
    let j : MonJob := { kind, ch, samp := v.toNat / 2 ^ 22 % 512 }
    (55 ≤ ch → Completes (.monUrgentRequest x det v) s fun t => t.fld (Fld.MON_STAT_BAD_CH y) = 1 ∧ OnlyRegs [Reg.MON_STAT y] s t)
    ∧ (ch < 55 → (s.madc y).job = none → Completes (.monUrgentRequest x det v) s fun t => (t.madc y).job = some (j, s.time.now)
      ∧ (t.madc y).urgent = (s.madc y).urgent ∧ t.fld (Fld.MON_STAT_BUSY y) = 1 ∧ SameRegs [Reg.MON_STAT y] s t)
    ∧ (ch < 55 → (s.madc y).job ≠ none → (s.madc y).urgent.length < 4 → Completes (.monUrgentRequest x det v) s fun t =>
      (t.madc y).job = (s.madc y).job ∧ (t.madc y).urgent = (s.madc y).urgent ++ [j]
      ∧ t.fld (Fld.MON_STAT_URG_LVL y) = (s.madc y).urgent.length + 1 ∧ SameRegs [Reg.MON_STAT y] s t)
    ∧ (ch < 55 → (s.madc y).job ≠ none → 4 ≤ (s.madc y).urgent.length → Completes (.monUrgentRequest x det v) s fun t =>
      t.fld (Fld.MON_CNT_URG_DROP y) = min (s.fld (Fld.MON_CNT_URG_DROP y) + 1) 65535 ∧ OnlyRegs [Reg.MON_CNT y] s t))
  ∧ (∀ (s : State) (x : Fin 2) (code : Fin 4096) (j : MonJob) (b : Nat), (s.madc x).job = some (j, b) →
      let n := max 4 (min 256 j.samp) + 16
      (s.pws.coreOff = false → s.convTicks j.samp = 20 * n)
      ∧ (s.pws.coreOff = true → 125 * n ≤ 6 * s.convTicks j.samp ∧ 6 * s.convTicks j.samp < 125 * n + 6)
      ∧ (s.time.now < b + s.convTicks j.samp → exec (.monConversionDone x code) s = .next s)
      ∧ (b + s.convTicks j.samp ≤ s.time.now → ∃ u, exec (.monConversionDone x code) s = .next (showMadc (monBoundary u x) x)
        ∧ ((∀ t, t < 16 → s.fld (Fld.MON_THR_CFG_EN t) = 0 ∨ s.fld (Fld.MON_THR_CFG_CH t) ≠ j.ch) →
          (j.kind = .pulse → u.rd (Reg.MON_RES x) = BitVec.ofNat 32 (2 ^ 31 + j.ch % 64 * 2 ^ 24 + code) ∧ SameRegs [Reg.MON_RES x] s u)
          ∧ (j.kind = .host → u.rd (Reg.MON_URES x) = BitVec.ofNat 32 (2 ^ 31 + j.ch % 64 * 2 ^ 24 + code) ∧ SameRegs [Reg.MON_URES x] s u)
          ∧ (∀ p, j.kind = .detector p → u.regs = s.regs)
          ∧ (j.kind ≠ .seq → j.kind ≠ .plaus → (u.madc x).latest.at j.ch = some (code.val, s.time.now))
          ∧ (j.kind = .seq → let e := s.fld (Fld.MON_STAT_SEQ_POS x)
            let n := 2 ^ min 6 (s.fld (Fld.MON_SEQ_AVG x e))
            ((s.madc x).seqCnt + 1 < n → (u.madc x).seqCnt = (s.madc x).seqCnt + 1 ∧ (u.madc x).seqSum = (s.madc x).seqSum + code ∧ u.regs = s.regs)
            ∧ (n ≤ (s.madc x).seqCnt + 1 → (s.madc x).seqSum + code ≤ 4095 * n →
              u.fld (Fld.MON_SRES_CODE x e) = (2 * ((s.madc x).seqSum + code) + n) / (2 * n) ∧ u.fld (Fld.MON_SRES_VALID x e) = 1
              ∧ u.fld (Fld.MON_STAT_SEQ_POS x) = (e + 1) % 16 ∧ (u.madc x).seqRun = !(s.madc x).endRun ∧ (u.madc x).seqCnt = 0
              ∧ SameRegs [Reg.MON_SRES x e, Reg.MON_STAT x] s u)))))
  ∧ (∀ (u : State) (x : Fin 2), (∀ j rest, (u.madc x).urgent = j :: rest →
        ((monBoundary u x).madc x).job = some (j, u.time.now) ∧ ((monBoundary u x).madc x).urgent = rest
        ∧ ((monBoundary u x).madc x).seqCnt = 0 ∧ ((monBoundary u x).madc x).seqSum = 0 ∧ (monBoundary u x).regs = u.regs)
      ∧ ((u.madc x).urgent = [] → (u.madc x).seqRun = false → ((monBoundary u x).madc x).job = none ∧ (monBoundary u x).regs = u.regs))
  ∧ (∀ s : State, (s.mon.plausAt + 800000 ≤ s.time.now → (s.madc 0).job = none → (s.madc 1).job = none →
        Completes .plausibilityRequest s fun t => (t.madc 0).job = some ({ kind := .plaus, ch := 54, samp := 16 }, s.time.now)
        ∧ (t.madc 1).job = some ({ kind := .plaus, ch := 54, samp := 16 }, s.time.now) ∧ t.mon.plausSkip = false
        ∧ t.mon.plausAt = s.time.now ∧ SameRegs [Reg.MON_STAT 0, Reg.MON_STAT 1] s t)
      ∧ (s.time.now < s.mon.plausAt + 800000 → exec .plausibilityRequest s = .next s))
  ∧ (∀ (s : State) (a b : Nat), (16 < max a b - min a b → s.mon.differ < 2 → comparePlaus s a b = { s with mon := { s.mon with
        differ := s.mon.differ + 1, agreeFrom := none } })
      ∧ (16 < max a b - min a b → 2 ≤ s.mon.differ → ∃ u, comparePlaus s a b = reportCondition u 0x53 0 ∧ u.fld Fld.MON_STATUS_DISAGREE = 1)
      ∧ (max a b - min a b ≤ 16 → (comparePlaus s a b).mon.differ = 0)
      ∧ (max a b - min a b ≤ 16 → s.mon.agreeFrom = none → 0 < s.quietPeriod → (comparePlaus s a b).regs = s.regs
        ∧ (comparePlaus s a b).mon.agreeFrom = some s.time.now)
      ∧ (∀ f, max a b - min a b ≤ 16 → s.mon.agreeFrom = some f → f + s.quietPeriod ≤ s.time.now → s.fld Fld.MON_STATUS_DISAGREE = 1 →
        (comparePlaus s a b).fld Fld.MON_STATUS_DISAGREE = 0))
  ∧ (∀ (s : State) (t : Fin 16) (ch code : Nat), code < 4096 → s.fld Fld.MON_STATUS_DISAGREE = 0 → s.fld (Fld.MON_THR_CFG_FAULT t) = 0 →
      s.fld (Fld.MON_THR_CFG_WAKE t) = 0 →
      let hi := s.fld (Fld.MON_THR_LIM_HI t)
      let lo := s.fld (Fld.MON_THR_LIM_LO t)
      let hyst := s.fld (Fld.MON_THR_CFG_HYST t)
      let u := evaluate s t ch code
      u.fld (Fld.MON_THR_STAT_LAST t) = code
      ∧ (hi < code → u.fld (Fld.MON_THR_STAT_HI_X t) = 1) ∧ (code < lo → u.fld (Fld.MON_THR_STAT_LO_X t) = 1)
      ∧ ((hi < code ∨ code < lo) → u.fld (Fld.MON_THR_STAT_ACTIVE t) = 1)
      ∧ ((hi < code ∨ code < lo) → s.fld (Fld.MON_THR_STAT_ACTIVE t) = 0 → s.fld (Fld.MON_THR_CFG_EVT t) = 1 →
          (u.fld (Fld.CLS_CE_EVPEND_PEND 3)).testBit 9 = true)
      ∧ (code ≤ hi → lo ≤ code → (hi < code + hyst ∨ code < lo + hyst) →
          u.fld (Fld.MON_THR_STAT_ACTIVE t) = s.fld (Fld.MON_THR_STAT_ACTIVE t))
      ∧ (code + hyst ≤ hi → lo + hyst ≤ code → u.fld (Fld.MON_THR_STAT_ACTIVE t) = 0)
      ∧ ((hi < code ∨ code < lo) → SameRegs [Reg.MON_THR_STAT t, Reg.CLS_CE_EVPEND 3, Reg.CLS_CE_CNT1 3] s u))

/-- R443 to R449, R451, R452 and R454 to R457: plays and entries of the front-end buses, strobe levels, the mean-level limiter, the
monitor slots, the seal of the Locket and the challenge. The model's choices it rests on: assumption log 2, 7, 16, 25, 70. -/
def Obligations.FrontEndsSlotsAndLocket : Prop :=
  (∀ (s : State) (k : Fin 4), s.armedBefore (.fetable k) s.cyc = true →
      (s.realises k = true ∨ s.fld (Fld.TIM_AIR_CFG_EN (s.refTimeline k)) = 0) → Completes (.fetableCommit k) s fun t =>
      let d := t.active (Fld.FEN_FACET_D_START k 0)
      t.acc.active = s.candidate (.fetable k) s.cyc ∧ t.acc.shLog = s.leftover (.fetable k) s.cyc
      ∧ t.fld (Fld.FEN_FACET_CTL_GEN k) = (s.fld (Fld.FEN_FACET_CTL_GEN k) + 1) % 65536
      ∧ (s.fld (Fld.FEN_FACET_BUS_EN k) = 0 → t.fld (Fld.FEN_FACET_CTL_POS k) = 0 ∧ t.mon = s.mon)
      ∧ (s.fld (Fld.FEN_FACET_BUS_EN k) = 1 → t.fld (Fld.FEN_FACET_CTL_POS k) = 1 % (t.active (Fld.FEN_FACET_RING_RLEN k) + 1)
        ∧ (t.feb k).played = some s.time.now)
      ∧ (s.fld (Fld.FEN_FACET_BUS_EN k) = 1 → (s.feb k).cur = none → t.active (Fld.FEN_FACET_D_COUNT k 0) ≠ 0 →
        (t.feb k).cur = some { ctl := s.rd (Reg.FEN_FACET_E_CTL k d), dat := s.rd (Reg.FEN_FACET_E_DAT k d), start := s.time.now }
        ∧ (t.feb k).todo.length + 1 = min 64 (t.active (Fld.FEN_FACET_D_COUNT k 0)) ∧ t.fld (Fld.FEN_FACET_STAT_BUSY k) = 1)
      ∧ (s.fld (Fld.FEN_FACET_BUS_EN k) = 1 → (s.feb k).cur ≠ none → (t.feb k).cur = (s.feb k).cur
        ∧ t.fld (Fld.FEN_FACET_STAT_OVERRUN k) = min (s.fld (Fld.FEN_FACET_STAT_OVERRUN k) + 1) 255)
      ∧ SameRegs [Reg.FEN_FACET_CTL k, Reg.FEN_FACET_STAT k] s t)
  ∧ (∀ (s : State) (k : Fin 4), s.armedBefore (.fetable k) s.cyc = false → exec (.fetableCommit k) s = .next s)
  ∧ (∀ (s : State) (k : Fin 4) (miso : Word) (e : FebEntry), (s.feb k).cur = some e → e.start + s.febTicks k (febLen e.ctl + 1) ≤ s.time.now →
      Completes (.febEntryDone k miso) s fun t =>
      let len := febLen e.ctl
      t.out = .feb k (e.ctl.getLsbD 31) len (e.dat.toNat % 2 ^ len) :: s.out
      ∧ (e.ctl.getLsbD 31 = false → (t.feb k).rd = (s.feb k).rd)
      ∧ (e.ctl.getLsbD 31 = true → (s.feb k).rd.length < 16 → (t.feb k).rd = (s.feb k).rd ++ [BitVec.ofNat 32 (miso.toNat % 2 ^ len)])
      ∧ (e.ctl.getLsbD 31 = true → 16 ≤ (s.feb k).rd.length → (t.feb k).rd = (s.feb k).rd
        ∧ t.fld (Fld.FEN_FACET_STAT_RD_OVF k) = min (s.fld (Fld.FEN_FACET_STAT_RD_OVF k) + 1) 255)
      ∧ ((s.feb k).todo = [] → (t.feb k).cur = none ∧ t.fld (Fld.FEN_FACET_STAT_BUSY k) = 0)
      ∧ (∀ i rest, (s.feb k).todo = i :: rest → (t.feb k).todo = rest ∧ 
          (t.feb k).cur = some ⟨s.rd (Reg.FEN_FACET_E_CTL k i), s.rd (Reg.FEN_FACET_E_DAT k i),
            s.time.now + s.febTicks k (max 1 (e.ctl.toNat / 2 ^ 27 % 16))⟩)
      ∧ SameRegs [Reg.FEN_FACET_STAT k] s t)
  ∧ (∀ (s : State) (k : Fin 4) (n : Nat), let div := max 5 (s.fld (Fld.FEN_FACET_BUS_DIV k))
      16 * n * div ≤ 5 * s.febTicks k n ∧ 5 * s.febTicks k n < 16 * n * div + 5)
  ∧ (∀ (s : State) (path : Path) (k : Fin 4), Completes (.febRdPop path k) s fun t =>
      (∀ w l, (s.feb k).rd = w :: l → (t.feb k).rd = l ∧ t.out = .read (pathCode path) (Reg.FEN_FACET_RD k) (some w.toNat) :: s.out)
      ∧ ((s.feb k).rd = [] → t.out = .read (pathCode path) (Reg.FEN_FACET_RD k) (some 0) :: s.out ∧ t.regs = s.regs)
      ∧ SameRegs [Reg.FEN_FACET_STAT k] s t)
  ∧ (∀ (s : State) (i : Nat), i < 16 → let t := settleStrobes s
      let pa := s.paEnable i
      let level := (t.fld Fld.FEN_STB_STAT_LEVEL).testBit i
      let pattern := if s.mon.stepped.testBit i then s.mon.pattern.testBit i else !pa && s.on (Fld.FEN_STB_CFG_IDLE i)
      (pa = true → s.strobeQuiet i = true → level = false ∧ (t.fld Fld.FEN_STB_STAT_CUT).testBit i = true)
      ∧ (s.realignMute = true → level = (!pa && s.on (Fld.FEN_STB_CFG_IDLE i)))
      ∧ (pa = true → (s.fld Fld.FEN_STB_STAT_CUT).testBit i = true → level = false ∧ (t.fld Fld.FEN_STB_STAT_CUT).testBit i = true)
      ∧ (pa = true → s.strobeQuiet i = false → s.realignMute = false → (s.fld Fld.FEN_STB_STAT_CUT).testBit i = false → pattern = true →
        s.fld Fld.LKT_DUTY_DUTY_MAX < 1000 → s.fld Fld.LKT_DUTY_DUTY_MAX * 8000 ≤ s.dutyTicks i →
        level = false ∧ (t.fld Fld.FEN_STB_STAT_CUT).testBit i = true
        ∧ t.fld (Fld.FEN_STB_CFG_DUTY_CLIP i) = min (s.fld (Fld.FEN_STB_CFG_DUTY_CLIP i) + 1) 65535)
      ∧ (s.realignMute = false → (pa = true → s.strobeQuiet i = false ∧ (s.fld Fld.FEN_STB_STAT_CUT).testBit i = false
          ∧ (1000 ≤ s.fld Fld.LKT_DUTY_DUTY_MAX ∨ s.dutyTicks i < s.fld Fld.LKT_DUTY_DUTY_MAX * 8000)) → level = pattern))
  ∧ (∀ (s : State) (r i : Nat), r < 64 → i < 16 → (tddStep s r).mon.pattern.testBit i
      = (if (s.fld (Fld.FEN_TDD_MASK r)).testBit i then (s.fld (Fld.FEN_TDD_LEVEL r)).testBit i else s.mon.pattern.testBit i))
  ∧ (∀ (s : State) (p : Fin 64) (sum a b c : Nat), let lmax := s.sfld Fld.LKT_LEVEL_LMAX
      let seen := fun (t : State) => t.fld (Fld.LDE_PATH_CNT0_SAT_DPD p) = min (s.fld (Fld.LDE_PATH_CNT0_SAT_DPD p) + a) 65535
        ∧ t.fld (Fld.LDE_PATH_CNT0_CFR_RESID p) = min (s.fld (Fld.LDE_PATH_CNT0_CFR_RESID p) + b) 65535
        ∧ SameRegs [Reg.LDE_PATH_CNT0 p, Reg.CVA_TX_CNT0 p, Reg.LKT_PATH_CNT p] s t
      (overLevel lmax sum 16384 = false → Completes (.levelLimitBlock p sum a b c) s fun t => t.mon.limGain.at p = 16384 ∧ seen t
        ∧ t.rd (Reg.LKT_PATH_CNT p) = s.rd (Reg.LKT_PATH_CNT p))
      ∧ (overLevel lmax sum 16384 = true → Completes (.levelLimitBlock p sum a b c) s fun t => seen t
        ∧ t.fld (Fld.LKT_PATH_CNT_LVL_CLIP p) = min (s.fld (Fld.LKT_PATH_CNT_LVL_CLIP p) + 1) (2 ^ 32 - 1)
        ∧ overLevel lmax sum (t.mon.limGain.at p) = false ∧ overLevel lmax sum (t.mon.limGain.at p + 1) = true))
  ∧ (∀ (s : State) (m : Nat) (v : Int), let a := s.mon.pmon.at m
      let b := (pmonAdd s m v).mon.pmon.at m
      b.count = a.count + 1 ∧ b.sum = a.sum + v ∧ (a.count = 0 → b.min = v ∧ b.max = v)
      ∧ (a.count ≠ 0 → b.min = min a.min v ∧ b.max = max a.max v)
      ∧ (∀ i, b.bins.at i = a.bins.at i + if i = min 31 ((v - s.sfld (Fld.PMON_LO_LO m)) / 2 ^ s.fld (Fld.PMON_CFG_W m)).toNat then 1 else 0)
      ∧ (pmonAdd s m v).regs = s.regs)
  ∧ (∀ (s : State) (m : Fin 64), let a := s.mon.pmon.at m
      s.fld (Fld.PMON_CFG_EN m) = 1 → a.since + max 1 (s.fld (Fld.PMON_PER_PERIOD m)) * 800 ≤ s.time.now →
      -2 ^ 31 ≤ a.min → a.min < 2 ^ 31 → -2 ^ 31 ≤ a.max → a.max < 2 ^ 31 →
      (a.count ≠ 0 → -2 ^ 31 * a.count ≤ a.sum ∧ a.sum ≤ (2 ^ 31 - 1) * a.count) → Completes (.pmonPeriodEnd m) s fun t =>
      t.sfld (Fld.PMON_MIN_MIN m) = a.min ∧ t.sfld (Fld.PMON_MAX_MAX m) = a.max ∧ t.fld (Fld.PMON_COUNT_COUNT m) = min a.count (2 ^ 32 - 1)
      ∧ (a.count = 0 → t.sfld (Fld.PMON_MEAN_MEAN m) = 0)
      ∧ (a.count ≠ 0 → t.sfld (Fld.PMON_MEAN_MEAN m) = (2 * a.sum + a.count) / (2 * a.count))
      ∧ (∀ i, i < 32 → t.fld (Fld.PMON_HIST_CNT m i) = min (a.bins.at i) (2 ^ 32 - 1))
      ∧ t.fld (Fld.PMON_SEQ_SEQ m) = (s.fld (Fld.PMON_SEQ_SEQ m) + 1) % 65536 ∧ (t.fld (Fld.CLS_CE_EVPEND_PEND 3)).testBit 8 = true
      ∧ (t.mon.pmon.at m).count = 0 ∧ (t.mon.pmon.at m).since = a.since + max 1 (s.fld (Fld.PMON_PER_PERIOD m)) * 800
      ∧ ∀ j, j ≠ m.val → t.mon.pmon.at j = s.mon.pmon.at j)
  ∧ (∀ (s : State) (path : Path), Completes (.locketSealFirst path) s fun t => t.mon.sealOpen.testBit (pathCode path) = true
      ∧ (∀ i, i ≠ pathCode path → t.mon.sealOpen.testBit i = s.mon.sealOpen.testBit i) ∧ t.regs = s.regs)
  ∧ (∀ (s : State) (path : Path),
      let ok := s.mon.sealOpen.testBit (pathCode path) = true ∧ s.fld Fld.LKT_STAT_SEALED = 0 ∧ s.fld Fld.LKT_STAT_SEAL_BUSY = 0
        ∧ (∀ k, k < 4 → s.fld (Fld.CVA_FACET_CFG_EN k) = 0)
        ∧ ∀ n, n < 8 → s.fld (Fld.LKT_RNG_LO_EN n) = 1 → s.fld (Fld.LKT_RNG_LO_F_KHZ n) ≤ s.fld (Fld.LKT_RNG_HI_F_KHZ n)
      Completes (.locketSealSecond path) s fun t => t.mon.sealOpen.testBit (pathCode path) = false
        ∧ (ok → t.fld Fld.LKT_STAT_SEAL_BUSY = 1 ∧ t.fld Fld.LKT_STAT_SEAL_ERR = s.fld Fld.LKT_STAT_SEAL_ERR)
        ∧ (¬ok → t.fld Fld.LKT_STAT_SEAL_ERR = 1 ∧ t.fld Fld.LKT_STAT_SEAL_BUSY = s.fld Fld.LKT_STAT_SEAL_BUSY)
        ∧ t.fld Fld.LKT_STAT_SEALED = s.fld Fld.LKT_STAT_SEALED ∧ SameRegs [Reg.LKT_STAT] s t)
  ∧ (∀ s : State, (s.fld Fld.LKT_STAT_SEAL_BUSY = 1 → Completes .locketSealDone s fun t => t.fld Fld.LKT_STAT_SEALED = 1
        ∧ t.fld Fld.LKT_STAT_SEAL_BUSY = 0 ∧ t.mon.otp ≠ none ∧ SameRegs [Reg.LKT_STAT] s t)
      ∧ (s.fld Fld.LKT_STAT_SEAL_BUSY = 0 → exec .locketSealDone s = .next s))
  ∧ (∀ (s : State) (key sig : List Byte), s.acc.jtag.answer = some (key, sig) → Completes .chalCheckDone s fun t =>
      t.acc.jtag.answer = none
      ∧ (8 ≤ s.fld Fld.LKT_STAT_CHAL_FAIL → t.regs = s.regs)
      ∧ (s.fld Fld.LKT_STAT_CHAL_FAIL < 8 → s.answerOk key sig = true → t.fld Fld.LKT_STAT_JTAG_OPEN = 1 ∧ SameRegs [Reg.LKT_STAT] s t)
      ∧ (s.fld Fld.LKT_STAT_CHAL_FAIL < 8 → s.answerOk key sig = false → t.fld Fld.LKT_STAT_CHAL_FAIL = s.fld Fld.LKT_STAT_CHAL_FAIL + 1
        ∧ t.fld Fld.LKT_STAT_JTAG_OPEN = s.fld Fld.LKT_STAT_JTAG_OPEN
        ∧ SameRegs [Reg.LKT_STAT, Reg.LKT_CHAL 0, Reg.LKT_CHAL 1, Reg.LKT_CHAL 2, Reg.LKT_CHAL 3] s t))
/-! ### Power states, budget and ramps -/

/-- R460, R461, R463 to R467: paths and facets sleep and wake, the sleep clause refuses a request with the first failed check or
starts the entry, and a wake source aborts the entry. The model's choices it rests on: assumption log 4, 7, 71, 72, 73. -/
def Obligations.SleepEntriesAndAborts : Prop :=
  (∀ (s : State) (p : Fin 64),
      (s.pws.symSleep.testBit p = true → Completes (.symbolSleepWake p) s fun t => t.pws.symSleep.testBit p = false
        ∧ (∀ q, q ≠ p.val → t.pws.symSleep.testBit q = s.pws.symSleep.testBit q)
        ∧ ∀ a, a / 2 ^ 24 ≠ 9 → a / 2 ^ 24 ≠ 15 → t.rd a = s.rd a)
      ∧ (s.pws.symSleep.testBit p = false → exec (.symbolSleepWake p) s = .next s))
  ∧ (∀ (s : State) (p : Fin 64),
      let long := ∀ t, s.rxWakeAt p = some t → s.phcFine + usFine 1 ≤ t
      (s.mayRxSleep p = true → long → Completes (.rxSleepEnter p) s fun t => t.pws.rxSleep.testBit p = true
        ∧ (∀ q, q ≠ p.val → t.pws.rxSleep.testBit q = s.pws.rxSleep.testBit q)
        ∧ t.fld (Fld.CVA_RX_STAT_OVR p) = 0 ∧ t.fld (Fld.CVA_RX_STAT_OVR_HI p) = 0
        ∧ SameRegs ((List.range 64).map Reg.CVA_RX_STAT) s t)
      ∧ (s.mayRxSleep p = false ∨ ¬long → exec (.rxSleepEnter p) s = .next s))
  ∧ (∀ (s : State) (p : Fin 64), s.pws.rxSleep.testBit p = true →
      let due := ∃ t, s.rxWakeAt p = some t ∧ t < s.phcFine + s.increment
      (due ∨ s.mayRxSleep p = false → Completes (.rxSleepWake p) s fun t => t.pws.rxSleep.testBit p = false
        ∧ (∀ q, q ≠ p.val → t.pws.rxSleep.testBit q = s.pws.rxSleep.testBit q) ∧ t.regs = s.regs)
      ∧ (¬due → s.mayRxSleep p = true → exec (.rxSleepWake p) s = .next s))
  ∧ (∀ (s : State) (k : Fin 4), s.pws.slotWaking.testBit k = true → Completes (.slotSleepWakeDone k) s fun t =>
      t.pws.slotWaking.testBit k = false ∧ t.pws.slotSleep = s.pws.slotSleep
      ∧ (∀ j, j < 4 → (t.fld Fld.PWS_SLEEP_SLOT).testBit j
          = (s.pws.slotSleep.testBit j || (s.pws.slotWaking.testBit j && j != k.val)))
      ∧ ∀ a, a / 2 ^ 24 ≠ 9 → a / 2 ^ 24 ≠ 15 → a ≠ Reg.PWS_SLEEP → t.rd a = s.rd a)
  ∧ (∀ s : State, let target := s.fld Fld.PWS_MODE_TARGET
      let c := s.sleepCause
      let port := s.fld Fld.PWS_LISTEN_PORT
      (s.fld Fld.PWS_STATUS_BUSY = 1 → c = 1)
      ∧ (s.fld Fld.PWS_STATUS_BUSY = 0 →
        ((target = 3 ∨ target = s.phaseCode) → c = 2)
        ∧ (target ≠ 3 → target ≠ s.phaseCode →
          (s.anyPart = true → c = 3)
          ∧ (s.anyPart = false →
            (target ≠ 2 → c = 0)
            ∧ (target = 2 → s.laneSource = false →
              (c = 4 ↔ s.fld Fld.PWS_WAKE_WAKEN = 0 ∧ s.fld Fld.PWS_WAKE_TRIG = 0 ∧ s.fld Fld.PWS_WAKE_MON = 0) ∧ (c ≠ 4 → c = 0))
            ∧ (target = 2 → s.laneSource = true →
              (c = 5 ↔ s.portUp port = false ∨ (s.fld Fld.PWS_LISTEN_MODE = 1 ∧ s.fld (Fld.FPE_PORT_CFG_RATE port) = 2) ∨ s.persona = true)
              ∧ (c ≠ 5 → c = 0))))))
  ∧ (∀ (s : State) (v : Word), let u := (s.writeRw Reg.PWS_MODE v).ceEvent 0 8
      u.fld Fld.PWS_MODE_TARGET = v.toNat % 4 ∧ u.fld Fld.PWS_MODE_WAKE_TO = v.toNat / 16 % 4
      ∧ (u.fld (Fld.CLS_CE_EVPEND_PEND 0)).testBit 8 = true
      ∧ OnlyRegs [Reg.PWS_MODE, Reg.CLS_CE_EVPEND 0, Reg.CLS_CE_CNT1 0] s u
      ∧ (u.sleepCause ≠ 0 → Completes (.pwsModeReq v) s fun t => t.fld Fld.PWS_STATUS_REFUSED = 1
        ∧ t.fld Fld.PWS_STATUS_CAUSE = u.sleepCause ∧ OnlyRegs [Reg.PWS_STATUS] u t)
      ∧ (u.sleepCause = 0 → v.toNat % 4 = 0 → exec (.pwsModeReq v) s = .next (wakeSource u 6))
      ∧ (u.sleepCause = 0 → v.toNat % 4 = 1 → Completes (.pwsModeReq v) s fun t => t.pws.phase = .entering false
        ∧ t.fld Fld.PWS_STATUS_STATE = 3 ∧ t.fld Fld.PWS_STATUS_BUSY = 1 ∧ (∀ p, p < 64 → t.quietHeld p = true)
        ∧ ∀ a, a / 2 ^ 24 ≠ 9 → a / 2 ^ 24 ≠ 15 → a ≠ Reg.PWS_STATUS → t.rd a = u.rd a)
      ∧ (u.sleepCause = 0 → v.toNat % 4 = 2 → Completes (.pwsModeReq v) s fun t => t.pws.phase = .entering true
        ∧ t.fld Fld.PWS_STATUS_STATE = 3 ∧ t.fld Fld.PWS_STATUS_BUSY = 1 ∧ (∀ p, p < 64 → t.quietHeld p = true)
        ∧ t.pws.dest = s.fpe.evAddr ∧ t.pws.timer = s.wakeTimer ∧ t.pws.ports = s.fpe.portOrder
        ∧ t.pws.kept.testBit 6 = true ∧ (∀ b, b < 8 → b ≠ 6 → t.pws.kept.testBit b = (s.fld Fld.PWS_KEEP_KEEP_SEL).testBit b)))
  ∧ (∀ (s : State) (src : Fin 8) (deep : Bool), s.pws.phase = .entering deep → s.wakeOn src = true →
      (s.pws.facetsOff = false → Completes (.sleepAbort src) s fun t => t.pws.phase = .active ∧ t.pws.quiet = false
        ∧ t.fld Fld.PWS_STATUS_ABORTED = 1 ∧ t.fld Fld.PWS_CNT1_ABORTS = min (s.fld Fld.PWS_CNT1_ABORTS + 1) 65535
        ∧ t.fld Fld.PWS_STATUS_STATE = 0 ∧ t.fld Fld.PWS_STATUS_BUSY = 0 ∧ t.fpe = s.fpe)
      ∧ (s.pws.facetsOff = true → Completes (.sleepAbort src) s fun t => t.pws.phase = .waking false
        ∧ t.fld Fld.PWS_STATUS_ABORTED = 1 ∧ t.fld Fld.PWS_CNT1_ABORTS = min (s.fld Fld.PWS_CNT1_ABORTS + 1) 65535
        ∧ t.fld Fld.PWS_STATUS_STATE = 4 ∧ t.fld Fld.PWS_STATUS_WAKE_SRC = src ∧ t.fpe = s.fpe))
  ∧ (∀ (s : State) (src : Fin 8), s.enteringSleep = false ∨ s.wakeOn src = false → exec (.sleepAbort src) s = .next s)

/-- R468 to R475, R477 to R480: wake sources, the wakes from ARRAY_SLEEP and STANDBY, failed attempts, supplies, the budget's
throttle levels and PWR_OVER, and the ballast of a ramp. The model's choices it rests on: assumption log 2, 7, 71, 73, 74. -/
def Obligations.WakesBudgetAndRamps : Prop :=
  (∀ (s : State) (src : Nat), src < 8 →
      (s.pws.phase = .active → wakeSource s src = s)
      ∧ (∀ deep, s.pws.phase = .entering deep → wakeSource s src = abortSleep s src)
      ∧ (s.pws.phase = .array → let t := wakeSource s src
        t.pws.phase = .waking false ∧ t.fld Fld.PWS_STATUS_STATE = 4 ∧ t.fld Fld.PWS_STATUS_WAKE_SRC = src
        ∧ (t.fld Fld.PWS_PMIC_EN).testBit 5 = true ∧ SameRegs [Reg.PWS_STATUS, Reg.PWS_PMIC] s t)
      ∧ (s.pws.phase = .standby → let t := wakeSource s src
        t.pws.phase = .waking true ∧ t.fld Fld.PWS_STATUS_STATE = 4 ∧ t.fld Fld.PWS_STATUS_WAKE_SRC = src
        ∧ t.fld Fld.PWS_STATUS_ATTEMPTS = 1 ∧ (t.fld (Fld.CLS_CE_EVPEND_PEND 0)).testBit 9 = true
        ∧ (∀ g, (g = 2 ∨ g = 3 ∨ g = 4) → (t.fld Fld.PWS_PMIC_EN).testBit g = true)
        ∧ SameRegs [Reg.PWS_STATUS, Reg.PWS_PMIC, Reg.CLS_CE_EVPEND 0, Reg.CLS_CE_CNT1 0] s t)
      ∧ (∀ deep, s.pws.phase = .waking deep → (wakeSource s src).fld Fld.PWS_STATUS_WAKE_SRC
          = if s.pws.wokeAt = s.time.now then min src (s.fld Fld.PWS_STATUS_WAKE_SRC) else s.fld Fld.PWS_STATUS_WAKE_SRC))
  ∧ (∀ s : State, let deep := s.pws.phase = .standby ∨ s.pws.phase = .entering true
      (deep → s.laneSource = true → s.fld Fld.PWS_LISTEN_MODE = 0 → exec .wakeLaneEnergy s = .next (wakeSource s 1))
      ∧ (¬deep ∨ s.laneSource = false ∨ s.fld Fld.PWS_LISTEN_MODE = 1 → exec .wakeLaneEnergy s = .next s)
      ∧ exec .wakeNAssert s = .next (if s.fld Fld.PWS_WAKE_WAKEN = 1 then wakeSource s 3 else s)
      ∧ (s.pws.phase = .standby → s.pws.timer ≠ none → s.fld Fld.PWS_WAKE_TRIG = 1 → exec .wakeTimer s = .next (wakeSource s 4))
      ∧ (s.pws.phase ≠ .standby ∨ s.pws.timer = none ∨ s.fld Fld.PWS_WAKE_TRIG = 0 → exec .wakeTimer s = .next s))
  ∧ (∀ (s : State) (port : Fin 8) (elems : List (Nat × Nat)) (el : Nat),
      (el = 0xFFFF ∨ el = s.fld Fld.FPE_RMA_CFG_ELEM) → (el, 0x810) ∈ elems →
      (s.pws.phase = .standby → s.laneSource = true → s.fld Fld.PWS_LISTEN_MODE = 1 → port.val = s.fld Fld.PWS_LISTEN_PORT →
        exec (.wakeFrame port true 7 1 2 elems true true) s = .next (wakeSource s 2))
      ∧ (s.pws.phase = .array → s.fld Fld.PWS_WAKE_LANE = 1 → s.portUp port = true →
        exec (.wakeFrame port true 7 1 2 elems true true) s = .next (wakeSource s 2))
      ∧ (s.pws.phase = .active → exec (.wakeFrame port true 7 1 2 elems true true) s = .next s))
  ∧ (∀ (s : State) (fail : Fin 16), s.pws.phase = .waking false → ((s.fld Fld.PWS_PMIC_AUX_OFF).testBit 0 = false ∨ s.pgOk 5 = true) →
      (fail.val = 0 → Completes (.arraySleepWake fail) s fun t => t.pws.phase = .active ∧ t.pws.facetsOff = false ∧ t.pws.quiet = false
        ∧ t.fld Fld.PWS_STATUS_STATE = 0 ∧ t.fld Fld.PWS_STATUS_BUSY = 0
        ∧ t.fld Fld.PWS_CNT0_WAKES = min (s.fld Fld.PWS_CNT0_WAKES + 1) 65535
        ∧ (∀ k, k < 4 → s.fld (Fld.CVA_FACET_CFG_EN k) = 1 → s.rcsLocked = true → s.shutDown k = false →
            s.fld (Fld.CVA_FACET_STAT_FGCAL_BUSY k) = 0 → s.cva.trims.at k = true → t.fld (Fld.CVA_FACET_STAT_READY k) = 1))
      ∧ (fail.val ≠ 0 → ∃ u, exec (.arraySleepWake fail) s = .next (settle s (keepFailed u 7)) ∧ u.pws.phase = .active
        ∧ u.pws.facetsOff = false ∧ ∀ k, k < 4 → fail.val.testBit k = true → u.cva.trims.at k = false))
  ∧ (∀ (s : State) (fail : Fin 16), s.pws.phase ≠ .waking false ∨ ((s.fld Fld.PWS_PMIC_AUX_OFF).testBit 0 = true ∧ s.pgOk 5 = false) →
      exec (.arraySleepWake fail) s = .next s)
  ∧ (∀ (s : State) (count : Nat) (fail : Byte),
      let ready := s.pws.phase = .waking true ∧ s.boot.pll = true ∧ (∀ g, g < 5 → s.pgOk g = true)
        ∧ ((s.fld Fld.PWS_PMIC_AUX_OFF).testBit 1 = false ∨ s.pgOk 5 = true)
      (¬ready → exec (.standbyWake count fail) s = .next s)
      ∧ (ready → s.pws.kept = 255 → fail = 0 → Completes (.standbyWake count fail) s fun t =>
        (s.fld Fld.PWS_MODE_WAKE_TO = 1 → t.pws.phase = .array ∧ t.fld Fld.PWS_STATUS_STATE = 1)
        ∧ (s.fld Fld.PWS_MODE_WAKE_TO ≠ 1 → t.pws.phase = .active ∧ t.fld Fld.PWS_STATUS_STATE = 0 ∧ t.pws.facetsOff = false
          ∧ t.pws.quiet = false)
        ∧ t.pws.coreOff = false ∧ t.fld Fld.PWS_STATUS_BUSY = 0
        ∧ t.time.phc = Phc.ofFine (s.time.phc.fine + count * s.increment * 125 / 6)
        ∧ t.fld Fld.PWS_KEEP_KEEP_OK = 255 ∧ t.fld Fld.PWS_KEEP_KEEP_FAIL = 0
        ∧ t.fld Fld.PWS_CNT0_WAKES = min (s.fld Fld.PWS_CNT0_WAKES + 1) 65535 ∧ t.boot.txHold = true))
  ∧ (∀ (s : State) (locked : Bool), s.pws.phase = .waking true → s.boot.hold = .none → s.fld Fld.BOOT_STATUS_STAGE = 15 →
      let n := s.fld Fld.PWS_STATUS_ATTEMPTS
      (n < 4 → Completes (.wakeAttemptFail locked) s fun t => t.fld Fld.PWS_STATUS_ATTEMPTS = n + 1 ∧ t.boot.pll = false
        ∧ t.pws.phase = .waking true
        ∧ (∀ g, (g = 2 ∨ g = 3 ∨ g = 4) → (t.fld Fld.PWS_PMIC_EN).testBit g = true)
        ∧ (∀ g, (g = 0 ∨ g = 1 ∨ g = 5) → (t.fld Fld.PWS_PMIC_EN).testBit g = false)
        ∧ SameRegs [Reg.PWS_STATUS, Reg.PWS_PMIC] s t)
      ∧ (4 ≤ n → s.pws.dest = none → ∃ u, exec (.wakeAttemptFail locked) s = .next (reportFault u 0x56 0) ∧ u.pws.phase = .standby
        ∧ u.fld Fld.PWS_STATUS_WAKE_FAILED = 1 ∧ u.fld Fld.PWS_STATUS_ATTEMPTS = n
        ∧ u.fld Fld.PWS_CNT0_WAKE_FAILS = min (s.fld Fld.PWS_CNT0_WAKE_FAILS + 1) 65535))
  ∧ (∀ (s : State) (g : Fin 6) (level : Bool),
      ((s.fld Fld.PWS_PMIC_PG).testBit g = level → exec (.pgChange g level) s = .next s)
      ∧ ((s.fld Fld.PWS_PMIC_PG).testBit g ≠ level → s.fld Fld.BOOT_STATUS_STAGE = 15 → s.pws.phase ≠ .waking true →
        Completes (.pgChange g level) s fun t => (t.fld Fld.PWS_PMIC_PG).testBit g = level
          ∧ (∀ h, h ≠ g.val → (t.fld Fld.PWS_PMIC_PG).testBit h = (s.fld Fld.PWS_PMIC_PG).testBit h)
          ∧ (t.fld (Fld.CLS_CE_EVPEND_PEND 0)).testBit 11 = true
          ∧ OnlyRegs [Reg.PWS_PMIC, Reg.CLS_CE_EVPEND 0, Reg.CLS_CE_CNT1 0] s t)
      ∧ ((s.fld Fld.PWS_PMIC_PG).testBit g ≠ level → ∃ w, exec (.pgChange g level) s = .next (wakeAdvance (bootAdvance w))
          ∧ (w.fld Fld.PWS_PMIC_PG).testBit g = level ∧ OnlyRegs [Reg.PWS_PMIC, Reg.CLS_CE_EVPEND 0, Reg.CLS_CE_CNT1 0] s w))
  ∧ (∀ s : State, s.pws.phase = .waking true → (∀ g, (g = 2 ∨ g = 3 ∨ g = 4) → s.pgOk g = true) → let t := wakeAdvance s
      (t.fld Fld.PWS_PMIC_EN).testBit 0 = true ∧ (t.fld Fld.PWS_PMIC_EN).testBit 1 = true
      ∧ (s.boot.pll = true → s.pgOk 0 = true → s.pgOk 1 = true → (s.fld Fld.PWS_PMIC_AUX_OFF).testBit 1 = true →
        (t.fld Fld.PWS_PMIC_EN).testBit 5 = true) ∧ OnlyRegs [Reg.PWS_PMIC] s t)
  ∧ (∀ (s : State) (est : List (Fin 65536)),
      let due := s.pws.winFrom + max 1 (s.fld Fld.PWS_BUDGET_WINDOW) * 800000 ≤ s.time.now
      let mw := fun (c : Nat) => (est.map (·.val)).getD c 0
      let total := ((List.range 14).map mw).sum
      let budget := s.fld Fld.PWS_BUDGET_BUDGET_MW
      let level := fun (t : State) (c : Nat) => t.fld (Fld.PWS_CLIENT_LEVEL c)
      let prio := fun (c : Nat) => s.fld (Fld.PWS_CLIENT_PRIO c)
      let all3 := ∀ c, 7 ≤ c → c < 11 → level s c = 3
      (¬due → exec (.budgetWindow est) s = .next s)
      ∧ (due → ∃ u b, exec (.budgetWindow est) s = .next (watchBudget u b total) ∧ (b = true ↔ all3)
        ∧ u.pws = { s.pws with winFrom := s.time.now } ∧ (∀ c, c < 14 → u.fld (Fld.PWS_CLIENT_EST_MW c) = mw c)
        ∧ (total < 65536 → u.fld Fld.PWS_EST_TOTAL_MW = total ∧ u.fld Fld.PWS_EST_PEAK_MW = max (s.fld Fld.PWS_EST_PEAK_MW) total)
        ∧ (budget < total → ∀ c, 7 ≤ c → c < 11 → level s c < 3 →
          (∀ d, 7 ≤ d → d < 11 → d ≠ c → level s d < 3 → prio c < prio d ∨ (prio c = prio d ∧ d < c)) → level u c = level s c + 1
          ∧ (∀ d, d < 14 → d ≠ c → level u d = level s d) ∧ u.fld Fld.PWS_CNT1_THROTTLES = min (s.fld Fld.PWS_CNT1_THROTTLES + 1) 65535)
        ∧ (10 * total ≤ 9 * budget → ∀ c, 7 ≤ c → c < 11 → 0 < level s c →
          (∀ d, 7 ≤ d → d < 11 → d ≠ c → 0 < level s d → prio d < prio c ∨ (prio c = prio d ∧ c < d)) → level u c + 1 = level s c
          ∧ (∀ d, d < 14 → d ≠ c → level u d = level s d) ∧ u.fld Fld.PWS_CNT1_THROTTLES = min (s.fld Fld.PWS_CNT1_THROTTLES + 1) 65535)
        ∧ (total ≤ budget → 9 * budget < 10 * total → ∀ c, c < 14 → level u c = level s c)
        ∧ SameRegs (Reg.PWS_EST :: Reg.PWS_CNT1 :: (List.range 14).map Reg.PWS_CLIENT) s u)
      ∧ (due → all3 → budget < total → s.pws.overRun + 1 < 100 → Completes (.budgetWindow est) s fun t =>
        t.pws.overRun = s.pws.overRun + 1 ∧ t.pws.winFrom = s.time.now)
      ∧ (due → all3 → budget < total → 99 ≤ s.pws.overRun → s.pws.overSaid = false → ∃ u, exec (.budgetWindow est) s = .next (reportCondition u 0x57 0)
        ∧ u.pws.overSaid = true)
      ∧ (due → all3 → budget < total → s.pws.overSaid = true → Completes (.budgetWindow est) s fun t =>
        t.pws.overSaid = true ∧ t.flt.log = s.flt.log ∧ ∀ i, i < 64 → t.srcState i = s.srcState i)
      ∧ (due → ¬all3 → budget < total → Completes (.budgetWindow est) s fun t => t.pws.overRun = 0 ∧ t.pws.overSaid = s.pws.overSaid)
      ∧ (due → total ≤ budget → Completes (.budgetWindow est) s fun t => t.pws.overRun = 0 ∧ t.pws.overSaid = false))
  ∧ (∀ (s : State) (r : Nat), let t := fireRamp s r
      ∃ p : Ramp, t.pws.ramp = some p ∧ p.delta = min 120 (s.fld (Fld.PWS_RAMP_DELTA r)) ∧ p.start = s.fld Fld.PWS_RAMP_STAT_BALLAST
        ∧ p.steps = 10 * max 1 (s.fld (Fld.PWS_RAMP_RAMP_US r)) ∧ p.made = 0 ∧ p.since = s.time.now
        ∧ t.fld Fld.PWS_RAMP_STAT_BALLAST = (if s.fld (Fld.PWS_RAMP_DIR r) = 1 then p.delta else p.start) ∧ OnlyRegs [Reg.PWS_RAMP_STAT] s { t with pws := s.pws })
  ∧ (∀ (s : State) (r : Ramp), s.pws.ramp = some r → r.delta ≤ 120 → r.start < 256 → r.since + 80 * (r.made + 1) ≤ s.time.now →
      let n := r.made + 1
      let line : Int := if r.down then r.delta * (r.steps - n) else r.start * r.steps + (r.delta - r.start) * n
      (r.steps ≤ n → Completes .rampBallastStep s fun t => t.pws.ramp = none ∧ t.fld Fld.PWS_RAMP_STAT_BALLAST = 0)
      ∧ (n < r.steps → Completes .rampBallastStep s fun t => t.pws.ramp = some { r with made := n }
        ∧ line - r.steps < r.steps * t.fld Fld.PWS_RAMP_STAT_BALLAST ∧ r.steps * t.fld Fld.PWS_RAMP_STAT_BALLAST < line + r.steps
        ∧ SameRegs [Reg.PWS_RAMP_STAT] s t))
  ∧ (∀ s : State, (s.pws.ramp = none ∨ ∃ r, s.pws.ramp = some r ∧ s.time.now < r.since + 80 * (r.made + 1)) →
      exec .rampBallastStep s = .next s)

/-! ### The Fault Hub -/

/-- R482 to R493, R495, R499 and R573: a report is recorded, logged and counted, its reactions come into force, and a standing
condition only refreshes its source. The model's choices it rests on: assumption log 7, 35. -/
def Obligations.FaultsAreRecordedAndReact : Prop :=
  (∀ (s : State) (kind : Fin 256) (unit : Fin 65536),
    let standing := conditionKind kind = true ∧ ∃ i, s.knownEntry (faultCode s kind unit) = some i ∧ s.srcState i ≠ 0
      ∧ (s.flt.src.at i).cond = true
    (¬standing → exec (.faultReport kind unit) s = .next (reportFault s kind unit))
    ∧ (standing → Completes (.faultReport kind unit) s fun t => t.regs = s.regs ∧ t.flt.log = s.flt.log
        ∧ ∀ i, s.knownEntry (faultCode s kind unit) = some i → (t.flt.src.at i).last = s.time.now
          ∧ (∀ j, j ≠ i → t.flt.src.at j = s.flt.src.at j)))
  ∧ (∀ (s : State) (kind unit i : Nat), kind < 256 → unit < 65536 →
    let r := reactionsOf s kind unit
    let code := faultCode s kind unit
    let known := s.knownEntry code = some i
    let t := reportFault s kind unit
    (known ∨ (s.knownEntry code = none ∧ s.freeEntry = some i)) →
    (r.elide = none → r.reset = false → r.reinit = false ∨ kind = 0x18 → kind ≠ 0x17 →
      t.srcCode i = code ∧ t.srcState i = (if s.srcState i = 2 then 2 else 1)
      ∧ (known → t.fld (Fld.FLT_SRC_STAT_OCCUR i) = min (s.fld (Fld.FLT_SRC_STAT_OCCUR i) + 1) 65535)
      ∧ (¬known → t.fld (Fld.FLT_SRC_STAT_OCCUR i) = 1)
      ∧ (t.flt.src.at i).last = s.time.now ∧ (t.flt.src.at i).cond = conditionKind kind
      ∧ (s.flt.log.length < 32 → t.flt.log = s.flt.log ++ [⟨BitVec.ofNat 32 code, s.time.phc.sec % 2 ^ 32, s.time.phc.ns⟩])
      ∧ (32 ≤ s.flt.log.length → t.flt.log = s.flt.log ∧ t.fld Fld.FLT_CNT2_LOG_OVF = min (s.fld Fld.FLT_CNT2_LOG_OVF + 1) 255)
      ∧ t.fld Fld.FLT_CNT1_CORRECTED = min (s.fld Fld.FLT_CNT1_CORRECTED + if r.cls = .corrected then 1 else 0) 65535
      ∧ t.fld Fld.FLT_CNT1_CONTAINED = min (s.fld Fld.FLT_CNT1_CONTAINED + if r.cls = .contained then 1 else 0) 65535
      ∧ t.fld Fld.FLT_CNT2_FATAL = min (s.fld Fld.FLT_CNT2_FATAL + if r.cls = .fatal then 1 else 0) 65535
      ∧ (r.quiet = .part → t.fld Fld.FLT_QUIET_PART = 1)
      ∧ (∀ k, k < 4 → r.quiet = .facet k → (t.fld Fld.FLT_QUIET_FACET).testBit k = true)
      ∧ (∀ p, p < 64 → r.quiet = .path p → t.bit64 Reg.FLT_QPATH_LO p = true)
      ∧ (∀ k, k < 4 → r.shut.testBit k = true → t.fld (Fld.CVA_FACET_STAT_READY k) = 0
        ∧ (t.fld Fld.FLT_QUIET_SHUT).testBit k = true ∧ (t.fld Fld.FLT_QUIET_FACET).testBit k = true)
      ∧ (r.cls ≠ .corrected → t.fld Fld.FLT_STATUS_FAULT_N = 1) ∧ (r.cls = .fatal → t.fld Fld.FLT_STATUS_FATAL = 1)
      ∧ ((r.n = true ∨ (r.cls = .corrected ∧ s.fld Fld.FLT_CTRL_EVT_CORR = 1)) → s.persona = false → t.isRaised 0 code = true)
      ∧ ∀ a, a / 2 ^ 24 ≠ 1 → a / 2 ^ 24 ≠ 6 → a / 2 ^ 24 ≠ 9 → a / 2 ^ 24 ≠ 15 → t.rd a = s.rd a)
    ∧ (∀ rx p, r.elide = some (rx, p) → s.elideExceeds rx p = false →
      t.srcCode i = code ∧ t.srcState i = (if s.srcState i = 2 then 2 else 1)
      ∧ t.bit64 (if rx then Reg.FLT_HUB_RX_LO else Reg.FLT_HUB_TX_LO) p = true
      ∧ t.bit64 (if rx then Reg.BFE_ELIDE_RX_LO else Reg.BFE_ELIDE_TX_LO) p = true
      ∧ (rx = false → t.bit64 Reg.FLT_QPATH_LO p = true))
    ∧ (r.reset = true → s.srcState i ≠ 2 → t.boot.hold = .full ∧ t.flt.fullReset = true ∧ t.boot.txHold = true
      ∧ t.srcCode i = code ∧ t.srcState i = 1 ∧ t.fld Fld.FLT_STATUS_FAULT_N = 1 ∧ t.fld Fld.BOOT_STATUS_CAUSE = 2)
    ∧ ((kind = 0x40 ∨ kind = 0x41) → t.srcState i = (if s.srcState i = 2 then 2 else 1)
      ∧ (t.fld Fld.DSP_STATUS_HALTED).testBit (unit % 4) = true ∧ (t.fld Fld.DSP_CTRL_RUN).testBit (unit % 4) = false
      ∧ t.dsp.reload.testBit (unit % 4) = true)
    ∧ (kind = 0x43 → unit ≠ 0 → t.srcState i = (if s.srcState i = 2 then 2 else 1) ∧ (t.ce (unit % 4)).pc = 0
      ∧ t.fld (Fld.CLS_CE_EVPEND_PEND (unit % 4)) = 0))
  ∧ (∀ (s : State) (kind unit i p : Nat) (rx : Bool), (reactionsOf s kind unit).elide = some (rx, p) → s.elideExceeds rx p = true →
    let code := faultCode s 0x17 (p + if rx then 64 else 0)
    let t := reportFault s kind unit
    (s.knownEntry code = some i ∨ (s.knownEntry code = none ∧ s.freeEntry = some i)) →
    t.srcCode i = code ∧ t.srcState i = 2
    ∧ t.fld Fld.FLT_CNT0_LATCHES = min (s.fld Fld.FLT_CNT0_LATCHES + if s.srcState i = 2 then 0 else 1) 65535
    ∧ (rx = false → t.bit64 Reg.FLT_QPATH_LO p = true))
  ∧ (∀ (s : State) (n : Fin 12), exec (.tjCrit n) s = .next (reportCondition s 0x51 n)
    ∧ Completes (.tjCritClear n) s fun t => t.regs = s.regs
      ∧ ∀ i, s.knownEntry (faultCode s 0x51 n) = some i → (t.flt.src.at i).cond = false ∧ ∀ j, j ≠ i → t.flt.src.at j = s.flt.src.at j)
  ∧ (∀ (s : State) (kind unit : Nat), (∀ i, s.knownEntry (faultCode s kind unit) = some i → s.srcState i = 0 ∨ (s.flt.src.at i).cond = false) →
    reportCondition s kind unit = reportFault s kind unit)
  ∧ (∀ (s : State) (pllB : Bool), exec (.corePllLoss pllB) s = .next (reportFault s 0x60 (if pllB then 1 else 0)))

/-- R483, R490, R494, R496, R497, R501, R502 and R575: sources recover, latch and are cleared, the log is popped, the host watchdog
runs and expires, and failed units come back. The model's choices it rests on: assumption log 7, 44. -/
def Obligations.SourcesRecoverLatchAndClear : Prop :=
  (∀ (s : State) (i : Fin 64), let r := s.recentRecov i
    let e := s.flt.src.at i
    let code := s.srcCode i
    let kind := codeKind code
    let period := max 1 (min 60000 (s.fld Fld.FLT_CTRL_QUIET_PERIOD)) * 800000
    let may := s.srcState i = 1 ∧ e.cond = false ∧ e.last + period ≤ s.time.now ∧ s.flt.fullReset = false
    (¬may → exec (.sourceRecover i) s = .next s)
    ∧ (may → 8 ≤ r.length → Completes (.sourceRecover i) s fun t => t.srcState i = 2
        ∧ t.fld Fld.FLT_CNT0_LATCHES = min (s.fld Fld.FLT_CNT0_LATCHES + 1) 65535
        ∧ t.fld Fld.FLT_CNT0_RECOVERIES = s.fld Fld.FLT_CNT0_RECOVERIES ∧ t.flt.src = s.flt.src)
    ∧ (may → r.length < 8 → Completes (.sourceRecover i) s fun t => t.srcState i = 0
        ∧ t.fld Fld.FLT_CNT0_RECOVERIES = min (s.fld Fld.FLT_CNT0_RECOVERIES + 1) 65535
        ∧ (t.flt.src.at i).recov = s.time.now :: r ∧ t.isRaised 0 code = false
        ∧ (∀ j, j ≠ i.val → j < 64 → t.srcState j = s.srcState j)
        ∧ (kind = 0x10 ∨ kind = 0x11 ∨ kind = 0x12 → (t.cva.sup.at (codeUnit code % 64)).want = true
          ∧ (t.cva.sup.at (codeUnit code % 64)).probation = true)
        ∧ (∀ k, k < 4 → (reactionsOf s kind (codeUnit code)).shut.testBit k = true → (t.fld Fld.FLT_QUIET_SHUT).testBit k = false →
          s.fld (Fld.CVA_FACET_CFG_EN k) = 1 →
          (kind ≠ 0x18 → t.fld (Fld.CVA_FACET_STAT_READY k) = 1)
          ∧ (kind = 0x18 → t.fld (Fld.CVA_FACET_STAT_FGCAL_BUSY k) = if s.rcsLocked then 1 else 0))))
  ∧ (∀ (s : State) (i : Fin 64),
    (s.srcState i = 2 → Completes (.fltClearOne i) s fun t => t.srcState i = 0 ∧ (t.flt.src.at i).recov = []
      ∧ t.isRaised 0 (s.srcCode i) = false ∧ t.fld Fld.FLT_CNT0_RECOVERIES = s.fld Fld.FLT_CNT0_RECOVERIES
      ∧ ∀ j, j ≠ i.val → j < 64 → t.srcState j = s.srcState j)
    ∧ (s.srcState i ≠ 2 → Completes (.fltClearOne i) s fun t => t.flt = s.flt ∧ t.fpe = s.fpe
      ∧ ∀ a, a / 2 ^ 24 ≠ 9 → a / 2 ^ 24 ≠ 15 → t.rd a = s.rd a))
  ∧ (∀ s : State, Completes .fltClearAll s fun t => t.flt.overflow = []
    ∧ ∀ i, i < 64 → t.srcState i = if s.srcState i = 2 then 0 else s.srcState i)
  ∧ (∀ (s : State) (v : Word),
    Completes (.fltHostWrite v) s fun t => t.fld Fld.FLT_HOST_EN = v.toNat / 2 ^ 31 ∧ t.fld Fld.FLT_HOST_QUIET = v.toNat / 2 ^ 30 % 2
      ∧ t.fld Fld.FLT_HOST_TO = v.toNat % 2 ^ 16
      ∧ (2 ^ 31 ≤ v.toNat → t.flt.hostFrom = some s.time.now ∧ t.flt.src = s.flt.src)
      ∧ (v.toNat < 2 ^ 31 → t.flt.hostFrom = none ∧ ∀ i, s.knownEntry (faultCode s 0x44 0) = some i → (t.flt.src.at i).cond = false)
      ∧ ∀ j, j < 64 → t.srcState j = s.srcState j)
  ∧ (∀ s : State, Completes .hostWatchdogKick s fun t => t.regs = s.regs
    ∧ t.flt.hostFrom = (if s.fld Fld.FLT_HOST_EN = 1 then some s.time.now else s.flt.hostFrom)
    ∧ ∀ i, s.knownEntry (faultCode s 0x44 0) = some i → (t.flt.src.at i).cond = false)
  ∧ (∀ s : State, let w := max 1 (s.fld Fld.FLT_HOST_TO) * 800000
    (∀ f, s.flt.hostFrom = some f → f + w ≤ s.time.now → ∃ u, exec .hostWatchdogExpire s = .next (reportCondition u 0x44 0)
      ∧ u = { s with flt := { s.flt with hostFrom := none } })
    ∧ ((s.flt.hostFrom = none ∨ ∃ f, s.flt.hostFrom = some f ∧ s.time.now < f + w) → exec .hostWatchdogExpire s = .next s))
  ∧ (∀ s : State, Completes .fltLogPop s fun t => t.flt.log = s.flt.log.drop 1 ∧ t.flt.src = s.flt.src ∧ t.regs = s.regs)
  ∧ (∀ (s : State) (n : Fin 4),
    (s.dsp.reload.testBit n = true → Completes (.subsystemReinitDone false n) s fun t => t.dsp.reload.testBit n = false
      ∧ (t.fld Fld.DSP_CTRL_RUN).testBit n = true)
    ∧ (s.dsp.reload.testBit n = false → exec (.subsystemReinitDone false n) s = .next s)
    ∧ (n.val ≠ 0 → Completes (.subsystemReinitDone true n) s fun t => t.fld (Fld.CLS_CE_CTRL_RUN n) = 1)
    ∧ (n.val = 0 → exec (.subsystemReinitDone true n) s = .next s))

/-! ### Resets, boot, flash and TX release -/

/-- R459, R483, R503 to R506, R509, R512 to R515, R534 and R535: what each reset leaves, the release, and how the boot goes on,
starts again and stops. The model's choices it rests on: assumption log 1, 7, 35, 36, 40, 41, 74. -/
def Obligations.ResetsAndBoot : Prop :=
  (∀ (s : State) (hold : ResetHold), let t := resetPart s hold
      t.boot.hold = hold ∧ t.boot.txHold = true ∧ t.boot.booted = false ∧ t.mem.sram = [] ∧ t.mem.dram = []
      ∧ t.fld Fld.CVA_STATUS_QPIN = s.fld Fld.CVA_STATUS_QPIN
      ∧ (∀ a, (a = Reg.BOOT_DIEID_LO ∨ a = Reg.BOOT_DIEID_HI) → t.rd a = s.rd a)
      ∧ (t.boot.imgHash, t.boot.userHash, t.boot.aesKey) = (s.boot.imgHash, s.boot.userHash, s.boot.aesKey)
      ∧ (s.boot.op = none → t.boot.flash = s.boot.flash)
      ∧ t.fld Fld.BOOT_STATUS_CAUSE = (match hold with
        | .resetn => 1 | .full => 2 | .reboot => 3 | _ => 0)
      ∧ (hold = .porst → t.flt = {} ∧ t.mem.repair = []
        ∧ ∀ a, a ∉ [Reg.CVA_STATUS, Reg.BOOT_DIEID_LO, Reg.BOOT_DIEID_HI, Reg.BOOT_STATUS] → t.rd a = regReset a)
      ∧ (hold ≠ .porst → t.flt.src = s.flt.src ∧ t.mem.repair = s.mem.repair
        ∧ (∀ i, i < 64 → t.srcCode i = s.srcCode i ∧ t.srcState i = s.srcState i)
        ∧ t.fld Fld.LKT_STAT_CHAL_FAIL = s.fld Fld.LKT_STAT_CHAL_FAIL ∧ t.fld Fld.PWS_PMIC_EN = s.fld Fld.PWS_PMIC_EN
        ∧ (hold = .full ∨ hold = .reboot → t.rd Reg.BOOT_STRAP = s.rd Reg.BOOT_STRAP
          ∧ t.fld Fld.LKT_STAT_JTAG_OPEN = s.fld Fld.LKT_STAT_JTAG_OPEN)
        ∧ ∀ a, a ∉ [Reg.CVA_STATUS, Reg.BOOT_DIEID_LO, Reg.BOOT_DIEID_HI, Reg.BOOT_STATUS, Reg.BOOT_STRAP, Reg.LKT_STAT, Reg.PWS_PMIC] →
            (a < Reg.FLT_SRC_CODE 0 ∨ Reg.FLT_SRC_CODE 64 ≤ a) → t.rd a = regReset a))
  ∧ (∀ s : State, exec .porstAssert s = .next (resetPart s .porst)
      ∧ (s.boot.hold ≠ .porst → exec .resetAssert s = .next (resetPart s .resetn))
      ∧ (s.boot.hold = .porst → exec .resetAssert s = .next s)
      ∧ (s.fld Fld.BOOT_FL_STAT_BUSY = 0 → exec .reboot s = .next (resetPart s .reboot))
      ∧ (s.fld Fld.BOOT_FL_STAT_BUSY = 1 → exec .reboot s = .next s)
      ∧ exec .supplyLoss s = .next { resetPart s .porst with acc := {} })
  ∧ (∀ (s : State) (env : BootEnv),
      let ready := fun (u : State) => u.boot.hold = .none ∧ u.boot.env = env ∧ u.boot.since = s.time.now ∧ u.stage = 2
        ∧ u.fld Fld.PWS_STATUS_ATTEMPTS = 1 ∧ (∀ g, (g = 2 ∨ g = 3 ∨ g = 4) → (u.fld Fld.PWS_PMIC_EN).testBit g = true)
        ∧ u.fld Fld.BOOT_STATUS_PERSONA = u.fld Fld.BOOT_STRAP_PERSONA ∧ u.rd64 Reg.BOOT_DIEID_LO = env.dieId.toNat
      let sampled := fun (u : State) => u.fld Fld.BOOT_STRAP_PERSONA = env.persona.toNat ∧ u.fld Fld.BOOT_STRAP_BOOT_SEL = env.bootSel
      (s.boot.hold = .porst → ∃ u, exec (.porstRelease env) s = .next (bootAdvance u) ∧ ready u ∧ sampled u)
      ∧ (s.boot.hold ≠ .porst → exec (.porstRelease env) s = .next s)
      ∧ (s.boot.hold = .resetn → ∃ u, exec (.resetRelease env) s = .next (bootAdvance u) ∧ ready u ∧ sampled u)
      ∧ ((s.boot.hold = .full ∨ s.boot.hold = .reboot) → ∃ u, exec (.resetRelease env) s = .next (bootAdvance u) ∧ ready u
        ∧ u.rd Reg.BOOT_STRAP = s.rd Reg.BOOT_STRAP)
      ∧ ((s.boot.hold = .porst ∨ s.boot.hold = .none) → exec (.resetRelease env) s = .next s))
  ∧ (∀ s : State, s.boot.hold ≠ .none ∨ s.boot.stopped = true ∨ s.fld Fld.BOOT_STATUS_RECOVERY = 1 ∨ s.stage = 15 → bootAdvance s = s)
  ∧ (∀ s : State, s.boot.hold = .none → s.boot.stopped = false → s.fld Fld.BOOT_STATUS_RECOVERY = 0 → let t := bootAdvance s
      (s.stage = 2 → (∃ g, (g = 2 ∨ g = 3 ∨ g = 4) ∧ s.pgOk g = false) → t = s)
      ∧ (s.stage = 2 → (∀ g, (g = 2 ∨ g = 3 ∨ g = 4) → s.pgOk g = true) →
        (s.fld Fld.BOOT_STRAP_BOOT_SEL = 3 → t.fld Fld.BOOT_STATUS_RECOVERY = 1 ∧ OnlyRegs [Reg.BOOT_STATUS] s t)
        ∧ (s.fld Fld.BOOT_STRAP_BOOT_SEL ≠ 3 → s.boot.pll = false → t.stage = 3 ∧ (t.fld Fld.PWS_PMIC_EN).testBit 0 = true
          ∧ (t.fld Fld.PWS_PMIC_EN).testBit 1 = true ∧ OnlyRegs [Reg.BOOT_STATUS, Reg.PWS_PMIC] s t))
      ∧ (s.stage = 11 → s.rcsLocked = false → s.rcs.busy ≠ none → t = s)
      ∧ (s.stage = 11 → s.rcsLocked = true → s.facetsSettled = false → t.stage = 12 ∧ OnlyRegs [Reg.BOOT_STATUS] s t)
      ∧ (s.stage = 12 → s.facetsSettled = true → t.stage = 15 ∧ t.fld Fld.BOOT_STATUS_RADIO_READY = 1 ∧ t.flt.fullReset = false
        ∧ t.fld Fld.BOOT_TIME_READY_MS = min 65535 (s.boot.env.ms + (s.time.now - s.boot.since) / 800000)))
  ∧ (∀ s : State, let c := chooseSlots s
      (s.fld Fld.BOOT_STRAP_BOOT_SEL = 1 → c = (s, [false])) ∧ (s.fld Fld.BOOT_STRAP_BOOT_SEL = 2 → c = (s, [true]))
      ∧ (s.fld Fld.BOOT_STRAP_BOOT_SEL = 0 →
        (s.headerCode false = 0 → s.headerCode true = 0 → c.2 = if s.imgSeq false < s.imgSeq true then [true, false] else [false, true])
        ∧ (∀ b, s.headerCode b = 0 → s.headerCode (!b) ≠ 0 → c.2 = [b]
          ∧ c.1.fld (if b then Fld.BOOT_ERR_ERR_A else Fld.BOOT_ERR_ERR_B) = s.headerCode (!b))
        ∧ (s.headerCode false ≠ 0 → s.headerCode true ≠ 0 → c.2 = [])))
  ∧ (∀ (s : State) (b : Bool), s.fld Fld.BOOT_STATUS_PERSONA = 0 → (loadSlot s b).2 = 0 →
      s.headerCode b = 0 ∧ s.tableOk b = true ∧ ∀ x, x ∈ s.imgSecs b → ∀ c, s.checkSec b x ≠ .fail c)
  ∧ (∀ s : State, let t := loadFrom [] s
      t.fld Fld.BOOT_STATUS_BOOT_FAIL = 1 ∧ t.fld Fld.BOOT_STATUS_RECOVERY = 1 ∧ t.fld Fld.FLT_STATUS_FAULT_N = 1)
  ∧ (∀ s : State, let t := bootImage s
      s.boot.env.sramBad.any (fun a => [8, 9, 10].contains (regionOf a)) = true →
      t.fld Fld.BOOT_STATUS_BOOT_FAIL = 1 ∧ t.fld Fld.BOOT_STATUS_RECOVERY = 1 ∧ t.fld Fld.BOOT_ERR_ERR_A = 14
      ∧ t.fld Fld.BOOT_ERR_ERR_B = 14 ∧ t.stage = 4)
  ∧ (∀ (s : State) (locked : Bool), s.boot.hold = .none → s.boot.stopped = false → s.fld Fld.BOOT_STATUS_RECOVERY = 0 →
      s.stage = 2 ∨ s.stage = 3 ∨ s.stage = 9 →
      let n := s.fld Fld.PWS_STATUS_ATTEMPTS
      (n < 4 → Completes (.wakeAttemptFail locked) s fun t => t.fld Fld.PWS_STATUS_ATTEMPTS = n + 1 ∧ t.stage = 2 ∧ t.boot.pll = false
        ∧ (∀ g, (g = 2 ∨ g = 3 ∨ g = 4) → (t.fld Fld.PWS_PMIC_EN).testBit g = true)
        ∧ (∀ g, (g = 0 ∨ g = 1 ∨ g = 5) → (t.fld Fld.PWS_PMIC_EN).testBit g = false))
      ∧ (4 ≤ n → ∃ u, exec (.wakeAttemptFail locked) s = .next (reportFault u 0x56 0) ∧ u.boot.stopped = true
        ∧ u.fld Fld.BOOT_ERR_ERR_A = 13 ∧ u.fld Fld.BOOT_ERR_ERR_B = 13 ∧ u.fld Fld.PWS_STATUS_WAKE_FAILED = 1
        ∧ u.fld Fld.PWS_PMIC_EN = 0))
  ∧ (∀ s : State, (∃ w, exec .corePllReady s = .next (wakeAdvance (bootAdvance w)) ∧ w.boot = { s.boot with pll := true }
        ∧ (w.fld (Fld.CLS_CE_EVPEND_PEND 0)).testBit 12 = true ∧ SameRegs [Reg.CLS_CE_EVPEND 0, Reg.CLS_CE_CNT1 0] s w)
      ∧ (s.stage = 15 → s.pws.phase ≠ .waking true → Completes .corePllReady s fun t => t.boot = { s.boot with pll := true }
        ∧ (t.fld (Fld.CLS_CE_EVPEND_PEND 0)).testBit 12 = true
        ∧ SameRegs [Reg.CLS_CE_EVPEND 0, Reg.CLS_CE_CNT1 0] s t))

/-- R510, R516 to R523: flash commands are refused with the first cause or run, what each leaves when it is done, the temperature
correction, and the release of TX and its withdrawal. The model's choices it rests on: assumption log 2, 7, 37, 39. -/
def Obligations.FlashCalibrationAndTxRelease : Prop :=
  (∀ (s : State) (op arg : Nat) (unlock : Byte), let a := s.fld Fld.BOOT_FL_ADDR_ADDR
      let c := s.flCause op arg unlock
      let cal := s.boot.flashSize - 0x40000 ≤ a ∧ a < s.boot.flashSize
      let base := if s.fld Fld.BOOT_STATUS_SLOT = 1 then (s.boot.flashSize - 0x40000) / 2 else 0
      let own := s.boot.booted = true ∧ base ≤ a ∧ a < base + (s.boot.flashSize - 0x40000) / 2
      let bad4 := a % (if op = 3 then 65536 else 256) ≠ 0 ∨ s.boot.flashSize ≤ a
      (s.fld Fld.BOOT_FL_STAT_BUSY = 1 → c = 1)
      ∧ (s.fld Fld.BOOT_FL_STAT_BUSY = 0 →
        ((op = 2 ∨ op = 3) ∧ own → c = 2)
        ∧ (¬((op = 2 ∨ op = 3) ∧ own) →
          (op ≠ 1 → cal → unlock ≠ 0xCA → c = 3)
          ∧ (op = 1 ∨ unlock = 0xCA ∨ (¬cal ∧ op ≠ 5) →
            (bad4 → c = 4)
            ∧ (¬bad4 → op ≠ 6 → c = 0)
            ∧ (¬bad4 → op = 6 → (c = 5 ↔ s.fld Fld.BOOT_STATUS_RECOVERY = 0 ∨ s.keyThere arg = true) ∧ (c ≠ 5 → c = 0))))))
  ∧ (∀ (s : State) (unlock : Byte) (arg : Fin 4), let a := s.fld Fld.BOOT_FL_ADDR_ADDR
      let runs := fun (c : Instr) (o : FlOp) => Completes c s fun t => t.fld Fld.BOOT_FL_STAT_BUSY = 1 ∧ t.boot.op = some o
        ∧ SameRegs [Reg.BOOT_FL_STAT] s t ∧ t.boot.flash = s.boot.flash
      let refused := fun (c : Instr) (n : Nat) => Completes c s fun t => t.fld Fld.BOOT_FL_STAT_REFUSED = 1
        ∧ t.fld Fld.BOOT_FL_STAT_CAUSE = n ∧ OnlyRegs [Reg.BOOT_FL_STAT] s t
      (s.flCause 1 0 0 = 0 → runs .flRead (.read a)) ∧ (s.flCause 1 0 0 ≠ 0 → refused .flRead (s.flCause 1 0 0))
      ∧ (s.flCause 2 0 unlock = 0 → runs (.flProgram unlock) (.program a))
      ∧ (s.flCause 2 0 unlock ≠ 0 → refused (.flProgram unlock) (s.flCause 2 0 unlock))
      ∧ (s.flCause 3 0 unlock = 0 → runs (.flErase unlock) (.erase a))
      ∧ (s.flCause 3 0 unlock ≠ 0 → refused (.flErase unlock) (s.flCause 3 0 unlock))
      ∧ (s.flCause 4 arg unlock = 0 → runs (.flVerify arg unlock) (.verify (arg.val % 2 == 1)))
      ∧ (s.flCause 4 arg unlock ≠ 0 → refused (.flVerify arg unlock) (s.flCause 4 arg unlock))
      ∧ (s.flCause 5 0 unlock = 0 → runs (.calSave unlock) (.calSave s.newCal))
      ∧ (s.flCause 5 0 unlock ≠ 0 → refused (.calSave unlock) (s.flCause 5 0 unlock))
      ∧ (s.flCause 6 arg unlock = 0 → runs (.otpKeyProgram arg unlock) (.key arg))
      ∧ (s.flCause 6 arg unlock ≠ 0 → refused (.otpKeyProgram arg unlock) (s.flCause 6 arg unlock)))
  ∧ (∀ (s : State) (o : FlOp), s.boot.op = some o → Completes .flOpDone s fun t => t.fld Fld.BOOT_FL_STAT_BUSY = 0 ∧ t.boot.op = none
      ∧ (∀ a, o = .read a → t.boot.flash = s.boot.flash ∧ (∀ i, i < 64 → (t.rd (Reg.BOOT_FL_BUF i)).toNat = s.flNum (a + 4 * i) 4)
        ∧ SameRegs (Reg.BOOT_FL_STAT :: (List.range 64).map Reg.BOOT_FL_BUF) s t)
      ∧ (∀ a, o = .program a → (∀ i, i < 64 → t.flNum (a + 4 * i) 4 = (s.rd (Reg.BOOT_FL_BUF i)).toNat)
        ∧ (∀ x, x < a ∨ a + 256 ≤ x → t.flBytes x 1 = s.flBytes x 1) ∧ SameRegs [Reg.BOOT_FL_STAT] s t)
      ∧ (∀ a, o = .erase a → (∀ i, i < 65536 → t.flBytes (a + i) 1 = [0xFF])
        ∧ (∀ x, x < a ∨ a + 65536 ≤ x → t.flBytes x 1 = s.flBytes x 1) ∧ SameRegs [Reg.BOOT_FL_STAT] s t)
      ∧ (∀ b, o = .verify b → t.fld Fld.BOOT_FL_STAT_VRES = (if s.slotCode b = 0 then 1 else 2)
        ∧ t.fld Fld.BOOT_FL_STAT_VERR = s.slotCode b % 256 ∧ t.boot.flash = s.boot.flash ∧ SameRegs [Reg.BOOT_FL_STAT] s t)
      ∧ (o = .key 0 → t.fld Fld.BOOT_OTP_IMG_KEY = 1 ∧ t.boot.imgHash = some ((List.range 12).flatMap fun i => beBytes (s.rd (Reg.BOOT_FL_BUF i)).toNat 4))
      ∧ (o = .key 1 → t.fld Fld.BOOT_OTP_USER_KEY = 1 ∧ t.boot.userHash = some ((List.range 12).flatMap fun i => beBytes (s.rd (Reg.BOOT_FL_BUF i)).toNat 4))
      ∧ (o = .key 2 → t.fld Fld.BOOT_OTP_AES_KEY = 1 ∧ t.boot.aesKey = some ((List.range 8).flatMap fun i => beBytes (s.rd (Reg.BOOT_FL_BUF i)).toNat 4)))
  ∧ (∀ s : State, s.boot.op = none → exec .flOpDone s = .next s)
  ∧ (∀ (s : State) (t0 t1 t2 t3 : Int), (s.boot.calValid = false → exec (.calTempCorrect t0 t1 t2 t3) s = .next s)
      ∧ (s.boot.calValid = true → Completes (.calTempCorrect t0 t1 t2 t3) s fun t => ∀ k i, k < 4 → i < 16 →
        let p := 16 * k + i
        let rec5 := s.boot.calRecs.find? (fun r => r.typ == 5 && r.idx == k)
        (rec5 = none → t.rd (Reg.BFE_PATH_CAL_TX p) = s.rd (Reg.BFE_PATH_CAL_TX p) ∧ t.rd (Reg.BFE_PATH_CAL_RX p) = s.rd (Reg.BFE_PATH_CAL_RX p))
        ∧ (∀ r, rec5 = some r →
          t.rd (Reg.BFE_PATH_CAL_TX p) = corrected (s.rd (Reg.BFE_PATH_CAL_TX p))
            (interpolate ([t0, t1, t2, t3].getD k 0) ((calPoints r).map (fun q => (q.1, q.2.1))))
          ∧ t.rd (Reg.BFE_PATH_CAL_RX p) = corrected (s.rd (Reg.BFE_PATH_CAL_RX p))
            (interpolate ([t0, t1, t2, t3].getD k 0) ((calPoints r).map (fun q => (q.1, q.2.2)))))
        ∧ SameRegs ((List.range 64).map Reg.BFE_PATH_CAL_TX ++ (List.range 64).map Reg.BFE_PATH_CAL_RX) s t))
  ∧ (∀ (x : Int) (l r : List (Int × Int)) (p q : Int × Int),
      (∀ y, y ∈ l → y.1 < p.1) → p.1 ≤ x → (x < q.1 → interpolate x (l ++ p :: q :: r)
        = if x = p.1 then (p.2, 1) else (p.2 * (q.1 - p.1) + (q.2 - p.2) * (x - p.1), q.1 - p.1))
      ∧ interpolate x (l ++ [p]) = (p.2, 1))
  ∧ (∀ s : State,
      let may := s.fld Fld.BOOT_STATUS_RADIO_READY = 1 ∧ s.fld Fld.LKT_STAT_CRC_OK = 1 ∧ (s.boot.calValid = true ∨ s.boot.noCalOk = true)
        ∧ (s.fld Fld.TIM_STATUS_TIME_OK = 1 ∨ (s.boot.freeRun = true ∧ s.fld Fld.LKT_STAT_SEALED = 0))
      (s.boot.txHold = true → may → Completes .txRelease s fun t => t.fld Fld.BOOT_TXREL_RELEASED = 1 ∧ t.boot = { s.boot with txHold := false }
        ∧ ∀ a, a / 2 ^ 24 ≠ 9 → a / 2 ^ 24 ≠ 15 → a ≠ Reg.BOOT_TXREL → t.rd a = s.rd a)
      ∧ (s.boot.txHold = false ∨ ¬may → exec .txRelease s = .next s))
  ∧ (∀ s : State,
      let due := s.fld Fld.BOOT_TXREL_RELEASED = 1 ∧ s.fld Fld.TIM_STATUS_TIME_OK = 0
        ∧ (s.boot.freeRun = false ∨ s.fld Fld.LKT_STAT_SEALED = 1)
        ∧ ∃ t, s.boot.timeLost = some t ∧ t + s.fld Fld.BOOT_TXREL_GRACE_MS * 800000 ≤ s.time.now
      (due → Completes .txReleaseWithdraw s fun t => t.fld Fld.BOOT_TXREL_RELEASED = 0 ∧ t.boot = { s.boot with txHold := true }
        ∧ t.fld Fld.BOOT_TXREL_HOLDS = min (s.fld Fld.BOOT_TXREL_HOLDS + 1) 255 ∧ (∀ p, p < 64 → t.quietHeld p = true)
        ∧ ∀ a, a / 2 ^ 24 ≠ 9 → a / 2 ^ 24 ≠ 15 → a ≠ Reg.BOOT_TXREL → t.rd a = s.rd a)
      ∧ (¬due → exec .txReleaseWithdraw s = .next s))

/-- R516, R519: the set that CAL_SAVE builds reads back, as a boot reads it, with WRITER 1, WRITES one more, and the records of the
values in force. The model's choices it rests on: assumption log 18, 39. -/
def Obligations.SavedCalibrationReadsBack : Prop :=
  ∀ s : State, s.boot.op = some (.calSave s.newCal) → s.newCal.length ≤ 0x40000 →
    (∀ r, r ∈ s.boot.calRecs → r.idx < 256 ∧ r.body.length < 65536) → Completes .flOpDone s fun t =>
    t.readCal = .ok 1 (s.fld Fld.BOOT_CAL_WRITES + 1) s.newCalRecs
    ∧ (∀ x, x < s.calBase ∨ s.calBase + 0x40000 ≤ x → t.flBytes x 1 = s.flBytes x 1)
    ∧ t.fld Fld.BOOT_FL_STAT_BUSY = 0 ∧ SameRegs [Reg.BOOT_FL_STAT] s t

/-! ### Access paths and shadow groups -/

/-- R553, R556 to R559 and R323: frames on MSPI and data registers on JTAG make accesses and are answered; EXTEST takes the lanes
out of service. The model's choices it rests on: assumption log 75, 76. -/
def Obligations.MspiAndJtagAccess : Prop :=
  (∀ (s : State) (addr : Word) (frame : List Byte), s.persona = false → frame.map (·.toNat) = 0x03 :: bytesOf addr.toNat 4 ++
      [crc8 (0x03 :: bytesOf addr.toNat 4)] →
    (∀ u v, nativeRead s { path := .mspi, perm := .mspi } addr.toNat = (u, .ok v) →
      exec (.mspiRead frame true) s = .next (u.emit (.mspi (0 :: bytesOf v.toNat 4 ++ [crc8 (0 :: bytesOf v.toNat 4)]))))
    ∧ (∀ u, nativeRead s { path := .mspi, perm := .mspi } addr.toNat = (u, .bus) →
      exec (.mspiRead frame true) s = .next (u.emit (.mspi [2, crc8 [2]]))))
  ∧ (∀ (s : State) (addr data : Word) (frame : List Byte), s.persona = false →
      frame.map (·.toNat) = 0x02 :: bytesOf addr.toNat 4 ++ bytesOf data.toNat 4 ++
        [crc8 (0x02 :: bytesOf addr.toNat 4 ++ bytesOf data.toNat 4)] →
    ∀ u v, nativeWrite s { path := .mspi, perm := .mspi } addr.toNat data = (u, .ok v) →
      exec (.mspiWrite frame true) s = .next (u.emit (.mspi [0, crc8 [0]])))
  ∧ (∀ (s : State) (frame : List Byte), s.persona = false → frame.length = 6 → frame.head? = some 0x03 →
      crc8 ((frame.take 5).map (·.toNat)) ≠ (frame.getD 5 0).toNat → exec (.mspiRead frame true) s = .next (s.emit (.mspi [1, crc8 [1]])))
  ∧ (∀ s : State, (Completes .jtagIdcode s fun t => t.out = .jtag 0x1646474B :: s.out ∧ t.acc.jtag.ir = 1 ∧ t.regs = s.regs)
      ∧ (Completes .jtagChalRead s fun t => t.out = .jtag ((s.rd (Reg.LKT_CHAL 0)).toNat * 2 ^ 96 + (s.rd (Reg.LKT_CHAL 1)).toNat * 2 ^ 64
          + (s.rd (Reg.LKT_CHAL 2)).toNat * 2 ^ 32 + (s.rd (Reg.LKT_CHAL 3)).toNat) :: s.out ∧ t.acc.jtag.ir = 0x20))
  ∧ (∀ (s : State) (key sig : List Byte), key.length = 97 → sig.length = 96 → Completes (.jtagChalAnswer key sig) s fun t =>
      t.acc.jtag.answer = some (key, sig) ∧ t.regs = s.regs)
  ∧ (∀ (s : State) (code : Byte), code.toNat ∉ [0x00, 0x01, 0x02, 0x09, 0x0A, 0x20, 0x21, 0x30] ∨ (s.jtagLocked = true ∧ code.toNat = 0x30) →
      Completes (.jtagBypass code) s fun t => t.acc.jtag.ir = 0xFF ∧ t.regs = s.regs)
  ∧ (∀ (s : State) (sampled shift : Nat), (Completes (.jtagSamplePreload sampled shift) s fun t =>
        t.acc.jtag.boundary = shift ∧ t.out = .jtag sampled :: s.out ∧ t.regs = s.regs)
      ∧ (s.jtagLocked = false → ∀ c, c = .jtagExtest sampled shift ∨ c = .jtagExtestPulse sampled shift ∨ c = .jtagExtestTrain sampled shift →
        Completes c s fun t => t.acc.jtag.boundary = shift ∧ t.out.head? = some (.jtag sampled) ∧ t.extest = true
          ∧ (s.extest = false → ∀ l, l < 16 → t.inService l = false)))
  ∧ (∀ (s : State) (addr data : Word), s.jtagLocked = false → s.extest = false →
    (∀ u v, nativeRead (s.updJtag (fun j => { j with ir := 0x30 })) { path := .jtag, perm := .jtag } addr.toNat = (u, .ok v) →
      Completes (.jtagRegRead addr) s fun t => t.out = .jtag (addr.toNat * 2 ^ 32 + v.toNat) :: u.out ∧ t.acc.jtag.status = 0
        ∧ t.regs = u.regs ∧ t.mem = u.mem)
    ∧ (∀ u v, nativeWrite (s.updJtag (fun j => { j with ir := 0x30 })) { path := .jtag, perm := .jtag } addr.toNat data = (u, .ok v) →
      Completes (.jtagRegWrite addr data) s fun t => t.out = .jtag (addr.toNat * 2 ^ 32) :: u.out ∧ t.acc.jtag.status = 0
        ∧ t.regs = u.regs ∧ t.mem = u.mem))

/-- R5, R560 and R562 to R566: a counter that clears when read, the capture and the hold of 64-bit pairs, a write of ARM, a plain
register, and a window on DRAM. The model's choices it rests on: assumption log 6, 42, 43. -/
def Obligations.RegistersAndPairsAreReached : Prop :=
  (∀ (s : State) (path : Path) (a : Word), accessBits (fun t => t == .rc) a.toNat ≠ 0 → s.reaches a.toNat = true → a.toNat < 0x0C000000 →
      a.toNat ≠ Reg.FPE_UBUF_LVL → a.toNat ≠ Reg.FPE_SEC_LVL → ix Reg.SRD_LANE_LQI 16 a.toNat = none →
      pairLo a.toNat = false → pairHi a.toNat = false → Completes (.rcRead path a) s fun t =>
      t.out = .read (pathCode path) a.toNat (some (s.shows (s.reqOwner (s.reqOf path)) a.toNat).toNat) :: s.out
      ∧ t.rd a.toNat &&& BitVec.ofNat 32 (accessBits (fun t => t == .rc) a.toNat) = 0 ∧ SameRegs [a.toNat] s t)
  ∧ (∀ (s : State) (n : Fin 64), s.reaches (Reg.TIM_TRG_TIME_LO n) = true →
      (∀ v, Completes (.twoHalfLoWrite .rma (BitVec.ofNat 32 (Reg.TIM_TRG_TIME_LO n)) v) s fun t => t.regs = s.regs
        ∧ heldHalf t.acc.heldWr 0 (Reg.TIM_TRG_TIME_LO n) = some v)
      ∧ (∀ h, heldHalf s.acc.heldWr 0 (Reg.TIM_TRG_TIME_LO n) = none →
          Completes (.twoHalfHiWrite .rma (BitVec.ofNat 32 (Reg.TIM_TRG_TIME_HI n)) h) s fun t =>
            t.rd (Reg.TIM_TRG_TIME_LO n) = s.rd (Reg.TIM_TRG_TIME_LO n) ∧ t.rd (Reg.TIM_TRG_TIME_HI n) = h
            ∧ SameRegs [Reg.TIM_TRG_TIME_LO n, Reg.TIM_TRG_TIME_HI n] s t)
      ∧ (∀ l h, heldHalf s.acc.heldWr 0 (Reg.TIM_TRG_TIME_LO n) = some l →
          Completes (.twoHalfHiWrite .rma (BitVec.ofNat 32 (Reg.TIM_TRG_TIME_HI n)) h) s fun t =>
            t.rd (Reg.TIM_TRG_TIME_LO n) = l ∧ t.rd (Reg.TIM_TRG_TIME_HI n) = h
            ∧ SameRegs [Reg.TIM_TRG_TIME_LO n, Reg.TIM_TRG_TIME_HI n] s t
            ∧ heldHalf t.acc.heldWr 0 (Reg.TIM_TRG_TIME_LO n) = none)
      ∧ (Completes (.twoHalfLoRead .rma (BitVec.ofNat 32 (Reg.TIM_TRG_TIME_LO n))) s fun t =>
          t.out = .read 0 (Reg.TIM_TRG_TIME_LO n) (some (s.rd (Reg.TIM_TRG_TIME_LO n)).toNat) :: s.out
          ∧ heldHalf t.acc.heldRd 0 (Reg.TIM_TRG_TIME_LO n) = some (s.rd (Reg.TIM_TRG_TIME_HI n)) ∧ t.regs = s.regs))
  ∧ (∀ (s : State) (c : Fin 32) (v : Word), s.reaches (Reg.LPE_CAR_SYMCTL c) = true →
      Completes (.shadowArmWrite .rma (BitVec.ofNat 32 (Reg.LPE_CAR_SYMCTL c)) v) s fun t =>
        t.fld (Fld.LPE_CAR_SYMCTL_ARM c) = v.toNat / 2 ^ 31
        ∧ t.acc.arms.at (Reg.LPE_CAR_SYMCTL c) = s.acc.arms.at (Reg.LPE_CAR_SYMCTL c) ++ [(s.cyc, v.getLsbD 31)]
        ∧ t.fld (Fld.LPE_CAR_SYMCTL_GEN c) = s.fld (Fld.LPE_CAR_SYMCTL_GEN c) ∧ t.acc.active = s.acc.active
        ∧ SameRegs [Reg.LPE_CAR_SYMCTL c] s t)
  ∧ (∀ (s : State) (a : Fin 8) (v : Word), s.reaches (Reg.BFE_AC_GAIN a) = true →
      Completes (.regWrite .rma (BitVec.ofNat 32 (Reg.BFE_AC_GAIN a)) v) s fun t =>
        t.fld (Fld.BFE_AC_GAIN_DL_SH a) = v.toNat / 2 ^ 28 ∧ t.fld (Fld.BFE_AC_GAIN_UL_SH a) = v.toNat / 2 ^ 24 % 16
        ∧ SameRegs [Reg.BFE_AC_GAIN a] s t ∧ t.mem = s.mem)
  ∧ (∀ (s : State) (c : Fin 32) (v : Word), s.reaches (Reg.LPE_CAR_SYM0 c) = true →
      Completes (.regWrite .rma (BitVec.ofNat 32 (Reg.LPE_CAR_SYM0 c)) v) s fun t =>
        (∃ w, t.acc.shLog = s.acc.shLog ++ [{ cyc := s.cyc, addr := Reg.LPE_CAR_SYM0 c, val := w }]) ∧ t.acc.active = s.acc.active
        ∧ SameRegs [Reg.LPE_CAR_SYM0 c] s t)
  ∧ (∀ (s : State) (a v : Word) (d : Nat), s.reaches a.toNat = true → s.dramAddr a.toNat = some d → s.mem.dramUe = [] →
      Completes (.regWrite .rma a v) s fun t => t.memRead true d 4 = leBytes v.toNat 4
        ∧ (∀ x, (x < d ∨ d + 4 ≤ x) → t.dramByte x = s.dramByte x) ∧ t.mem.sram = s.mem.sram ∧ t.regs = s.regs)
  ∧ (∀ (s : State) (path : Path) (a v : Word), s.reaches a.toNat = false → s.vpWindow a.toNat Reg.VP_WIN_D_HI = false →
      Completes (.regWrite path a v) s fun t => t.regs = s.regs ∧ t.mem = s.mem ∧ t.acc = s.acc)

/-- R99 and R100: a remote access that the part accepts is performed in order and answered, and any other is answered as failed. The
model's choices it rests on: assumption log 6, 75. -/
def Obligations.RemoteAccessesAreServed : Prop :=
  (∀ (s : State) (q : RmaReq) (rest : List RmaReq), s.fpe.rmaQ = q :: rest → s.fld (Fld.FPE_PORT_STAT_UP q.port) = 1 →
      s.fld (Fld.FPE_MSEC_CFG_EN q.port) = 0 → q.port < 8 → s.rmaAccepts q = false →
      ∀ c, (c = .rmaRead ∧ q.kind = 0) ∨ (c = .rmaWrite ∧ q.kind = 1) ∨ (c = .rmaWriteNoResponse ∧ q.kind = 2) → Completes c s fun t =>
        t.fpe.rmaQ = rest ∧ t.out = .rma q.port q.src q.id true [] :: s.out
        ∧ t.fld Fld.FPE_RMA_STAT_FAIL = min (s.fld Fld.FPE_RMA_STAT_FAIL + 1) 65535 ∧ t.mem = s.mem
        ∧ SameRegs [Reg.FPE_RMA_STAT, Reg.FPE_PORT_CNT1 q.port] s t)
  ∧ (∀ (s : State) (q : RmaReq) (rest : List RmaReq), s.fpe.rmaQ = q :: rest → s.rmaAccepts q = true →
    ∃ u, u.fpe.rmaQ = rest ∧ SameRegs [Reg.FPE_RMA_STAT] s u ∧ u.mem = s.mem ∧ u.out = s.out
      ∧ (q.kind = 0 → ∀ v l, readWords { path := .rma, perm := .rma, prot := q.prot } (q.len / 4) q.addr u = (v, l, true) →
          exec .rmaRead s = .next (rmaRespond v q false l) ∧ l.length = q.len / 4)
      ∧ (q.kind = 1 → ∀ v, writeWords { path := .rma, perm := .rma, prot := q.prot } (q.words.take (q.len / 4)) q.addr u = (v, true) →
          exec .rmaWrite s = .next (rmaRespond v q false []))
      ∧ (q.kind = 2 → ∀ v, writeWords { path := .rma, perm := .rma, prot := q.prot } (q.words.take (q.len / 4)) q.addr u = (v, true) →
          exec .rmaWriteNoResponse s = .next v))
  ∧ (∀ (s : State) (d : Nat) (v : Word) (r : Req), s.dramAddr (d + 0x80000000) = some d → s.reaches (d + 0x80000000) = true →
      s.mem.dramUe = [] → ∃ t, writeWords r [v] (d + 0x80000000) s = (t, true) ∧ t.memRead true d 4 = leBytes v.toNat 4
        ∧ readWords r 1 (d + 0x80000000) t = (t, [v.toNat], true))

/-! ### The part as a whole -/

/-- A step takes the command at the front of the queue and runs it with the rest of the queue; with no command waiting one tick of
1.25 ns passes (assumption log 3), which a held reset does not stop. The model's choices it rests on: assumption log 3, 19, 79. -/
def Obligations.StepRunsTheFrontCommand : Prop :=
  (∀ (c : Instr) (s : State) (rest : List Instr), s.pending = c :: rest → step s = exec c { s with pending := rest })
  ∧ (∀ s : State, s.pending = [] → ∃ t, step s = .next t ∧ t.pending = [] ∧ t.time.now = s.time.now + 1
      ∧ (s.boot.hold ≠ .none ∨ s.pws.coreOff = true → t = { s with time := { s.time with now := s.time.now + 1 } })
      ∧ (s.boot.hold = .none → s.pws.coreOff = false → t.acc.facetCyc * 800000 + t.acc.facetRem
          = s.acc.facetCyc * 800000 + s.acc.facetRem + s.facetKhz))

/-- R459, R505, R520, R523, R561: the part right after reset: PORST_N holds it, every register reads its reset value, no memory is
listed, every DAC is silent, and no command waits. The model's choices it rests on: assumption log 1, 19, 32. -/
def Obligations.ResetLeavesThePartSilent : Prop :=
  let s := State.reset
  s.canon ∧ s.silent ∧ s.pending = [] ∧ s.out = [] ∧ s.boot.hold = .porst ∧ s.boot.txHold = true ∧ s.flt.log = []
  ∧ (∀ a, s.rd a = regReset a)
  ∧ s.fld Fld.BOOT_ID_PART = 0x6464 ∧ s.fld Fld.BOOT_ID_REV = 0xB0 ∧ s.fld Fld.BOOT_ID_GRADE = 1
  ∧ s.fld Fld.FLT_CTRL_QUIET_PERIOD = 100 ∧ s.fld Fld.FLT_HOST_TO = 1000 ∧ s.rd Reg.FLT_STBMAP0 = 0xFFFFFFFF
  ∧ s.fld Fld.PWS_BUDGET_BUDGET_MW = 60000 ∧ s.fld Fld.PWS_BUDGET_WINDOW = 10 ∧ s.fld Fld.PWS_KEEP_KEEP_SEL = 255
  ∧ s.fld Fld.BOOT_TXREL_GRACE_MS = 2000 ∧ s.fld Fld.PWS_STATUS_STATE = 0 ∧ s.fld Fld.BOOT_STATUS_STAGE = 0
  ∧ (∀ c, c < 14 → s.fld (Fld.PWS_CLIENT_PRIO c) = ([7, 7, 7, 7, 7, 7, 7, 3, 4, 2, 1, 7, 7, 7] : List Nat).getD c 0)
  ∧ (∀ i, i < 64 → s.srcState i = 0)

/-- R50: the position that a count of Tc gives is the symbol that contains it: the start and length of every symbol of every
numerology invert it, and every instant lies in the symbol of its position. -/
def Obligations.AirPositionsInvertSymbolStarts : Prop :=
  (∀ (mu : Nat) (ecp : Bool) (frame : Int) (y : SymId) (d : Nat), mu ≤ 2 →
      y.sfn = (frame % 1024).toNat → y.subframe < 10 → y.slot < 2 ^ mu → y.symbol < perSlot ecp → d < symLenTc mu ecp y →
      airPos mu ecp (symTc mu ecp frame y + d) = y)
  ∧ (∀ (mu : Nat) (ecp : Bool) (p : Int), mu ≤ 2 → let y := airPos mu ecp p
      y.subframe < 10 ∧ y.slot < 2 ^ mu ∧ y.symbol < perSlot ecp ∧ y.sfn = (p / 19660800 % 1024).toNat
      ∧ symTc mu ecp (p / 19660800) y ≤ p ∧ p < symTc mu ecp (p / 19660800) y + symLenTc mu ecp y)

/-- Every command answers a next state that keeps the canonical form of the registers, the SRAM and the DRAM and leaves the waiting
commands as they are, and so does every step. The model's choices it rests on: assumption log 3, 7, 32. -/
def Obligations.EveryStepAnswersInCanonicalForm : Prop :=
  (∀ (c : Instr) (s : State), s.canon → ∃ t, exec c s = .next t ∧ t.canon ∧ t.pending = s.pending)
  ∧ (∀ s : State, s.canon → ∃ t, step s = .next t ∧ t.canon ∧ t.pending = s.pending.drop 1)
end

