-- ==== Sys2Proof/Laws/Map.lean ====
section
/-! SUPPORT. Laws/Map.lean: the laws of sparse storage: a read after a write, a write leaves every other key alone, and every
operation keeps the canonical form. -/

namespace Sys2Proof.Machine

variable {α : Type}

theorem mapGet_put_self (d : Nat → α) (m : SMap α) (a : Nat) (v : α) : mapGet d (mapPut a v m) a = v := by
  induction m with
  | nil => simp [mapPut, mapGet]
  | cons p m ih =>
    obtain ⟨k, w⟩ := p
    simp only [mapPut]
    split
    · simp [mapGet]
    · split
      · simp [mapGet]
      · simp [mapGet, *]

theorem mapGet_put_ne (d : Nat → α) (m : SMap α) {a b : Nat} (h : b ≠ a) (v : α) :
    mapGet d (mapPut a v m) b = mapGet d m b := by
  induction m with
  | nil => simp [mapPut, mapGet, h]
  | cons p m ih =>
    obtain ⟨k, w⟩ := p
    simp only [mapPut]
    split
    · simp [mapGet, h]
    · split
      · rename_i _ e
        subst e
        simp [mapGet, h]
      · simp only [mapGet, ih]

theorem mapGet_erase_self (d : Nat → α) (m : SMap α) (a : Nat) : mapGet d (mapErase a m) a = d a := by
  induction m with
  | nil => simp [mapErase, mapGet]
  | cons p m ih =>
    obtain ⟨k, w⟩ := p
    by_cases e : k = a
    · simpa [mapErase, e] using ih
    · have e' : ¬ a = k := fun h => e h.symm
      simp only [mapErase] at ih
      simp [mapErase, e, mapGet, e', ih]

theorem mapGet_erase_ne (d : Nat → α) (m : SMap α) {a b : Nat} (h : b ≠ a) :
    mapGet d (mapErase a m) b = mapGet d m b := by
  induction m with
  | nil => simp [mapErase, mapGet]
  | cons p m ih =>
    obtain ⟨k, w⟩ := p
    simp only [mapErase] at ih
    by_cases e : k = a
    · subst e
      simp [mapErase, mapGet, h, ih]
    · simp [mapErase, e, mapGet, ih]

/-- A read after a write: the key written reads as the value written, every other key as before. -/
@[simp] theorem mapGet_set [DecidableEq α] (d : Nat → α) (m : SMap α) (a b : Nat) (v : α) :
    mapGet d (mapSet d m a v) b = if b = a then v else mapGet d m b := by
  unfold mapSet
  by_cases h : b = a
  · subst h
    split
    · simp [mapGet_erase_self, *]
    · simp [mapGet_put_self]
  · split
    · simp [mapGet_erase_ne, h]
    · simp [mapGet_put_ne, mapGet_erase_ne, h]

/-! ### The canonical form -/

theorem mapSorted_le {b c : Nat} (h : c ≤ b) {m : SMap α} (hs : mapSorted b m = true) : mapSorted c m = true := by
  cases m with
  | nil => rfl
  | cons p m =>
    obtain ⟨k, w⟩ := p
    simp only [mapSorted, Bool.and_eq_true, decide_eq_true_eq] at hs ⊢
    exact ⟨by omega, hs.2⟩

theorem mapSorted_filter (p : Nat × α → Bool) {b : Nat} {m : SMap α} (hs : mapSorted b m = true) :
    mapSorted b (m.filter p) = true := by
  induction m generalizing b with
  | nil => rfl
  | cons q m ih =>
    obtain ⟨k, w⟩ := q
    simp only [mapSorted, Bool.and_eq_true, decide_eq_true_eq] at hs
    simp only [List.filter]
    split
    · simp only [mapSorted, Bool.and_eq_true, decide_eq_true_eq]
      exact ⟨hs.1, ih hs.2⟩
    · exact mapSorted_le (by omega) (ih hs.2)

theorem mapSorted_put {a b : Nat} (v : α) {m : SMap α} (hb : b ≤ a) (hs : mapSorted b m = true) :
    mapSorted b (mapPut a v m) = true := by
  induction m generalizing b with
  | nil => simp [mapPut, mapSorted, hb]
  | cons q m ih =>
    obtain ⟨k, w⟩ := q
    simp only [mapSorted, Bool.and_eq_true, decide_eq_true_eq] at hs
    simp only [mapPut]
    split
    · simp only [mapSorted, Bool.and_eq_true, decide_eq_true_eq]
      exact ⟨hb, by omega, hs.2⟩
    · split
      · rename_i _ e
        subst e
        simp only [mapSorted, Bool.and_eq_true, decide_eq_true_eq]
        exact ⟨hb, hs.2⟩
      · simp only [mapSorted, Bool.and_eq_true, decide_eq_true_eq]
        exact ⟨hs.1, ih (by omega) hs.2⟩

theorem mapPut_all (q : Nat × α → Bool) {a : Nat} {v : α} {m : SMap α} (hv : q (a, v) = true) (hm : m.all q = true) :
    (mapPut a v m).all q = true := by
  induction m with
  | nil => simpa [mapPut] using hv
  | cons p m ih =>
    obtain ⟨k, w⟩ := p
    simp only [List.all_cons, Bool.and_eq_true] at hm
    simp only [mapPut]
    split
    · simp only [List.all_cons, Bool.and_eq_true]
      exact ⟨hv, hm⟩
    · split
      · simp only [List.all_cons, Bool.and_eq_true]
        exact ⟨hv, hm.2⟩
      · simp only [List.all_cons, Bool.and_eq_true]
        exact ⟨hm.1, ih hm.2⟩

theorem all_filter (q r : Nat × α → Bool) {m : SMap α} (hm : m.all q = true) : (m.filter r).all q = true := by
  rw [List.all_eq_true] at hm ⊢
  intro x hx
  exact hm x (List.mem_filter.mp hx).1

/-- Nothing listed is in canonical form. -/
@[simp] theorem mapWf_nil [DecidableEq α] (d : Nat → α) : mapWf d [] = true := rfl

/-- Leaving pairs out keeps the canonical form. -/
theorem mapWf_filter [DecidableEq α] (d : Nat → α) (p : Nat × α → Bool) {m : SMap α} (h : mapWf d m = true) :
    mapWf d (m.filter p) = true := by
  simp only [mapWf, Bool.and_eq_true] at h ⊢
  exact ⟨mapSorted_filter p h.1, all_filter _ p h.2⟩

/-- A reset that keeps some keys keeps the canonical form. -/
theorem mapWf_keep [DecidableEq α] (d : Nat → α) (keep : Nat → Bool) {m : SMap α} (h : mapWf d m = true) :
    mapWf d (mapKeep keep m) = true := mapWf_filter d _ h

/-- A write keeps the canonical form. -/
theorem mapWf_set [DecidableEq α] (d : Nat → α) (a : Nat) (v : α) {m : SMap α} (h : mapWf d m = true) :
    mapWf d (mapSet d m a v) = true := by
  unfold mapSet
  have he : mapWf d (mapErase a m) = true := mapWf_filter d _ h
  split
  · exact he
  · rename_i hv
    simp only [mapWf, Bool.and_eq_true] at he ⊢
    exact ⟨mapSorted_put v (Nat.zero_le a) he.1, mapPut_all _ (by simpa using hv) he.2⟩

/-! ### Storage whose unlisted keys read as the default value -/

@[simp] theorem SMap.at_put [Inhabited α] [DecidableEq α] (m : SMap α) (a b : Nat) (v : α) :
    (m.put a v).at b = if b = a then v else m.at b := by
  simp [SMap.at, SMap.put]

@[simp] theorem SMap.at_upd [Inhabited α] [DecidableEq α] (m : SMap α) (a b : Nat) (f : α → α) :
    (m.upd a f).at b = if b = a then f (m.at a) else m.at b := by
  simp [SMap.upd]

@[simp] theorem SMap.at_nil [Inhabited α] (a : Nat) : SMap.at ([] : SMap α) a = default := rfl

/-- Below the first listed key everything reads as unlisted. -/
theorem mapGet_below {d : Nat → α} {b a : Nat} {m : SMap α} (hs : mapSorted b m = true) (h : a < b) :
    mapGet d m a = d a := by
  induction m generalizing b with
  | nil => rfl
  | cons p m ih =>
    obtain ⟨k, w⟩ := p
    simp only [mapSorted, Bool.and_eq_true, decide_eq_true_eq] at hs
    have : ¬ a = k := by omega
    simp only [mapGet, this, if_false]
    exact ih hs.2 (by omega)

theorem mapExt_sorted {d : Nat → α} {b c : Nat} {m n : SMap α} (hm : mapSorted b m = true) (hn : mapSorted c n = true)
    (am : ∀ p ∈ m, p.2 ≠ d p.1) (an : ∀ p ∈ n, p.2 ≠ d p.1) (h : ∀ k, mapGet d m k = mapGet d n k) : m = n := by
  induction m generalizing b c n with
  | nil =>
    cases n with
    | nil => rfl
    | cons q n =>
      have := h q.1
      simp [mapGet] at this
      exact absurd this.symm (an q (by simp))
  | cons p m ih =>
    obtain ⟨k, v⟩ := p
    have hk : v ≠ d k := am (k, v) (by simp)
    have hs := hm
    simp only [mapSorted, Bool.and_eq_true, decide_eq_true_eq] at hs
    cases n with
    | nil =>
      have := h k
      simp [mapGet] at this
      exact absurd this hk
    | cons q n =>
      obtain ⟨k', v'⟩ := q
      have hk' : v' ≠ d k' := an (k', v') (by simp)
      have hs' := hn
      simp only [mapSorted, Bool.and_eq_true, decide_eq_true_eq] at hs'
      have e : k = k' := by
        have h1 := h k
        have h2 := h k'
        simp only [mapGet, if_true] at h1 h2
        rcases Nat.lt_trichotomy k k' with hl | hl | hl
        · have : ¬ k = k' := by omega
          simp only [this, if_false] at h1
          rw [mapGet_below hs'.2 (by omega)] at h1
          exact absurd h1 hk
        · exact hl
        · have : ¬ k' = k := by omega
          simp only [this, if_false] at h2
          rw [mapGet_below hs.2 (by omega)] at h2
          exact absurd h2.symm hk'
      subst e
      have ev : v = v' := by simpa [mapGet] using h k
      subst ev
      have hr : m = n := by
        refine ih hs.2 hs'.2 (fun p hp => am p (by simp [hp])) (fun p hp => an p (by simp [hp])) ?_
        intro j
        by_cases hj : j < k + 1
        · rw [mapGet_below hs.2 hj, mapGet_below hs'.2 hj]
        · have : ¬ j = k := by omega
          simpa [mapGet, this] using h j
      rw [hr]

/-- Storage in canonical form that reads alike is equal data. -/
theorem mapWf_ext [DecidableEq α] {d : Nat → α} {m n : SMap α} (hm : mapWf d m = true) (hn : mapWf d n = true)
    (h : ∀ k, mapGet d m k = mapGet d n k) : m = n := by
  simp only [mapWf, Bool.and_eq_true, List.all_eq_true, bne_iff_ne] at hm hn
  exact mapExt_sorted hm.1 hn.1 hm.2 hn.2 h

end Sys2Proof.Machine
end

