-- ==== Sys2Proof/Laws/Regs.lean ====
section
/-! SUPPORT. Laws/Regs.lean: the laws of registers and their fields: what a register and a field read as after a write, and
that a write of one field leaves every other field alone. -/

namespace Sys2Proof.Machine

/-! ### Fields of a word -/

theorem testBit_setField (lo w : Nat) (v : Word) (n i : Nat) :
    (setField lo w v n).toNat.testBit i =
      (decide (i < 32) && if lo ≤ i ∧ i < lo + w then n.testBit (i - lo) else v.toNat.testBit i) := by
  have e : v.toNat % 2 ^ lo + n % 2 ^ w * 2 ^ lo + v.toNat / 2 ^ (lo + w) * 2 ^ (lo + w)
      = 2 ^ lo * (2 ^ w * (v.toNat / 2 ^ (lo + w)) + n % 2 ^ w) + v.toNat % 2 ^ lo := by
    rw [Nat.mul_add, ← Nat.mul_assoc, ← Nat.pow_add, Nat.mul_comm (v.toNat / _), Nat.mul_comm (n % _)]
    omega
  unfold setField
  rw [BitVec.toNat_ofNat, Nat.testBit_mod_two_pow, e,
    Nat.testBit_two_pow_mul_add _ (Nat.mod_lt _ (Nat.two_pow_pos lo))]
  congr 1
  split
  · rename_i h
    have : ¬ (lo ≤ i ∧ i < lo + w) := by omega
    rw [if_neg this, Nat.testBit_mod_two_pow]
    simp [h]
  · rename_i h
    rw [Nat.testBit_two_pow_mul_add _ (Nat.mod_lt _ (Nat.two_pow_pos w))]
    split
    · rename_i h2
      have : lo ≤ i ∧ i < lo + w := by omega
      rw [if_pos this, Nat.testBit_mod_two_pow]
      simp [h2]
    · rename_i h2
      have : ¬ (lo ≤ i ∧ i < lo + w) := by omega
      rw [if_neg this, Nat.testBit_div_two_pow]
      congr 1
      omega

theorem testBit_fieldOf (lo w : Nat) (v : Word) (i : Nat) :
    (fieldOf lo w v).testBit i = (decide (i < w) && v.toNat.testBit (i + lo)) := by
  unfold fieldOf
  rw [Nat.testBit_mod_two_pow, Nat.testBit_div_two_pow]

theorem fieldOf_lt (lo w : Nat) (v : Word) : fieldOf lo w v < 2 ^ w := Nat.mod_lt _ (Nat.two_pow_pos w)

/-- A field reads as what was put into it. -/
theorem fieldOf_setField (lo w : Nat) (v : Word) (n : Nat) (h : lo + w ≤ 32) :
    fieldOf lo w (setField lo w v n) = n % 2 ^ w := by
  apply Nat.eq_of_testBit_eq
  intro i
  rw [testBit_fieldOf, testBit_setField, Nat.testBit_mod_two_pow]
  by_cases hi : i < w
  · have h1 : i + lo < 32 := by omega
    have h2 : lo ≤ i + lo ∧ i + lo < lo + w := by omega
    simp only [h1, h2, hi, and_self, if_true, decide_true, Bool.true_and, Nat.add_sub_cancel]
  · simp [hi]

/-- A field that does not overlap the one that is set is unchanged. -/
theorem fieldOf_setField_ne (lo w lo' w' : Nat) (v : Word) (n : Nat) (h : lo' + w' ≤ lo ∨ lo + w ≤ lo') :
    fieldOf lo' w' (setField lo w v n) = fieldOf lo' w' v := by
  apply Nat.eq_of_testBit_eq
  intro i
  rw [testBit_fieldOf, testBit_fieldOf, testBit_setField]
  by_cases hi : i < w'
  · have h2 : ¬ (lo ≤ i + lo' ∧ i + lo' < lo + w) := by omega
    by_cases h1 : i + lo' < 32
    · simp [hi, h1, h2]
    · have : v.toNat.testBit (i + lo') = false :=
        Nat.testBit_lt_two_pow (Nat.lt_of_lt_of_le v.isLt (Nat.pow_le_pow_right (by omega) (by omega)))
      simp [h1, this]
  · simp [hi]

/-! ### Registers -/

/-- The value of a register after a write. -/
@[simp] theorem State.rd_wr (s : State) (a b : Nat) (v : Word) : (s.wr a v).rd b = if b = a then v else s.rd b := by
  simp [State.rd, State.wr]

theorem State.rd_wr_self (s : State) (a : Nat) (v : Word) : (s.wr a v).rd a = v := by simp [State.rd_wr]

theorem State.rd_wr_ne (s : State) {a b : Nat} (h : b ≠ a) (v : Word) : (s.wr a v).rd b = s.rd b := by
  simp [State.rd_wr, h]

/-- A register other than the field's is unchanged. -/
@[simp] theorem State.rd_setFld_ne (s : State) (f : Fld) (n : Nat) {b : Nat} (h : b ≠ f.reg) : (s.setFld f n).rd b = s.rd b :=
  State.rd_wr_ne s h _

theorem State.rd_setFld_self (s : State) (f : Fld) (n : Nat) :
    (s.setFld f n).rd f.reg = setField f.lo f.width (s.rd f.reg) n := State.rd_wr_self s _ _

@[simp] theorem State.rd_flag_ne (s : State) (f : Fld) (v : Bool) {b : Nat} (h : b ≠ f.reg) : (s.flag f v).rd b = s.rd b :=
  State.rd_wr_ne s h _

@[simp] theorem State.rd_bump_ne (s : State) (f : Fld) (n : Nat) {b : Nat} (h : b ≠ f.reg) : (s.bump f n).rd b = s.rd b :=
  State.rd_wr_ne s h _

/-- A field reads as what was put into it. -/
@[simp] theorem State.fld_setFld (s : State) (f : Fld) (n : Nat) (h : f.lo + f.width ≤ 32) :
    (s.setFld f n).fld f = n % 2 ^ f.width := by
  unfold State.fld
  rw [State.rd_setFld_self, fieldOf_setField _ _ _ _ h]

/-- Another field is unchanged: one of another register, or one that does not overlap. -/
@[simp] theorem State.fld_setFld_ne (s : State) (f g : Fld) (n : Nat)
    (h : g.reg ≠ f.reg ∨ g.lo + g.width ≤ f.lo ∨ f.lo + f.width ≤ g.lo) : (s.setFld f n).fld g = s.fld g := by
  unfold State.fld
  by_cases e : g.reg = f.reg
  · rw [e, State.rd_setFld_self, fieldOf_setField_ne]
    rcases h with h | h
    · exact absurd e h
    · exact h
  · rw [State.rd_setFld_ne s f n e]

theorem State.fld_lt (s : State) (f : Fld) : s.fld f < 2 ^ f.width := fieldOf_lt _ _ _

@[simp] theorem State.fld_wr_ne (s : State) (g : Fld) {a : Nat} (h : g.reg ≠ a) (v : Word) : (s.wr a v).fld g = s.fld g := by
  unfold State.fld
  rw [State.rd_wr_ne s h]

theorem State.fld_wr_self (s : State) (g : Fld) (v : Word) : (s.wr g.reg v).fld g = fieldOf g.lo g.width v := by
  unfold State.fld
  rw [State.rd_wr_self]

@[simp] theorem State.fld_flag (s : State) (f : Fld) (b : Bool) (h : f.lo + f.width ≤ 32) (hw : 0 < f.width) :
    (s.flag f b).fld f = b.toNat := by
  rw [State.flag, State.fld_setFld s f _ h, Nat.mod_eq_of_lt]
  cases b
  · exact Nat.two_pow_pos _
  · exact Nat.one_lt_two_pow (by omega)

@[simp] theorem State.on_flag (s : State) (f : Fld) (b : Bool) (h : f.lo + f.width ≤ 32) (hw : 0 < f.width) :
    (s.flag f b).on f = b := by
  unfold State.on
  rw [State.fld_flag s f b h hw]
  cases b <;> rfl

@[simp] theorem State.fld_flag_ne (s : State) (f g : Fld) (b : Bool)
    (h : g.reg ≠ f.reg ∨ g.lo + g.width ≤ f.lo ∨ f.lo + f.width ≤ g.lo) : (s.flag f b).fld g = s.fld g :=
  State.fld_setFld_ne s f g _ h

/-- A saturating counter after a count. -/
@[simp] theorem State.fld_bump (s : State) (f : Fld) (n : Nat) (h : f.lo + f.width ≤ 32) :
    (s.bump f n).fld f = min (s.fld f + n) (2 ^ f.width - 1) := by
  rw [State.bump, State.fld_setFld s f _ h, Nat.mod_eq_of_lt]
  have := Nat.two_pow_pos f.width
  omega

@[simp] theorem State.fld_bump_ne (s : State) (f g : Fld) (n : Nat)
    (h : g.reg ≠ f.reg ∨ g.lo + g.width ≤ f.lo ∨ f.lo + f.width ≤ g.lo) : (s.bump f n).fld g = s.fld g :=
  State.fld_setFld_ne s f g _ h

@[simp] theorem State.on_setFld_ne (s : State) (f g : Fld) (n : Nat)
    (h : g.reg ≠ f.reg ∨ g.lo + g.width ≤ f.lo ∨ f.lo + f.width ≤ g.lo) : (s.setFld f n).on g = s.on g := by
  simp [State.on, State.fld_setFld_ne s f g n h]

@[simp] theorem State.on_flag_ne (s : State) (f g : Fld) (b : Bool)
    (h : g.reg ≠ f.reg ∨ g.lo + g.width ≤ f.lo ∨ f.lo + f.width ≤ g.lo) : (s.flag f b).on g = s.on g :=
  State.on_setFld_ne s f g _ h

@[simp] theorem State.on_bump_ne (s : State) (f g : Fld) (n : Nat)
    (h : g.reg ≠ f.reg ∨ g.lo + g.width ≤ f.lo ∨ f.lo + f.width ≤ g.lo) : (s.bump f n).on g = s.on g :=
  State.on_setFld_ne s f g _ h

@[simp] theorem State.on_wr_ne (s : State) (g : Fld) {a : Nat} (h : g.reg ≠ a) (v : Word) : (s.wr a v).on g = s.on g := by
  simp [State.on, State.fld_wr_ne s g h]

theorem State.on_eq_true (s : State) (f : Fld) : s.on f = true ↔ s.fld f ≠ 0 := by simp [State.on]

theorem State.on_eq_false (s : State) (f : Fld) : s.on f = false ↔ s.fld f = 0 := by simp [State.on]

@[simp] theorem State.rd_writeRw_ne (s : State) (a : Nat) (v : Word) {b : Nat} (h : b ≠ a) : (s.writeRw a v).rd b = s.rd b :=
  State.rd_wr_ne s h _

@[simp] theorem State.fld_writeRw_ne (s : State) (a : Nat) (v : Word) (g : Fld) (h : g.reg ≠ a) :
    (s.writeRw a v).fld g = s.fld g := State.fld_wr_ne s g h _

@[simp] theorem State.on_writeRw_ne (s : State) (a : Nat) (v : Word) (g : Fld) (h : g.reg ≠ a) :
    (s.writeRw a v).on g = s.on g := State.on_wr_ne s g h _

@[simp] theorem State.rd_wr64_ne (s : State) (a n : Nat) {b : Nat} (h : b ≠ a ∧ b ≠ a + 4) : (s.wr64 a n).rd b = s.rd b := by
  unfold State.wr64
  rw [State.rd_wr_ne _ h.2, State.rd_wr_ne _ h.1]

@[simp] theorem State.fld_wr64_ne (s : State) (a n : Nat) (g : Fld) (h : g.reg ≠ a ∧ g.reg ≠ a + 4) :
    (s.wr64 a n).fld g = s.fld g := by
  unfold State.fld
  rw [State.rd_wr64_ne s a n h]

/-- A pair reads as what was put into it. -/
@[simp] theorem State.rd64_wr64 (s : State) (a n : Nat) (h : n < 2 ^ 64) : (s.wr64 a n).rd64 a = n := by
  simp [State.rd64, State.wr64, State.rd_wr, BitVec.toNat_ofNat]
  omega

/-- A change of anything but the registers leaves them alone. -/
theorem State.fld_congr {s t : State} (h : t.regs = s.regs) (f : Fld) : t.fld f = s.fld f := by
  simp [State.fld, State.rd, h]

theorem State.rd_congr {s t : State} (h : t.regs = s.regs) (a : Nat) : t.rd a = s.rd a := by
  simp [State.rd, h]

/-! ### The canonical form of the registers -/

theorem State.regs_wr_wf (s : State) (a : Nat) (v : Word) (h : mapWf regReset s.regs = true) :
    mapWf regReset (s.wr a v).regs = true := mapWf_set _ _ _ h

theorem State.regs_setFld_wf (s : State) (f : Fld) (n : Nat) (h : mapWf regReset s.regs = true) :
    mapWf regReset (s.setFld f n).regs = true := State.regs_wr_wf s _ _ h

end Sys2Proof.Machine
end

