-- ==== Sys2Proof/Laws/State.lean ====
section
/-! SUPPORT. Laws/State.lean: for each named update of the state, one lemma for each field of the state: what the update does
not change stays as it was. -/

namespace Sys2Proof.Machine

/-! ### wr -/

@[simp] theorem State.wr_acc (s : State) (a : Nat) (v : Word) : (s.wr a v).acc = s.acc := (rfl)
@[simp] theorem State.wr_time (s : State) (a : Nat) (v : Word) : (s.wr a v).time = s.time := (rfl)
@[simp] theorem State.wr_fpe (s : State) (a : Nat) (v : Word) : (s.wr a v).fpe = s.fpe := (rfl)
@[simp] theorem State.wr_bfe (s : State) (a : Nat) (v : Word) : (s.wr a v).bfe = s.bfe := (rfl)
@[simp] theorem State.wr_ws (s : State) (a : Nat) (v : Word) : (s.wr a v).ws = s.ws := (rfl)
@[simp] theorem State.wr_lpe (s : State) (a : Nat) (v : Word) : (s.wr a v).lpe = s.lpe := (rfl)
@[simp] theorem State.wr_lde (s : State) (a : Nat) (v : Word) : (s.wr a v).lde = s.lde := (rfl)
@[simp] theorem State.wr_cva (s : State) (a : Nat) (v : Word) : (s.wr a v).cva = s.cva := (rfl)
@[simp] theorem State.wr_rcs (s : State) (a : Nat) (v : Word) : (s.wr a v).rcs = s.rcs := (rfl)
@[simp] theorem State.wr_srd (s : State) (a : Nat) (v : Word) : (s.wr a v).srd = s.srd := (rfl)
@[simp] theorem State.wr_lgc (s : State) (a : Nat) (v : Word) : (s.wr a v).lgc = s.lgc := (rfl)
@[simp] theorem State.wr_dsp (s : State) (a : Nat) (v : Word) : (s.wr a v).dsp = s.dsp := (rfl)
@[simp] theorem State.wr_cls (s : State) (a : Nat) (v : Word) : (s.wr a v).cls = s.cls := (rfl)
@[simp] theorem State.wr_mem (s : State) (a : Nat) (v : Word) : (s.wr a v).mem = s.mem := (rfl)
@[simp] theorem State.wr_mon (s : State) (a : Nat) (v : Word) : (s.wr a v).mon = s.mon := (rfl)
@[simp] theorem State.wr_pws (s : State) (a : Nat) (v : Word) : (s.wr a v).pws = s.pws := (rfl)
@[simp] theorem State.wr_flt (s : State) (a : Nat) (v : Word) : (s.wr a v).flt = s.flt := (rfl)
@[simp] theorem State.wr_boot (s : State) (a : Nat) (v : Word) : (s.wr a v).boot = s.boot := (rfl)
@[simp] theorem State.wr_out (s : State) (a : Nat) (v : Word) : (s.wr a v).out = s.out := (rfl)
@[simp] theorem State.wr_freeCtr (s : State) (a : Nat) (v : Word) : (s.wr a v).freeCtr = s.freeCtr := (rfl)
@[simp] theorem State.wr_pending (s : State) (a : Nat) (v : Word) : (s.wr a v).pending = s.pending := (rfl)

/-! ### setFld -/

@[simp] theorem State.setFld_acc (s : State) (f : Fld) (n : Nat) : (s.setFld f n).acc = s.acc := (rfl)
@[simp] theorem State.setFld_time (s : State) (f : Fld) (n : Nat) : (s.setFld f n).time = s.time := (rfl)
@[simp] theorem State.setFld_fpe (s : State) (f : Fld) (n : Nat) : (s.setFld f n).fpe = s.fpe := (rfl)
@[simp] theorem State.setFld_bfe (s : State) (f : Fld) (n : Nat) : (s.setFld f n).bfe = s.bfe := (rfl)
@[simp] theorem State.setFld_ws (s : State) (f : Fld) (n : Nat) : (s.setFld f n).ws = s.ws := (rfl)
@[simp] theorem State.setFld_lpe (s : State) (f : Fld) (n : Nat) : (s.setFld f n).lpe = s.lpe := (rfl)
@[simp] theorem State.setFld_lde (s : State) (f : Fld) (n : Nat) : (s.setFld f n).lde = s.lde := (rfl)
@[simp] theorem State.setFld_cva (s : State) (f : Fld) (n : Nat) : (s.setFld f n).cva = s.cva := (rfl)
@[simp] theorem State.setFld_rcs (s : State) (f : Fld) (n : Nat) : (s.setFld f n).rcs = s.rcs := (rfl)
@[simp] theorem State.setFld_srd (s : State) (f : Fld) (n : Nat) : (s.setFld f n).srd = s.srd := (rfl)
@[simp] theorem State.setFld_lgc (s : State) (f : Fld) (n : Nat) : (s.setFld f n).lgc = s.lgc := (rfl)
@[simp] theorem State.setFld_dsp (s : State) (f : Fld) (n : Nat) : (s.setFld f n).dsp = s.dsp := (rfl)
@[simp] theorem State.setFld_cls (s : State) (f : Fld) (n : Nat) : (s.setFld f n).cls = s.cls := (rfl)
@[simp] theorem State.setFld_mem (s : State) (f : Fld) (n : Nat) : (s.setFld f n).mem = s.mem := (rfl)
@[simp] theorem State.setFld_mon (s : State) (f : Fld) (n : Nat) : (s.setFld f n).mon = s.mon := (rfl)
@[simp] theorem State.setFld_pws (s : State) (f : Fld) (n : Nat) : (s.setFld f n).pws = s.pws := (rfl)
@[simp] theorem State.setFld_flt (s : State) (f : Fld) (n : Nat) : (s.setFld f n).flt = s.flt := (rfl)
@[simp] theorem State.setFld_boot (s : State) (f : Fld) (n : Nat) : (s.setFld f n).boot = s.boot := (rfl)
@[simp] theorem State.setFld_out (s : State) (f : Fld) (n : Nat) : (s.setFld f n).out = s.out := (rfl)
@[simp] theorem State.setFld_freeCtr (s : State) (f : Fld) (n : Nat) : (s.setFld f n).freeCtr = s.freeCtr := (rfl)
@[simp] theorem State.setFld_pending (s : State) (f : Fld) (n : Nat) : (s.setFld f n).pending = s.pending := (rfl)

/-! ### flag -/

@[simp] theorem State.flag_acc (s : State) (f : Fld) (b : Bool) : (s.flag f b).acc = s.acc := (rfl)
@[simp] theorem State.flag_time (s : State) (f : Fld) (b : Bool) : (s.flag f b).time = s.time := (rfl)
@[simp] theorem State.flag_fpe (s : State) (f : Fld) (b : Bool) : (s.flag f b).fpe = s.fpe := (rfl)
@[simp] theorem State.flag_bfe (s : State) (f : Fld) (b : Bool) : (s.flag f b).bfe = s.bfe := (rfl)
@[simp] theorem State.flag_ws (s : State) (f : Fld) (b : Bool) : (s.flag f b).ws = s.ws := (rfl)
@[simp] theorem State.flag_lpe (s : State) (f : Fld) (b : Bool) : (s.flag f b).lpe = s.lpe := (rfl)
@[simp] theorem State.flag_lde (s : State) (f : Fld) (b : Bool) : (s.flag f b).lde = s.lde := (rfl)
@[simp] theorem State.flag_cva (s : State) (f : Fld) (b : Bool) : (s.flag f b).cva = s.cva := (rfl)
@[simp] theorem State.flag_rcs (s : State) (f : Fld) (b : Bool) : (s.flag f b).rcs = s.rcs := (rfl)
@[simp] theorem State.flag_srd (s : State) (f : Fld) (b : Bool) : (s.flag f b).srd = s.srd := (rfl)
@[simp] theorem State.flag_lgc (s : State) (f : Fld) (b : Bool) : (s.flag f b).lgc = s.lgc := (rfl)
@[simp] theorem State.flag_dsp (s : State) (f : Fld) (b : Bool) : (s.flag f b).dsp = s.dsp := (rfl)
@[simp] theorem State.flag_cls (s : State) (f : Fld) (b : Bool) : (s.flag f b).cls = s.cls := (rfl)
@[simp] theorem State.flag_mem (s : State) (f : Fld) (b : Bool) : (s.flag f b).mem = s.mem := (rfl)
@[simp] theorem State.flag_mon (s : State) (f : Fld) (b : Bool) : (s.flag f b).mon = s.mon := (rfl)
@[simp] theorem State.flag_pws (s : State) (f : Fld) (b : Bool) : (s.flag f b).pws = s.pws := (rfl)
@[simp] theorem State.flag_flt (s : State) (f : Fld) (b : Bool) : (s.flag f b).flt = s.flt := (rfl)
@[simp] theorem State.flag_boot (s : State) (f : Fld) (b : Bool) : (s.flag f b).boot = s.boot := (rfl)
@[simp] theorem State.flag_out (s : State) (f : Fld) (b : Bool) : (s.flag f b).out = s.out := (rfl)
@[simp] theorem State.flag_freeCtr (s : State) (f : Fld) (b : Bool) : (s.flag f b).freeCtr = s.freeCtr := (rfl)
@[simp] theorem State.flag_pending (s : State) (f : Fld) (b : Bool) : (s.flag f b).pending = s.pending := (rfl)

/-! ### bump -/

@[simp] theorem State.bump_acc (s : State) (f : Fld) (n : Nat) : (s.bump f n).acc = s.acc := (rfl)
@[simp] theorem State.bump_time (s : State) (f : Fld) (n : Nat) : (s.bump f n).time = s.time := (rfl)
@[simp] theorem State.bump_fpe (s : State) (f : Fld) (n : Nat) : (s.bump f n).fpe = s.fpe := (rfl)
@[simp] theorem State.bump_bfe (s : State) (f : Fld) (n : Nat) : (s.bump f n).bfe = s.bfe := (rfl)
@[simp] theorem State.bump_ws (s : State) (f : Fld) (n : Nat) : (s.bump f n).ws = s.ws := (rfl)
@[simp] theorem State.bump_lpe (s : State) (f : Fld) (n : Nat) : (s.bump f n).lpe = s.lpe := (rfl)
@[simp] theorem State.bump_lde (s : State) (f : Fld) (n : Nat) : (s.bump f n).lde = s.lde := (rfl)
@[simp] theorem State.bump_cva (s : State) (f : Fld) (n : Nat) : (s.bump f n).cva = s.cva := (rfl)
@[simp] theorem State.bump_rcs (s : State) (f : Fld) (n : Nat) : (s.bump f n).rcs = s.rcs := (rfl)
@[simp] theorem State.bump_srd (s : State) (f : Fld) (n : Nat) : (s.bump f n).srd = s.srd := (rfl)
@[simp] theorem State.bump_lgc (s : State) (f : Fld) (n : Nat) : (s.bump f n).lgc = s.lgc := (rfl)
@[simp] theorem State.bump_dsp (s : State) (f : Fld) (n : Nat) : (s.bump f n).dsp = s.dsp := (rfl)
@[simp] theorem State.bump_cls (s : State) (f : Fld) (n : Nat) : (s.bump f n).cls = s.cls := (rfl)
@[simp] theorem State.bump_mem (s : State) (f : Fld) (n : Nat) : (s.bump f n).mem = s.mem := (rfl)
@[simp] theorem State.bump_mon (s : State) (f : Fld) (n : Nat) : (s.bump f n).mon = s.mon := (rfl)
@[simp] theorem State.bump_pws (s : State) (f : Fld) (n : Nat) : (s.bump f n).pws = s.pws := (rfl)
@[simp] theorem State.bump_flt (s : State) (f : Fld) (n : Nat) : (s.bump f n).flt = s.flt := (rfl)
@[simp] theorem State.bump_boot (s : State) (f : Fld) (n : Nat) : (s.bump f n).boot = s.boot := (rfl)
@[simp] theorem State.bump_out (s : State) (f : Fld) (n : Nat) : (s.bump f n).out = s.out := (rfl)
@[simp] theorem State.bump_freeCtr (s : State) (f : Fld) (n : Nat) : (s.bump f n).freeCtr = s.freeCtr := (rfl)
@[simp] theorem State.bump_pending (s : State) (f : Fld) (n : Nat) : (s.bump f n).pending = s.pending := (rfl)

/-! ### bumpWrap -/

@[simp] theorem State.bumpWrap_acc (s : State) (f : Fld) : (s.bumpWrap f).acc = s.acc := (rfl)
@[simp] theorem State.bumpWrap_time (s : State) (f : Fld) : (s.bumpWrap f).time = s.time := (rfl)
@[simp] theorem State.bumpWrap_fpe (s : State) (f : Fld) : (s.bumpWrap f).fpe = s.fpe := (rfl)
@[simp] theorem State.bumpWrap_bfe (s : State) (f : Fld) : (s.bumpWrap f).bfe = s.bfe := (rfl)
@[simp] theorem State.bumpWrap_ws (s : State) (f : Fld) : (s.bumpWrap f).ws = s.ws := (rfl)
@[simp] theorem State.bumpWrap_lpe (s : State) (f : Fld) : (s.bumpWrap f).lpe = s.lpe := (rfl)
@[simp] theorem State.bumpWrap_lde (s : State) (f : Fld) : (s.bumpWrap f).lde = s.lde := (rfl)
@[simp] theorem State.bumpWrap_cva (s : State) (f : Fld) : (s.bumpWrap f).cva = s.cva := (rfl)
@[simp] theorem State.bumpWrap_rcs (s : State) (f : Fld) : (s.bumpWrap f).rcs = s.rcs := (rfl)
@[simp] theorem State.bumpWrap_srd (s : State) (f : Fld) : (s.bumpWrap f).srd = s.srd := (rfl)
@[simp] theorem State.bumpWrap_lgc (s : State) (f : Fld) : (s.bumpWrap f).lgc = s.lgc := (rfl)
@[simp] theorem State.bumpWrap_dsp (s : State) (f : Fld) : (s.bumpWrap f).dsp = s.dsp := (rfl)
@[simp] theorem State.bumpWrap_cls (s : State) (f : Fld) : (s.bumpWrap f).cls = s.cls := (rfl)
@[simp] theorem State.bumpWrap_mem (s : State) (f : Fld) : (s.bumpWrap f).mem = s.mem := (rfl)
@[simp] theorem State.bumpWrap_mon (s : State) (f : Fld) : (s.bumpWrap f).mon = s.mon := (rfl)
@[simp] theorem State.bumpWrap_pws (s : State) (f : Fld) : (s.bumpWrap f).pws = s.pws := (rfl)
@[simp] theorem State.bumpWrap_flt (s : State) (f : Fld) : (s.bumpWrap f).flt = s.flt := (rfl)
@[simp] theorem State.bumpWrap_boot (s : State) (f : Fld) : (s.bumpWrap f).boot = s.boot := (rfl)
@[simp] theorem State.bumpWrap_out (s : State) (f : Fld) : (s.bumpWrap f).out = s.out := (rfl)
@[simp] theorem State.bumpWrap_freeCtr (s : State) (f : Fld) : (s.bumpWrap f).freeCtr = s.freeCtr := (rfl)
@[simp] theorem State.bumpWrap_pending (s : State) (f : Fld) : (s.bumpWrap f).pending = s.pending := (rfl)

/-! ### writeRw -/

@[simp] theorem State.writeRw_acc (s : State) (a : Nat) (v : Word) : (s.writeRw a v).acc = s.acc := (rfl)
@[simp] theorem State.writeRw_time (s : State) (a : Nat) (v : Word) : (s.writeRw a v).time = s.time := (rfl)
@[simp] theorem State.writeRw_fpe (s : State) (a : Nat) (v : Word) : (s.writeRw a v).fpe = s.fpe := (rfl)
@[simp] theorem State.writeRw_bfe (s : State) (a : Nat) (v : Word) : (s.writeRw a v).bfe = s.bfe := (rfl)
@[simp] theorem State.writeRw_ws (s : State) (a : Nat) (v : Word) : (s.writeRw a v).ws = s.ws := (rfl)
@[simp] theorem State.writeRw_lpe (s : State) (a : Nat) (v : Word) : (s.writeRw a v).lpe = s.lpe := (rfl)
@[simp] theorem State.writeRw_lde (s : State) (a : Nat) (v : Word) : (s.writeRw a v).lde = s.lde := (rfl)
@[simp] theorem State.writeRw_cva (s : State) (a : Nat) (v : Word) : (s.writeRw a v).cva = s.cva := (rfl)
@[simp] theorem State.writeRw_rcs (s : State) (a : Nat) (v : Word) : (s.writeRw a v).rcs = s.rcs := (rfl)
@[simp] theorem State.writeRw_srd (s : State) (a : Nat) (v : Word) : (s.writeRw a v).srd = s.srd := (rfl)
@[simp] theorem State.writeRw_lgc (s : State) (a : Nat) (v : Word) : (s.writeRw a v).lgc = s.lgc := (rfl)
@[simp] theorem State.writeRw_dsp (s : State) (a : Nat) (v : Word) : (s.writeRw a v).dsp = s.dsp := (rfl)
@[simp] theorem State.writeRw_cls (s : State) (a : Nat) (v : Word) : (s.writeRw a v).cls = s.cls := (rfl)
@[simp] theorem State.writeRw_mem (s : State) (a : Nat) (v : Word) : (s.writeRw a v).mem = s.mem := (rfl)
@[simp] theorem State.writeRw_mon (s : State) (a : Nat) (v : Word) : (s.writeRw a v).mon = s.mon := (rfl)
@[simp] theorem State.writeRw_pws (s : State) (a : Nat) (v : Word) : (s.writeRw a v).pws = s.pws := (rfl)
@[simp] theorem State.writeRw_flt (s : State) (a : Nat) (v : Word) : (s.writeRw a v).flt = s.flt := (rfl)
@[simp] theorem State.writeRw_boot (s : State) (a : Nat) (v : Word) : (s.writeRw a v).boot = s.boot := (rfl)
@[simp] theorem State.writeRw_out (s : State) (a : Nat) (v : Word) : (s.writeRw a v).out = s.out := (rfl)
@[simp] theorem State.writeRw_freeCtr (s : State) (a : Nat) (v : Word) : (s.writeRw a v).freeCtr = s.freeCtr := (rfl)
@[simp] theorem State.writeRw_pending (s : State) (a : Nat) (v : Word) : (s.writeRw a v).pending = s.pending := (rfl)

/-! ### wr64 -/

@[simp] theorem State.wr64_acc (s : State) (a n : Nat) : (s.wr64 a n).acc = s.acc := (rfl)
@[simp] theorem State.wr64_time (s : State) (a n : Nat) : (s.wr64 a n).time = s.time := (rfl)
@[simp] theorem State.wr64_fpe (s : State) (a n : Nat) : (s.wr64 a n).fpe = s.fpe := (rfl)
@[simp] theorem State.wr64_bfe (s : State) (a n : Nat) : (s.wr64 a n).bfe = s.bfe := (rfl)
@[simp] theorem State.wr64_ws (s : State) (a n : Nat) : (s.wr64 a n).ws = s.ws := (rfl)
@[simp] theorem State.wr64_lpe (s : State) (a n : Nat) : (s.wr64 a n).lpe = s.lpe := (rfl)
@[simp] theorem State.wr64_lde (s : State) (a n : Nat) : (s.wr64 a n).lde = s.lde := (rfl)
@[simp] theorem State.wr64_cva (s : State) (a n : Nat) : (s.wr64 a n).cva = s.cva := (rfl)
@[simp] theorem State.wr64_rcs (s : State) (a n : Nat) : (s.wr64 a n).rcs = s.rcs := (rfl)
@[simp] theorem State.wr64_srd (s : State) (a n : Nat) : (s.wr64 a n).srd = s.srd := (rfl)
@[simp] theorem State.wr64_lgc (s : State) (a n : Nat) : (s.wr64 a n).lgc = s.lgc := (rfl)
@[simp] theorem State.wr64_dsp (s : State) (a n : Nat) : (s.wr64 a n).dsp = s.dsp := (rfl)
@[simp] theorem State.wr64_cls (s : State) (a n : Nat) : (s.wr64 a n).cls = s.cls := (rfl)
@[simp] theorem State.wr64_mem (s : State) (a n : Nat) : (s.wr64 a n).mem = s.mem := (rfl)
@[simp] theorem State.wr64_mon (s : State) (a n : Nat) : (s.wr64 a n).mon = s.mon := (rfl)
@[simp] theorem State.wr64_pws (s : State) (a n : Nat) : (s.wr64 a n).pws = s.pws := (rfl)
@[simp] theorem State.wr64_flt (s : State) (a n : Nat) : (s.wr64 a n).flt = s.flt := (rfl)
@[simp] theorem State.wr64_boot (s : State) (a n : Nat) : (s.wr64 a n).boot = s.boot := (rfl)
@[simp] theorem State.wr64_out (s : State) (a n : Nat) : (s.wr64 a n).out = s.out := (rfl)
@[simp] theorem State.wr64_freeCtr (s : State) (a n : Nat) : (s.wr64 a n).freeCtr = s.freeCtr := (rfl)
@[simp] theorem State.wr64_pending (s : State) (a n : Nat) : (s.wr64 a n).pending = s.pending := (rfl)

/-! ### ceEvent -/

/-- The event line latches, or merges when it is pending (R394). -/
theorem State.ceEvent_eq (s : State) (e l : Nat) : s.ceEvent e l =
    if (s.fld (Fld.CLS_CE_EVPEND_PEND e)).testBit l then s.bump (Fld.CLS_CE_CNT1_EV_MERGE e)
    else s.setFld (Fld.CLS_CE_EVPEND_PEND e) (s.fld (Fld.CLS_CE_EVPEND_PEND e) + 2 ^ l) := (rfl)

@[simp] theorem State.ceEvent_acc (s : State) (e l : Nat) : (s.ceEvent e l).acc = s.acc := by
  rw [State.ceEvent_eq]; split
  · rw [State.bump_acc]
  · rw [State.setFld_acc]
@[simp] theorem State.ceEvent_time (s : State) (e l : Nat) : (s.ceEvent e l).time = s.time := by
  rw [State.ceEvent_eq]; split
  · rw [State.bump_time]
  · rw [State.setFld_time]
@[simp] theorem State.ceEvent_fpe (s : State) (e l : Nat) : (s.ceEvent e l).fpe = s.fpe := by
  rw [State.ceEvent_eq]; split
  · rw [State.bump_fpe]
  · rw [State.setFld_fpe]
@[simp] theorem State.ceEvent_bfe (s : State) (e l : Nat) : (s.ceEvent e l).bfe = s.bfe := by
  rw [State.ceEvent_eq]; split
  · rw [State.bump_bfe]
  · rw [State.setFld_bfe]
@[simp] theorem State.ceEvent_ws (s : State) (e l : Nat) : (s.ceEvent e l).ws = s.ws := by
  rw [State.ceEvent_eq]; split
  · rw [State.bump_ws]
  · rw [State.setFld_ws]
@[simp] theorem State.ceEvent_lpe (s : State) (e l : Nat) : (s.ceEvent e l).lpe = s.lpe := by
  rw [State.ceEvent_eq]; split
  · rw [State.bump_lpe]
  · rw [State.setFld_lpe]
@[simp] theorem State.ceEvent_lde (s : State) (e l : Nat) : (s.ceEvent e l).lde = s.lde := by
  rw [State.ceEvent_eq]; split
  · rw [State.bump_lde]
  · rw [State.setFld_lde]
@[simp] theorem State.ceEvent_cva (s : State) (e l : Nat) : (s.ceEvent e l).cva = s.cva := by
  rw [State.ceEvent_eq]; split
  · rw [State.bump_cva]
  · rw [State.setFld_cva]
@[simp] theorem State.ceEvent_rcs (s : State) (e l : Nat) : (s.ceEvent e l).rcs = s.rcs := by
  rw [State.ceEvent_eq]; split
  · rw [State.bump_rcs]
  · rw [State.setFld_rcs]
@[simp] theorem State.ceEvent_srd (s : State) (e l : Nat) : (s.ceEvent e l).srd = s.srd := by
  rw [State.ceEvent_eq]; split
  · rw [State.bump_srd]
  · rw [State.setFld_srd]
@[simp] theorem State.ceEvent_lgc (s : State) (e l : Nat) : (s.ceEvent e l).lgc = s.lgc := by
  rw [State.ceEvent_eq]; split
  · rw [State.bump_lgc]
  · rw [State.setFld_lgc]
@[simp] theorem State.ceEvent_dsp (s : State) (e l : Nat) : (s.ceEvent e l).dsp = s.dsp := by
  rw [State.ceEvent_eq]; split
  · rw [State.bump_dsp]
  · rw [State.setFld_dsp]
@[simp] theorem State.ceEvent_cls (s : State) (e l : Nat) : (s.ceEvent e l).cls = s.cls := by
  rw [State.ceEvent_eq]; split
  · rw [State.bump_cls]
  · rw [State.setFld_cls]
@[simp] theorem State.ceEvent_mem (s : State) (e l : Nat) : (s.ceEvent e l).mem = s.mem := by
  rw [State.ceEvent_eq]; split
  · rw [State.bump_mem]
  · rw [State.setFld_mem]
@[simp] theorem State.ceEvent_mon (s : State) (e l : Nat) : (s.ceEvent e l).mon = s.mon := by
  rw [State.ceEvent_eq]; split
  · rw [State.bump_mon]
  · rw [State.setFld_mon]
@[simp] theorem State.ceEvent_pws (s : State) (e l : Nat) : (s.ceEvent e l).pws = s.pws := by
  rw [State.ceEvent_eq]; split
  · rw [State.bump_pws]
  · rw [State.setFld_pws]
@[simp] theorem State.ceEvent_flt (s : State) (e l : Nat) : (s.ceEvent e l).flt = s.flt := by
  rw [State.ceEvent_eq]; split
  · rw [State.bump_flt]
  · rw [State.setFld_flt]
@[simp] theorem State.ceEvent_boot (s : State) (e l : Nat) : (s.ceEvent e l).boot = s.boot := by
  rw [State.ceEvent_eq]; split
  · rw [State.bump_boot]
  · rw [State.setFld_boot]
@[simp] theorem State.ceEvent_out (s : State) (e l : Nat) : (s.ceEvent e l).out = s.out := by
  rw [State.ceEvent_eq]; split
  · rw [State.bump_out]
  · rw [State.setFld_out]
@[simp] theorem State.ceEvent_freeCtr (s : State) (e l : Nat) : (s.ceEvent e l).freeCtr = s.freeCtr := by
  rw [State.ceEvent_eq]; split
  · rw [State.bump_freeCtr]
  · rw [State.setFld_freeCtr]
@[simp] theorem State.ceEvent_pending (s : State) (e l : Nat) : (s.ceEvent e l).pending = s.pending := by
  rw [State.ceEvent_eq]; split
  · rw [State.bump_pending]
  · rw [State.setFld_pending]

/-! ### tookFree -/

@[simp] theorem State.tookFree_regs (s : State) : (s.tookFree).regs = s.regs := (rfl)
@[simp] theorem State.tookFree_acc (s : State) : (s.tookFree).acc = s.acc := (rfl)
@[simp] theorem State.tookFree_time (s : State) : (s.tookFree).time = s.time := (rfl)
@[simp] theorem State.tookFree_fpe (s : State) : (s.tookFree).fpe = s.fpe := (rfl)
@[simp] theorem State.tookFree_bfe (s : State) : (s.tookFree).bfe = s.bfe := (rfl)
@[simp] theorem State.tookFree_ws (s : State) : (s.tookFree).ws = s.ws := (rfl)
@[simp] theorem State.tookFree_lpe (s : State) : (s.tookFree).lpe = s.lpe := (rfl)
@[simp] theorem State.tookFree_lde (s : State) : (s.tookFree).lde = s.lde := (rfl)
@[simp] theorem State.tookFree_cva (s : State) : (s.tookFree).cva = s.cva := (rfl)
@[simp] theorem State.tookFree_rcs (s : State) : (s.tookFree).rcs = s.rcs := (rfl)
@[simp] theorem State.tookFree_srd (s : State) : (s.tookFree).srd = s.srd := (rfl)
@[simp] theorem State.tookFree_lgc (s : State) : (s.tookFree).lgc = s.lgc := (rfl)
@[simp] theorem State.tookFree_dsp (s : State) : (s.tookFree).dsp = s.dsp := (rfl)
@[simp] theorem State.tookFree_cls (s : State) : (s.tookFree).cls = s.cls := (rfl)
@[simp] theorem State.tookFree_mem (s : State) : (s.tookFree).mem = s.mem := (rfl)
@[simp] theorem State.tookFree_mon (s : State) : (s.tookFree).mon = s.mon := (rfl)
@[simp] theorem State.tookFree_pws (s : State) : (s.tookFree).pws = s.pws := (rfl)
@[simp] theorem State.tookFree_flt (s : State) : (s.tookFree).flt = s.flt := (rfl)
@[simp] theorem State.tookFree_boot (s : State) : (s.tookFree).boot = s.boot := (rfl)
@[simp] theorem State.tookFree_out (s : State) : (s.tookFree).out = s.out := (rfl)
@[simp] theorem State.tookFree_pending (s : State) : (s.tookFree).pending = s.pending := (rfl)
@[simp] theorem State.tookFree_rd (s : State) (a : Nat) : (s.tookFree).rd a = s.rd a := (rfl)
@[simp] theorem State.tookFree_fld (s : State) (g : Fld) : (s.tookFree).fld g = s.fld g := (rfl)
@[simp] theorem State.tookFree_on (s : State) (g : Fld) : (s.tookFree).on g = s.on g := (rfl)

/-! ### emit -/

@[simp] theorem State.emit_regs (s : State) (o : Output) : (s.emit o).regs = s.regs := (rfl)
@[simp] theorem State.emit_acc (s : State) (o : Output) : (s.emit o).acc = s.acc := (rfl)
@[simp] theorem State.emit_time (s : State) (o : Output) : (s.emit o).time = s.time := (rfl)
@[simp] theorem State.emit_fpe (s : State) (o : Output) : (s.emit o).fpe = s.fpe := (rfl)
@[simp] theorem State.emit_bfe (s : State) (o : Output) : (s.emit o).bfe = s.bfe := (rfl)
@[simp] theorem State.emit_ws (s : State) (o : Output) : (s.emit o).ws = s.ws := (rfl)
@[simp] theorem State.emit_lpe (s : State) (o : Output) : (s.emit o).lpe = s.lpe := (rfl)
@[simp] theorem State.emit_lde (s : State) (o : Output) : (s.emit o).lde = s.lde := (rfl)
@[simp] theorem State.emit_cva (s : State) (o : Output) : (s.emit o).cva = s.cva := (rfl)
@[simp] theorem State.emit_rcs (s : State) (o : Output) : (s.emit o).rcs = s.rcs := (rfl)
@[simp] theorem State.emit_srd (s : State) (o : Output) : (s.emit o).srd = s.srd := (rfl)
@[simp] theorem State.emit_lgc (s : State) (o : Output) : (s.emit o).lgc = s.lgc := (rfl)
@[simp] theorem State.emit_dsp (s : State) (o : Output) : (s.emit o).dsp = s.dsp := (rfl)
@[simp] theorem State.emit_cls (s : State) (o : Output) : (s.emit o).cls = s.cls := (rfl)
@[simp] theorem State.emit_mem (s : State) (o : Output) : (s.emit o).mem = s.mem := (rfl)
@[simp] theorem State.emit_mon (s : State) (o : Output) : (s.emit o).mon = s.mon := (rfl)
@[simp] theorem State.emit_pws (s : State) (o : Output) : (s.emit o).pws = s.pws := (rfl)
@[simp] theorem State.emit_flt (s : State) (o : Output) : (s.emit o).flt = s.flt := (rfl)
@[simp] theorem State.emit_boot (s : State) (o : Output) : (s.emit o).boot = s.boot := (rfl)
@[simp] theorem State.emit_freeCtr (s : State) (o : Output) : (s.emit o).freeCtr = s.freeCtr := (rfl)
@[simp] theorem State.emit_pending (s : State) (o : Output) : (s.emit o).pending = s.pending := (rfl)
@[simp] theorem State.emit_rd (s : State) (o : Output) (a : Nat) : (s.emit o).rd a = s.rd a := (rfl)
@[simp] theorem State.emit_fld (s : State) (o : Output) (g : Fld) : (s.emit o).fld g = s.fld g := (rfl)
@[simp] theorem State.emit_on (s : State) (o : Output) (g : Fld) : (s.emit o).on g = s.on g := (rfl)

/-! ### setPhc -/

@[simp] theorem State.setPhc_regs (s : State) (p : Phc) : (s.setPhc p).regs = s.regs := (rfl)
@[simp] theorem State.setPhc_acc (s : State) (p : Phc) : (s.setPhc p).acc = s.acc := (rfl)
@[simp] theorem State.setPhc_fpe (s : State) (p : Phc) : (s.setPhc p).fpe = s.fpe := (rfl)
@[simp] theorem State.setPhc_bfe (s : State) (p : Phc) : (s.setPhc p).bfe = s.bfe := (rfl)
@[simp] theorem State.setPhc_ws (s : State) (p : Phc) : (s.setPhc p).ws = s.ws := (rfl)
@[simp] theorem State.setPhc_lpe (s : State) (p : Phc) : (s.setPhc p).lpe = s.lpe := (rfl)
@[simp] theorem State.setPhc_lde (s : State) (p : Phc) : (s.setPhc p).lde = s.lde := (rfl)
@[simp] theorem State.setPhc_cva (s : State) (p : Phc) : (s.setPhc p).cva = s.cva := (rfl)
@[simp] theorem State.setPhc_rcs (s : State) (p : Phc) : (s.setPhc p).rcs = s.rcs := (rfl)
@[simp] theorem State.setPhc_srd (s : State) (p : Phc) : (s.setPhc p).srd = s.srd := (rfl)
@[simp] theorem State.setPhc_lgc (s : State) (p : Phc) : (s.setPhc p).lgc = s.lgc := (rfl)
@[simp] theorem State.setPhc_dsp (s : State) (p : Phc) : (s.setPhc p).dsp = s.dsp := (rfl)
@[simp] theorem State.setPhc_cls (s : State) (p : Phc) : (s.setPhc p).cls = s.cls := (rfl)
@[simp] theorem State.setPhc_mem (s : State) (p : Phc) : (s.setPhc p).mem = s.mem := (rfl)
@[simp] theorem State.setPhc_mon (s : State) (p : Phc) : (s.setPhc p).mon = s.mon := (rfl)
@[simp] theorem State.setPhc_pws (s : State) (p : Phc) : (s.setPhc p).pws = s.pws := (rfl)
@[simp] theorem State.setPhc_flt (s : State) (p : Phc) : (s.setPhc p).flt = s.flt := (rfl)
@[simp] theorem State.setPhc_boot (s : State) (p : Phc) : (s.setPhc p).boot = s.boot := (rfl)
@[simp] theorem State.setPhc_out (s : State) (p : Phc) : (s.setPhc p).out = s.out := (rfl)
@[simp] theorem State.setPhc_freeCtr (s : State) (p : Phc) : (s.setPhc p).freeCtr = s.freeCtr := (rfl)
@[simp] theorem State.setPhc_pending (s : State) (p : Phc) : (s.setPhc p).pending = s.pending := (rfl)
@[simp] theorem State.setPhc_rd (s : State) (p : Phc) (a : Nat) : (s.setPhc p).rd a = s.rd a := (rfl)
@[simp] theorem State.setPhc_fld (s : State) (p : Phc) (g : Fld) : (s.setPhc p).fld g = s.fld g := (rfl)
@[simp] theorem State.setPhc_on (s : State) (p : Phc) (g : Fld) : (s.setPhc p).on g = s.on g := (rfl)

/-! ### updFacet -/

@[simp] theorem State.updFacet_regs (s : State) (k : Nat) (f : FacetTime → FacetTime) : (s.updFacet k f).regs = s.regs := (rfl)
@[simp] theorem State.updFacet_acc (s : State) (k : Nat) (f : FacetTime → FacetTime) : (s.updFacet k f).acc = s.acc := (rfl)
@[simp] theorem State.updFacet_fpe (s : State) (k : Nat) (f : FacetTime → FacetTime) : (s.updFacet k f).fpe = s.fpe := (rfl)
@[simp] theorem State.updFacet_bfe (s : State) (k : Nat) (f : FacetTime → FacetTime) : (s.updFacet k f).bfe = s.bfe := (rfl)
@[simp] theorem State.updFacet_ws (s : State) (k : Nat) (f : FacetTime → FacetTime) : (s.updFacet k f).ws = s.ws := (rfl)
@[simp] theorem State.updFacet_lpe (s : State) (k : Nat) (f : FacetTime → FacetTime) : (s.updFacet k f).lpe = s.lpe := (rfl)
@[simp] theorem State.updFacet_lde (s : State) (k : Nat) (f : FacetTime → FacetTime) : (s.updFacet k f).lde = s.lde := (rfl)
@[simp] theorem State.updFacet_cva (s : State) (k : Nat) (f : FacetTime → FacetTime) : (s.updFacet k f).cva = s.cva := (rfl)
@[simp] theorem State.updFacet_rcs (s : State) (k : Nat) (f : FacetTime → FacetTime) : (s.updFacet k f).rcs = s.rcs := (rfl)
@[simp] theorem State.updFacet_srd (s : State) (k : Nat) (f : FacetTime → FacetTime) : (s.updFacet k f).srd = s.srd := (rfl)
@[simp] theorem State.updFacet_lgc (s : State) (k : Nat) (f : FacetTime → FacetTime) : (s.updFacet k f).lgc = s.lgc := (rfl)
@[simp] theorem State.updFacet_dsp (s : State) (k : Nat) (f : FacetTime → FacetTime) : (s.updFacet k f).dsp = s.dsp := (rfl)
@[simp] theorem State.updFacet_cls (s : State) (k : Nat) (f : FacetTime → FacetTime) : (s.updFacet k f).cls = s.cls := (rfl)
@[simp] theorem State.updFacet_mem (s : State) (k : Nat) (f : FacetTime → FacetTime) : (s.updFacet k f).mem = s.mem := (rfl)
@[simp] theorem State.updFacet_mon (s : State) (k : Nat) (f : FacetTime → FacetTime) : (s.updFacet k f).mon = s.mon := (rfl)
@[simp] theorem State.updFacet_pws (s : State) (k : Nat) (f : FacetTime → FacetTime) : (s.updFacet k f).pws = s.pws := (rfl)
@[simp] theorem State.updFacet_flt (s : State) (k : Nat) (f : FacetTime → FacetTime) : (s.updFacet k f).flt = s.flt := (rfl)
@[simp] theorem State.updFacet_boot (s : State) (k : Nat) (f : FacetTime → FacetTime) : (s.updFacet k f).boot = s.boot := (rfl)
@[simp] theorem State.updFacet_out (s : State) (k : Nat) (f : FacetTime → FacetTime) : (s.updFacet k f).out = s.out := (rfl)
@[simp] theorem State.updFacet_freeCtr (s : State) (k : Nat) (f : FacetTime → FacetTime) : (s.updFacet k f).freeCtr = s.freeCtr := (rfl)
@[simp] theorem State.updFacet_pending (s : State) (k : Nat) (f : FacetTime → FacetTime) : (s.updFacet k f).pending = s.pending := (rfl)
@[simp] theorem State.updFacet_rd (s : State) (k : Nat) (f : FacetTime → FacetTime) (a : Nat) : (s.updFacet k f).rd a = s.rd a := (rfl)
@[simp] theorem State.updFacet_fld (s : State) (k : Nat) (f : FacetTime → FacetTime) (g : Fld) : (s.updFacet k f).fld g = s.fld g := (rfl)
@[simp] theorem State.updFacet_on (s : State) (k : Nat) (f : FacetTime → FacetTime) (g : Fld) : (s.updFacet k f).on g = s.on g := (rfl)

/-! ### updLine -/

@[simp] theorem State.updLine_regs (s : State) (c : Nat) (f : Timeline → Timeline) : (s.updLine c f).regs = s.regs := (rfl)
@[simp] theorem State.updLine_acc (s : State) (c : Nat) (f : Timeline → Timeline) : (s.updLine c f).acc = s.acc := (rfl)
@[simp] theorem State.updLine_fpe (s : State) (c : Nat) (f : Timeline → Timeline) : (s.updLine c f).fpe = s.fpe := (rfl)
@[simp] theorem State.updLine_bfe (s : State) (c : Nat) (f : Timeline → Timeline) : (s.updLine c f).bfe = s.bfe := (rfl)
@[simp] theorem State.updLine_ws (s : State) (c : Nat) (f : Timeline → Timeline) : (s.updLine c f).ws = s.ws := (rfl)
@[simp] theorem State.updLine_lpe (s : State) (c : Nat) (f : Timeline → Timeline) : (s.updLine c f).lpe = s.lpe := (rfl)
@[simp] theorem State.updLine_lde (s : State) (c : Nat) (f : Timeline → Timeline) : (s.updLine c f).lde = s.lde := (rfl)
@[simp] theorem State.updLine_cva (s : State) (c : Nat) (f : Timeline → Timeline) : (s.updLine c f).cva = s.cva := (rfl)
@[simp] theorem State.updLine_rcs (s : State) (c : Nat) (f : Timeline → Timeline) : (s.updLine c f).rcs = s.rcs := (rfl)
@[simp] theorem State.updLine_srd (s : State) (c : Nat) (f : Timeline → Timeline) : (s.updLine c f).srd = s.srd := (rfl)
@[simp] theorem State.updLine_lgc (s : State) (c : Nat) (f : Timeline → Timeline) : (s.updLine c f).lgc = s.lgc := (rfl)
@[simp] theorem State.updLine_dsp (s : State) (c : Nat) (f : Timeline → Timeline) : (s.updLine c f).dsp = s.dsp := (rfl)
@[simp] theorem State.updLine_cls (s : State) (c : Nat) (f : Timeline → Timeline) : (s.updLine c f).cls = s.cls := (rfl)
@[simp] theorem State.updLine_mem (s : State) (c : Nat) (f : Timeline → Timeline) : (s.updLine c f).mem = s.mem := (rfl)
@[simp] theorem State.updLine_mon (s : State) (c : Nat) (f : Timeline → Timeline) : (s.updLine c f).mon = s.mon := (rfl)
@[simp] theorem State.updLine_pws (s : State) (c : Nat) (f : Timeline → Timeline) : (s.updLine c f).pws = s.pws := (rfl)
@[simp] theorem State.updLine_flt (s : State) (c : Nat) (f : Timeline → Timeline) : (s.updLine c f).flt = s.flt := (rfl)
@[simp] theorem State.updLine_boot (s : State) (c : Nat) (f : Timeline → Timeline) : (s.updLine c f).boot = s.boot := (rfl)
@[simp] theorem State.updLine_out (s : State) (c : Nat) (f : Timeline → Timeline) : (s.updLine c f).out = s.out := (rfl)
@[simp] theorem State.updLine_freeCtr (s : State) (c : Nat) (f : Timeline → Timeline) : (s.updLine c f).freeCtr = s.freeCtr := (rfl)
@[simp] theorem State.updLine_pending (s : State) (c : Nat) (f : Timeline → Timeline) : (s.updLine c f).pending = s.pending := (rfl)
@[simp] theorem State.updLine_rd (s : State) (c : Nat) (f : Timeline → Timeline) (a : Nat) : (s.updLine c f).rd a = s.rd a := (rfl)
@[simp] theorem State.updLine_fld (s : State) (c : Nat) (f : Timeline → Timeline) (g : Fld) : (s.updLine c f).fld g = s.fld g := (rfl)
@[simp] theorem State.updLine_on (s : State) (c : Nat) (f : Timeline → Timeline) (g : Fld) : (s.updLine c f).on g = s.on g := (rfl)

/-! ### A state with other parts: its registers read as those of the state they came from -/

section

variable (t : State) (x0 : AccState) (x1 : TimeState) (x2 : FpeState) (x3 : BfeState) (x4 : WsState) (x5 : LpeState) (x6 : LdeState) (x7 : CvaState) (x8 : RcsState) (x9 : SrdState) (x10 : LgcState) (x11 : DspState) (x12 : SMap CeState) (x13 : MemState) (x14 : MonState) (x15 : PwsState) (x16 : FltState) (x17 : BootState) (x18 : List Output) (x19 : Nat) (x20 : List Instr)

@[simp] theorem State.mk_rd (a : Nat) :
    (State.mk t.regs x0 x1 x2 x3 x4 x5 x6 x7 x8 x9 x10 x11 x12 x13 x14 x15 x16 x17 x18 x19 x20).rd a = t.rd a := (rfl)
@[simp] theorem State.mk_fld (g : Fld) :
    (State.mk t.regs x0 x1 x2 x3 x4 x5 x6 x7 x8 x9 x10 x11 x12 x13 x14 x15 x16 x17 x18 x19 x20).fld g = t.fld g := (rfl)
@[simp] theorem State.mk_sfld (g : Fld) :
    (State.mk t.regs x0 x1 x2 x3 x4 x5 x6 x7 x8 x9 x10 x11 x12 x13 x14 x15 x16 x17 x18 x19 x20).sfld g = t.sfld g := (rfl)
@[simp] theorem State.mk_on (g : Fld) :
    (State.mk t.regs x0 x1 x2 x3 x4 x5 x6 x7 x8 x9 x10 x11 x12 x13 x14 x15 x16 x17 x18 x19 x20).on g = t.on g := (rfl)
@[simp] theorem State.mk_rd64 (a : Nat) :
    (State.mk t.regs x0 x1 x2 x3 x4 x5 x6 x7 x8 x9 x10 x11 x12 x13 x14 x15 x16 x17 x18 x19 x20).rd64 a = t.rd64 a := (rfl)
@[simp] theorem State.mk_bit64 (a i : Nat) :
    (State.mk t.regs x0 x1 x2 x3 x4 x5 x6 x7 x8 x9 x10 x11 x12 x13 x14 x15 x16 x17 x18 x19 x20).bit64 a i = t.bit64 a i := (rfl)
@[simp] theorem State.mk_rcsLocked :
    (State.mk t.regs x0 x1 x2 x3 x4 x5 x6 x7 x8 x9 x10 x11 x12 x13 x14 x15 x16 x17 x18 x19 x20).rcsLocked = t.rcsLocked := (rfl)
@[simp] theorem State.mk_persona :
    (State.mk t.regs x0 x1 x2 x3 x4 x5 x6 x7 x8 x9 x10 x11 x12 x13 x14 x15 x16 x17 x18 x19 x20).persona = t.persona := (rfl)
@[simp] theorem State.mk_increment :
    (State.mk t.regs x0 x1 x2 x3 x4 x5 x6 x7 x8 x9 x10 x11 x12 x13 x14 x15 x16 x17 x18 x19 x20).increment = t.increment := (rfl)
@[simp] theorem State.mk_wr_regs (a : Nat) (v : Word) :
    ((State.mk t.regs x0 x1 x2 x3 x4 x5 x6 x7 x8 x9 x10 x11 x12 x13 x14 x15 x16 x17 x18 x19 x20).wr a v).regs = (t.wr a v).regs := (rfl)
@[simp] theorem State.mk_setFld_regs (f : Fld) (n : Nat) :
    ((State.mk t.regs x0 x1 x2 x3 x4 x5 x6 x7 x8 x9 x10 x11 x12 x13 x14 x15 x16 x17 x18 x19 x20).setFld f n).regs = (t.setFld f n).regs := (rfl)
@[simp] theorem State.mk_flag_regs (f : Fld) (b : Bool) :
    ((State.mk t.regs x0 x1 x2 x3 x4 x5 x6 x7 x8 x9 x10 x11 x12 x13 x14 x15 x16 x17 x18 x19 x20).flag f b).regs = (t.flag f b).regs := (rfl)
@[simp] theorem State.mk_bump_regs (f : Fld) (n : Nat) :
    ((State.mk t.regs x0 x1 x2 x3 x4 x5 x6 x7 x8 x9 x10 x11 x12 x13 x14 x15 x16 x17 x18 x19 x20).bump f n).regs = (t.bump f n).regs := (rfl)
@[simp] theorem State.mk_bumpWrap_regs (f : Fld) :
    ((State.mk t.regs x0 x1 x2 x3 x4 x5 x6 x7 x8 x9 x10 x11 x12 x13 x14 x15 x16 x17 x18 x19 x20).bumpWrap f).regs = (t.bumpWrap f).regs := (rfl)
@[simp] theorem State.mk_writeRw_regs (a : Nat) (v : Word) :
    ((State.mk t.regs x0 x1 x2 x3 x4 x5 x6 x7 x8 x9 x10 x11 x12 x13 x14 x15 x16 x17 x18 x19 x20).writeRw a v).regs = (t.writeRw a v).regs := (rfl)
@[simp] theorem State.mk_wr64_regs (a n : Nat) :
    ((State.mk t.regs x0 x1 x2 x3 x4 x5 x6 x7 x8 x9 x10 x11 x12 x13 x14 x15 x16 x17 x18 x19 x20).wr64 a n).regs = (t.wr64 a n).regs := (rfl)

end

/-- Two states whose parts are equal are equal. -/
theorem State.parts_eq {s t : State} (h0 : s.regs = t.regs) (h1 : s.acc = t.acc) (h2 : s.time = t.time) (h3 : s.fpe = t.fpe) (h4 : s.bfe = t.bfe) (h5 : s.ws = t.ws) (h6 : s.lpe = t.lpe) (h7 : s.lde = t.lde) (h8 : s.cva = t.cva) (h9 : s.rcs = t.rcs) (h10 : s.srd = t.srd) (h11 : s.lgc = t.lgc) (h12 : s.dsp = t.dsp) (h13 : s.cls = t.cls) (h14 : s.mem = t.mem) (h15 : s.mon = t.mon) (h16 : s.pws = t.pws) (h17 : s.flt = t.flt) (h18 : s.boot = t.boot) (h19 : s.out = t.out) (h20 : s.freeCtr = t.freeCtr) (h21 : s.pending = t.pending) : s = t := by
  cases s; cases t; simp_all

/-! ### What an event line of a clause engine leaves alone -/

@[simp] theorem State.rd_ceEvent_ne (s : State) (e l : Nat) {a : Nat}
    (h : a ≠ Reg.CLS_CE_EVPEND e ∧ a ≠ Reg.CLS_CE_CNT1 e) : (s.ceEvent e l).rd a = s.rd a := by
  rw [State.ceEvent_eq]; split
  · exact State.rd_bump_ne s _ _ h.2
  · exact State.rd_setFld_ne s _ _ h.1

@[simp] theorem State.fld_ceEvent_ne (s : State) (e l : Nat) (g : Fld)
    (h : g.reg ≠ Reg.CLS_CE_EVPEND e ∧ g.reg ≠ Reg.CLS_CE_CNT1 e) : (s.ceEvent e l).fld g = s.fld g := by
  unfold State.fld; rw [State.rd_ceEvent_ne s e l h]

@[simp] theorem State.on_ceEvent_ne (s : State) (e l : Nat) (g : Fld)
    (h : g.reg ≠ Reg.CLS_CE_EVPEND e ∧ g.reg ≠ Reg.CLS_CE_CNT1 e) : (s.ceEvent e l).on g = s.on g := by
  unfold State.on; rw [State.fld_ceEvent_ne s e l g h]

@[simp] theorem State.tookFree_freeCtr (s : State) : s.tookFree.freeCtr = s.freeCtr + 1 := (rfl)
@[simp] theorem State.emit_out (s : State) (o : Output) : (s.emit o).out = o :: s.out := (rfl)
@[simp] theorem State.setPhc_time (s : State) (p : Phc) : (s.setPhc p).time = { s.time with phc := p } := (rfl)
@[simp] theorem State.updFacet_facetT (s : State) (k j : Nat) (f : FacetTime → FacetTime) :
    (s.updFacet k f).facetT j = if j = k then f (s.facetT k) else s.facetT j := by
  simp [State.facetT, State.updFacet]
@[simp] theorem State.updLine_line (s : State) (c d : Nat) (f : Timeline → Timeline) :
    (s.updLine c f).line d = if d = c then f (s.line c) else s.line d := by
  simp [State.line, State.updLine]

end Sys2Proof.Machine
end

