-- ==== Sys2Proof/WellFormed.lean ====
section
/-! DEFINITION. WellFormed.lean: which commands the outside can form. Index ranges are in the operands' types; here stand the lengths
and shapes that the protocols of the part give its messages. -/

namespace Sys2Proof

/-- A compressed PRB has 12 resource elements, I and Q (R76). -/
def PrbData.wf (p : PrbData) : Bool := p.comps.length == 24

/-- A U-plane section: every PRB is whole, and the compression header fits its fields (R76). -/
def USec.wf (x : USec) : Bool := x.prbs.all PrbData.wf && x.meth < 16 && x.iqw < 16

/-- A vector of weights has an I and a Q of each weight (R154). -/
def BfVec.wf (v : BfVec) : Bool := v.comps.length % 2 == 0

/-- A C-plane section: its fields fit the message, and its vectors are whole (R75). -/
def CSec.wf (x : CSec) : Bool :=
  x.secId < 4096 && x.startPrb < 1024 && x.numPrb < 256 && x.numSym < 16
    && match x.wts with
      | .ext1 _ v => v.wf
      | .ext11 _ _ l => l.all (fun b => match b.vec with | some v => v.wf | none => true)
      | _ => true

/-- The headers of a message: the application header's fields (R73, R83). -/
def MsgHdr.wf (h : MsgHdr) : Bool := h.subseq < 128 && h.version < 8 && h.subframe < 16 && h.slot < 64 && h.symbol < 64

/-- A Strand item is a partial sum or a message (R131, R134). -/
def StrandItem.wf : StrandItem → Bool
  | .sum _ _ _ prbs => prbs.all PrbData.wf
  | .uplane h secs => h.wf && secs.all USec.wf
  | .cplane h secs => h.wf && secs.all CSec.wf

/-- Can the outside form this command? -/
def Instr.wf : Instr → Bool
  | .uplaneMsgRx _ h secs => h.wf && secs.all USec.wf
  | .cplaneMsgRx _ h secs => h.wf && secs.all CSec.wf
  -- a read request carries no words (R99)
  | .rmaRequestRx _ _ _ _ kind _ _ _ words => kind.val != 0 || words.isEmpty
  | .strandFrameRx _ _ _ items => items.all StrandItem.wf
  -- one measurement for each lane (R307)
  | .lqiEvaluate meas => meas.length == 16
  -- a write message carries `count` words (R345)
  | .cmWrite _ _ _ _ count data => data.length == count.val
  -- a frame transfers at least one word (R346)
  | .personaMspiRead _ count => 0 < count
  | .personaMspiWrite _ data => !data.isEmpty
  -- a frame begins with an opcode, and one with any other opcode than a write's is answered as a read (R556, R557)
  | .mspiRead frame _ => !frame.isEmpty && frame.headD 0 != 0x02
  | .mspiWrite frame _ => frame.headD 0 == 0x02
  -- a raw public key and a signature of P-384 (R457)
  | .jtagChalAnswer key sig => key.length == 97 && sig.length == 96
  -- the scrubber reads words of 8 bytes (R412)
  | .scrubRead addr _ => addr % 8 == 0
  -- clients 0 to 13 (R477)
  | .budgetWindow est => est.length == 14
  | _ => true

end Sys2Proof
end

section
/-! Proofs about the monitor converters (R436 to R442): one rule for each named operation of the converters, then the statement
assembled from them. -/

namespace Sys2Proof.Machine

/-! ### Registers that stay as they were -/

theorem SameRegs.refl (l : List Nat) (s : State) : SameRegs l s s := fun _ _ => rfl

theorem SameRegs.mono {l l' : List Nat} {s t : State} (h : SameRegs l s t) (hl : l ⊆ l') : SameRegs l' s t :=
  fun a ha => h a fun hm => ha (hl hm)

theorem SameRegs.trans {l : List Nat} {s t u : State} (h : SameRegs l s t) (h' : SameRegs l t u) : SameRegs l s u :=
  fun a ha => (h' a ha).trans (h a ha)

/-- A further write to a register of the list. -/
theorem SameRegs.wr {l : List Nat} {s t : State} (h : SameRegs l s t) {a : Nat} (ha : a ∈ l) (v : Word) :
    SameRegs l s (t.wr a v) :=
  fun b hb => (State.rd_wr_ne t (ne_of_mem_of_not_mem ha hb).symm v).trans (h b hb)

theorem SameRegs.writeRw {l : List Nat} {s t : State} (h : SameRegs l s t) {a : Nat} (ha : a ∈ l) (v : Word) :
    SameRegs l s (t.writeRw a v) := h.wr ha _

theorem SameRegs.setFld {l : List Nat} {s t : State} (h : SameRegs l s t) {f : Fld} (hf : f.reg ∈ l) (n : Nat) :
    SameRegs l s (t.setFld f n) := h.wr hf _

theorem SameRegs.flag {l : List Nat} {s t : State} (h : SameRegs l s t) {f : Fld} (hf : f.reg ∈ l) (b : Bool) :
    SameRegs l s (t.flag f b) := h.setFld hf _

theorem SameRegs.bump {l : List Nat} {s t : State} (h : SameRegs l s t) {f : Fld} (hf : f.reg ∈ l) :
    SameRegs l s (t.bump f) := h.setFld hf _

theorem SameRegs.ceEvent {l : List Nat} {s t : State} (h : SameRegs l s t) {e : Nat} (line : Nat)
    (hp : Reg.CLS_CE_EVPEND e ∈ l) (hc : Reg.CLS_CE_CNT1 e ∈ l) : SameRegs l s (t.ceEvent e line) := by
  rw [State.ceEvent_eq]
  split
  · exact h.bump hc
  · exact h.setFld hp _

/-- A step that changes no register. -/
theorem SameRegs.regs_eq {l : List Nat} {s t u : State} (h : SameRegs l s t) (e : u.regs = t.regs) : SameRegs l s u :=
  fun a ha => (State.rd_congr e a).trans (h a ha)

/-- A field of a register outside the list reads as before. -/
theorem SameRegs.fld {l : List Nat} {s t : State} (h : SameRegs l s t) (g : Fld) (hg : g.reg ∉ l) :
    t.fld g = s.fld g := by
  unfold State.fld
  rw [h _ hg]

/-- A write of one field of a register of the list. -/
theorem OnlyRegs.setFld {l : List Nat} (s : State) {f : Fld} (hf : f.reg ∈ l) (n : Nat) : OnlyRegs l s (s.setFld f n) :=
  ⟨(SameRegs.refl l s).setFld hf n, rfl⟩

theorem OnlyRegs.flag {l : List Nat} (s : State) {f : Fld} (hf : f.reg ∈ l) (b : Bool) : OnlyRegs l s (s.flag f b) :=
  OnlyRegs.setFld s hf _

theorem OnlyRegs.bump {l : List Nat} (s : State) {f : Fld} (hf : f.reg ∈ l) : OnlyRegs l s (s.bump f) :=
  OnlyRegs.setFld s hf _

/-! ### A write of the RW fields -/

/-- A field that is RW throughout takes the bits written (R560). -/
theorem State.fld_writeRw (s : State) (g : Fld) (v : Word)
    (hrw : ∀ i, i < g.width → (accessBits (fun t => t == .rw) g.reg).testBit (i + g.lo) = true) (hle : g.lo + g.width ≤ 32) :
    (s.writeRw g.reg v).fld g = fieldOf g.lo g.width v := by
  unfold State.writeRw
  rw [State.fld_wr_self]
  apply Nat.eq_of_testBit_eq
  intro i
  rw [testBit_fieldOf, testBit_fieldOf]
  by_cases hi : i < g.width
  · have h32 : i + g.lo < 32 := by omega
    simp only [BitVec.testBit_toNat, BitVec.getLsbD_or, BitVec.getLsbD_and, BitVec.getLsbD_not, BitVec.getLsbD_ofNat,
      hrw i hi, h32, decide_true, Bool.and_true, Bool.not_true, Bool.and_false, Bool.or_false]
  · simp [hi]

/-- The RW bits of MON_x_SEL: SAMP, GAIN and CH. -/
theorem accessBits_monSel (x : Fin 2) : accessBits (fun t => t == .rw) (Reg.MON_SEL x) = 0x7FF0003F :=
  match x with
  | 0 => by decide
  | 1 => by decide

/-! ### What a converter holds -/

section

variable (s : State) (x : Nat) (f : MadcState → MadcState)

@[simp] theorem State.updMadc_regs : (s.updMadc x f).regs = s.regs := (rfl)
@[simp] theorem State.updMadc_time : (s.updMadc x f).time = s.time := (rfl)
@[simp] theorem State.updMadc_rd (a : Nat) : (s.updMadc x f).rd a = s.rd a := (rfl)
@[simp] theorem State.updMadc_fld (g : Fld) : (s.updMadc x f).fld g = s.fld g := (rfl)
@[simp] theorem State.updMadc_on (g : Fld) : (s.updMadc x f).on g = s.on g := (rfl)
@[simp] theorem State.updMadc_seqEntry (y : Nat) : (s.updMadc x f).seqEntry y = s.seqEntry y := (rfl)
@[simp] theorem State.updMadc_madc (y : Nat) : (s.updMadc x f).madc y = if y = x then f (s.madc x) else s.madc y :=
  SMap.at_upd _ _ _ _

@[simp] theorem State.wr_madc (a : Nat) (v : Word) : (s.wr a v).madc x = s.madc x := (rfl)
@[simp] theorem State.setFld_madc (g : Fld) (n : Nat) : (s.setFld g n).madc x = s.madc x := (rfl)
@[simp] theorem State.flag_madc (g : Fld) (b : Bool) : (s.flag g b).madc x = s.madc x := (rfl)
@[simp] theorem State.bump_madc (g : Fld) (n : Nat) : (s.bump g n).madc x = s.madc x := (rfl)
@[simp] theorem State.writeRw_madc (a : Nat) (v : Word) : (s.writeRw a v).madc x = s.madc x := (rfl)

end

/-- A converter that starts a conversion. -/
@[simp] theorem startConv_madc (s : State) (x : Nat) (j : MonJob) (y : Nat) :
    (startConv s x j).madc y = if y = x then { s.madc x with job := some (j, s.time.now) } else s.madc y :=
  State.updMadc_madc s x _ y

@[simp] theorem startConv_regs (s : State) (x : Nat) (j : MonJob) : (startConv s x j).regs = s.regs := (rfl)
@[simp] theorem startConv_time (s : State) (x : Nat) (j : MonJob) : (startConv s x j).time = s.time := (rfl)
@[simp] theorem startConv_fld (s : State) (x : Nat) (j : MonJob) (g : Fld) : (startConv s x j).fld g = s.fld g := (rfl)

/-! ### What MON_x_STAT shows -/

section

variable (s : State) (x : Nat)

@[simp] theorem showMadc_madc (y : Nat) : (showMadc s x).madc y = s.madc y := by simp [showMadc]
@[simp] theorem showMadc_mon : (showMadc s x).mon = s.mon := by simp [showMadc]
@[simp] theorem showMadc_time : (showMadc s x).time = s.time := by simp [showMadc]

@[simp] theorem showMadc_busy : (showMadc s x).fld (Fld.MON_STAT_BUSY x) = (s.madc x).job.isSome.toNat := by
  simp [showMadc]

@[simp] theorem showMadc_seqRun : (showMadc s x).fld (Fld.MON_STAT_SEQ_RUN x) = (s.madc x).seqRun.toNat := by
  simp [showMadc]

@[simp] theorem showMadc_urgLvl (h : (s.madc x).urgent.length < 8) :
    (showMadc s x).fld (Fld.MON_STAT_URG_LVL x) = (s.madc x).urgent.length := by
  simp [showMadc, Nat.mod_eq_of_lt h]

@[simp] theorem showMadc_seqPos : (showMadc s x).fld (Fld.MON_STAT_SEQ_POS x) = s.fld (Fld.MON_STAT_SEQ_POS x) := by
  simp [showMadc]

@[simp] theorem showMadc_badCh : (showMadc s x).fld (Fld.MON_STAT_BAD_CH x) = s.fld (Fld.MON_STAT_BAD_CH x) := by
  simp [showMadc]

theorem SameRegs.showMadc {l : List Nat} {s t : State} (h : SameRegs l s t) {x : Nat} (hx : Reg.MON_STAT x ∈ l) :
    SameRegs l s (showMadc t x) :=
  ((h.flag (f := Fld.MON_STAT_BUSY x) hx _).flag (f := Fld.MON_STAT_SEQ_RUN x) hx _).setFld (f := Fld.MON_STAT_URG_LVL x) hx _

@[simp] theorem showMadc_fld_ne (g : Fld) (h : g.reg ≠ Reg.MON_STAT x) : (showMadc s x).fld g = s.fld g :=
  (SameRegs.showMadc (l := [Reg.MON_STAT x]) (.refl _ s) (by simp)).fld g (by simpa using h)

end

theorem monChannel_iff (ch : Nat) : monChannel ch = true ↔ ch < 55 := by simp [monChannel]

theorem not_monChannel {ch : Nat} (h : 55 ≤ ch) : monChannel ch = false := by simpa [monChannel] using h

/-! ### Start pulses (R437) -/

section

variable (s : State) (x : Nat)

/-- A pulse at an idle core starts its conversion and ends a sequence run at once. -/
theorem monPulse_idle (hidle : (s.madc x).job = none) (hch : s.fld (Fld.MON_SEL_CH x) < 55) :
    monPulse s x = showMadc (startConv
      (s.updMadc x (fun m => { m with lastPulse := s.time.now, endRun := false, seqRun := false })) x
      { kind := .pulse, ch := s.fld (Fld.MON_SEL_CH x), samp := s.fld (Fld.MON_SEL_SAMP x) }) x := by
  simp [monPulse, hidle, (monChannel_iff _).2 hch]

/-- A pulse for a reserved channel converts nothing. -/
theorem monPulse_reserved (hidle : (s.madc x).job = none) (hch : 55 ≤ s.fld (Fld.MON_SEL_CH x)) :
    monPulse s x = showMadc
      ((s.updMadc x (fun m => { m with lastPulse := s.time.now, endRun := false, seqRun := false })).flag
        (Fld.MON_STAT_BAD_CH x) true) x := by
  simp [monPulse, hidle, not_monChannel hch]

/-- A pulse at a busy core is dropped and counted; a sequence run ends with the entry in progress. -/
theorem monPulse_busy (hbusy : (s.madc x).job ≠ none) :
    monPulse s x = showMadc
      ((s.updMadc x (fun m => { m with
        lastPulse := s.time.now, endRun := (s.madc x).seqRun, seqRun := (s.madc x).seqRun })).bump
        (Fld.MON_CNT_START_DROP x)) x := by
  simp [monPulse, Option.isSome_iff_ne_none.2 hbusy]

end

/-- MON_GO takes CH and SAMP from the word written. -/
theorem monSel_written (s : State) (x : Fin 2) (v : Word) :
    (s.writeRw (Reg.MON_SEL x) v).fld (Fld.MON_SEL_CH x) = v.toNat % 64
    ∧ (s.writeRw (Reg.MON_SEL x) v).fld (Fld.MON_SEL_SAMP x) = v.toNat / 2 ^ 22 % 512 := by
  have hch := State.fld_writeRw s (Fld.MON_SEL_CH x) v (by rw [accessBits_monSel]; simp only; decide) (by simp)
  have hsamp := State.fld_writeRw s (Fld.MON_SEL_SAMP x) v (by rw [accessBits_monSel]; simp only; decide) (by simp)
  exact ⟨by simpa [fieldOf] using hch, by simpa [fieldOf] using hsamp⟩

section

variable (s : State) (x : Fin 2) (v : Word)

theorem exec_monGo : exec (.monGo x v) s = .next (monPulse (s.writeRw (Reg.MON_SEL x) v) x) := (rfl)

theorem monGo_starts (hidle : (s.madc x).job = none) (hch : v.toNat % 64 < 55) : Completes (.monGo x v) s fun t =>
    (t.madc x).job = some ({ kind := .pulse, ch := v.toNat % 64, samp := v.toNat / 2 ^ 22 % 512 }, s.time.now)
    ∧ (t.madc x).lastPulse = s.time.now ∧ (t.madc x).seqRun = false ∧ t.fld (Fld.MON_STAT_BUSY x) = 1
    ∧ t.fld (Fld.MON_SEL_CH x) = v.toNat % 64 ∧ t.fld (Fld.MON_SEL_SAMP x) = v.toNat / 2 ^ 22 % 512
    ∧ (∀ y, y ≠ x.val → t.madc y = s.madc y) ∧ SameRegs [Reg.MON_SEL x, Reg.MON_STAT x] s t := by
  obtain ⟨hc, hs⟩ := monSel_written s x v
  refine ⟨_, exec_monGo s x v, ?_⟩
  rw [monPulse_idle _ _ (by simpa using hidle) (by rwa [hc]), hc, hs]
  refine ⟨by simp, by simp, by simp, by simp, by simpa using hc, by simpa using hs, fun y hy => by simp [hy], ?_⟩
  exact ((((SameRegs.refl _ s).writeRw (by simp) v).regs_eq (State.updMadc_regs _ _ _)).regs_eq
    (startConv_regs _ _ _)).showMadc (by simp)

theorem monGo_drops (hbusy : (s.madc x).job ≠ none) : Completes (.monGo x v) s fun t =>
    (t.madc x).job = (s.madc x).job ∧ (t.madc x).lastPulse = s.time.now ∧ (t.madc x).endRun = (s.madc x).seqRun
    ∧ t.fld (Fld.MON_CNT_START_DROP x) = min (s.fld (Fld.MON_CNT_START_DROP x) + 1) 65535
    ∧ SameRegs [Reg.MON_SEL x, Reg.MON_STAT x, Reg.MON_CNT x] s t := by
  refine ⟨_, exec_monGo s x v, ?_⟩
  rw [monPulse_busy _ _ (by simpa using hbusy)]
  refine ⟨by simp, by simp, by simp, by simp, ?_⟩
  exact ((((SameRegs.refl _ s).writeRw (by simp) v).regs_eq (State.updMadc_regs _ _ _)).bump (by simp)).showMadc (by simp)

theorem monGo_reserved (hidle : (s.madc x).job = none) (hch : 55 ≤ v.toNat % 64) : Completes (.monGo x v) s fun t =>
    (t.madc x).job = none ∧ t.fld (Fld.MON_STAT_BAD_CH x) = 1 ∧ SameRegs [Reg.MON_SEL x, Reg.MON_STAT x] s t := by
  obtain ⟨hc, -⟩ := monSel_written s x v
  refine ⟨_, exec_monGo s x v, ?_⟩
  rw [monPulse_reserved _ _ (by simpa using hidle) (by rwa [hc])]
  refine ⟨by simpa using hidle, by simp, ?_⟩
  exact ((((SameRegs.refl _ s).writeRw (by simp) v).regs_eq (State.updMadc_regs _ _ _)).flag (by simp) _).showMadc (by simp)

end

/-! ### Sequences (R438) -/

/-- The entry that runs next: enabled, and no enabled one stands before it from SEQ_POS on. -/
theorem seqEntry_eq_some (s : State) (x : Nat) {e : Nat} (he : e < 16) (hen : s.on (Fld.MON_SEQ_EN x e) = true)
    (hbefore : ∀ i, i < (e + 16 - s.fld (Fld.MON_STAT_SEQ_POS x)) % 16 →
      s.on (Fld.MON_SEQ_EN x ((s.fld (Fld.MON_STAT_SEQ_POS x) + i) % 16)) = false) : s.seqEntry x = some e := by
  have hpos : s.fld (Fld.MON_STAT_SEQ_POS x) < 16 := State.fld_lt s _
  generalize hp : s.fld (Fld.MON_STAT_SEQ_POS x) = pos at hpos hbefore
  have hat : (pos + (e + 16 - pos) % 16) % 16 = e := by omega
  have hfind : (List.range 16).find? (fun i => s.on (Fld.MON_SEQ_EN x ((pos + i) % 16))) = some ((e + 16 - pos) % 16) := by
    rw [List.find?_range_eq_some]
    refine ⟨by rwa [hat], List.mem_range.2 (Nat.mod_lt _ (by decide)), fun i hi => by rw [hbefore i hi]; rfl⟩
  unfold State.seqEntry
  rw [List.find?_map, hp]
  exact (congrArg _ hfind).trans (congrArg some hat)

/-- With no entry enabled none runs. -/
theorem seqEntry_eq_none (s : State) (x : Nat) (h : ∀ e, e < 16 → s.fld (Fld.MON_SEQ_EN x e) = 0) : s.seqEntry x = none := by
  refine List.find?_eq_none.2 fun e he => ?_
  obtain ⟨i, -, rfl⟩ := List.mem_map.1 he
  simp [State.on, h _ (Nat.mod_lt _ (by decide))]

/-- The sequence shows the entry it runs and starts its conversion. -/
theorem seqNext_starts (s : State) (x n : Nat) {e : Nat} (he : s.seqEntry x = some e) (hch : s.fld (Fld.MON_SEQ_CH x e) < 55) :
    seqNext s x (n + 1) = startConv (s.setFld (Fld.MON_STAT_SEQ_POS x) e) x
      { kind := .seq, ch := s.fld (Fld.MON_SEQ_CH x e), samp := s.fld (Fld.MON_SEQ_SAMP x e) } := by
  have hreg : Reg.MON_SEQ x e ≠ Reg.MON_STAT x := by simp; omega
  have hc := State.fld_setFld_ne s (Fld.MON_STAT_SEQ_POS x) (Fld.MON_SEQ_CH x e) e (.inl hreg)
  have hs := State.fld_setFld_ne s (Fld.MON_STAT_SEQ_POS x) (Fld.MON_SEQ_SAMP x e) e (.inl hreg)
  simp only [seqNext, he, hc, hs, (monChannel_iff _).2 hch, if_true]

/-- The idle timer of a converter has run out, or it does not run (R438, R440). -/
def State.pulseIdle (s : State) (x : Nat) : Bool := s.pws.coreOff || (s.madc x).lastPulse + 100 * ticksUs ≤ s.time.now

theorem exec_monSequenceStart (s : State) (x : Fin 2) : exec (.monSequenceStart x) s =
    if (s.madc x).seqRun || (s.seqEntry x).isNone || !s.pulseIdle x then .next s
    else .next (showMadc (if (s.madc x).job.isNone
      then seqNext (s.updMadc x (fun m => { m with seqRun := true, endRun := false, seqCnt := 0, seqSum := 0 })) x
      else s.updMadc x (fun m => { m with seqRun := true, endRun := false, seqCnt := 0, seqSum := 0 })) x) := (rfl)

theorem monSequenceStart_starts (s : State) (x : Fin 2) (e : Nat) (hrun : (s.madc x).seqRun = false)
    (hidle : (s.madc x).job = none) (htimer : s.pws.coreOff = true ∨ (s.madc x).lastPulse + 80000 ≤ s.time.now) (he : e < 16)
    (hen : s.fld (Fld.MON_SEQ_EN x e) = 1)
    (hbefore : ∀ i, i < (e + 16 - s.fld (Fld.MON_STAT_SEQ_POS x)) % 16 →
      s.fld (Fld.MON_SEQ_EN x ((s.fld (Fld.MON_STAT_SEQ_POS x) + i) % 16)) = 0)
    (hch : s.fld (Fld.MON_SEQ_CH x e) < 55) : Completes (.monSequenceStart x) s fun t =>
      (t.madc x).job = some ({ kind := .seq, ch := s.fld (Fld.MON_SEQ_CH x e), samp := s.fld (Fld.MON_SEQ_SAMP x e) }, s.time.now)
      ∧ t.fld (Fld.MON_STAT_SEQ_POS x) = e ∧ t.fld (Fld.MON_STAT_SEQ_RUN x) = 1 ∧ t.fld (Fld.MON_STAT_BUSY x) = 1
      ∧ (∀ y, y ≠ x.val → t.madc y = s.madc y) ∧ SameRegs [Reg.MON_STAT x] s t := by
  have hentry : s.seqEntry x = some e :=
    seqEntry_eq_some s x he (by simp [State.on, hen]) fun i hi => by simp [State.on, hbefore i hi]
  have htimer' : s.pulseIdle x = true := by simpa [State.pulseIdle, ticksUs] using htimer
  refine ⟨_, by rw [exec_monSequenceStart, hentry, hrun, htimer', hidle]; rfl, ?_⟩
  rw [seqNext_starts _ _ _ (by simpa using hentry) (by simpa using hch)]
  refine ⟨by simp, by simp [Nat.mod_eq_of_lt he], by simp, by simp, fun y hy => by simp [hy], ?_⟩
  exact ((((SameRegs.refl _ s).regs_eq (State.updMadc_regs _ _ _)).setFld (by simp) _).regs_eq
    (startConv_regs _ _ _)).showMadc (by simp)

theorem monSequenceStart_blocked (s : State) (x : Fin 2) (h : (∀ e, e < 16 → s.fld (Fld.MON_SEQ_EN x e) = 0)
    ∨ (s.madc x).seqRun = true ∨ (s.pws.coreOff = false ∧ s.time.now < (s.madc x).lastPulse + 80000)) :
    exec (.monSequenceStart x) s = .next s := by
  rw [exec_monSequenceStart, if_pos]
  obtain hnone | hrun | ⟨hon, htimer⟩ := h
  · simp [seqEntry_eq_none s x hnone]
  · simp [hrun]
  · simp [State.pulseIdle, ticksUs, hon, htimer]

/-! ### Urgent requests (R439) -/

section

variable (s : State) (x : Nat) (j : MonJob)

theorem urgent_reserved (hch : 55 ≤ j.ch) : urgent s x j = (s.flag (Fld.MON_STAT_BAD_CH x) true, false) := by
  simp [urgent, not_monChannel hch]

theorem urgent_idle (hch : j.ch < 55) (hidle : (s.madc x).job = none) :
    urgent s x j = (showMadc (startConv s x j) x, true) := by
  simp [urgent, (monChannel_iff _).2 hch, hidle]

theorem urgent_queued (hch : j.ch < 55) (hbusy : (s.madc x).job ≠ none) (hroom : (s.madc x).urgent.length < 4) :
    urgent s x j = (showMadc (s.updMadc x (fun m => { m with urgent := m.urgent ++ [j] })) x, true) := by
  simp [urgent, (monChannel_iff _).2 hch, hbusy, Nat.not_le.2 hroom]

theorem urgent_full (hch : j.ch < 55) (hbusy : (s.madc x).job ≠ none) (hfull : 4 ≤ (s.madc x).urgent.length) :
    urgent s x j = (s.bump (Fld.MON_CNT_URG_DROP x), false) := by
  simp [urgent, (monChannel_iff _).2 hch, hbusy, hfull]

/-- What becomes of a request: it is of a reserved channel, starts at once, waits, or is refused. -/
theorem urgent_completes {c : Instr} (hexec : exec c s = .next (urgent s x j).1) :
    (55 ≤ j.ch → Completes c s fun t => t.fld (Fld.MON_STAT_BAD_CH x) = 1 ∧ OnlyRegs [Reg.MON_STAT x] s t)
    ∧ (j.ch < 55 → (s.madc x).job = none → Completes c s fun t => (t.madc x).job = some (j, s.time.now)
      ∧ (t.madc x).urgent = (s.madc x).urgent ∧ t.fld (Fld.MON_STAT_BUSY x) = 1 ∧ SameRegs [Reg.MON_STAT x] s t)
    ∧ (j.ch < 55 → (s.madc x).job ≠ none → (s.madc x).urgent.length < 4 → Completes c s fun t =>
      (t.madc x).job = (s.madc x).job ∧ (t.madc x).urgent = (s.madc x).urgent ++ [j]
      ∧ t.fld (Fld.MON_STAT_URG_LVL x) = (s.madc x).urgent.length + 1 ∧ SameRegs [Reg.MON_STAT x] s t)
    ∧ (j.ch < 55 → (s.madc x).job ≠ none → 4 ≤ (s.madc x).urgent.length → Completes c s fun t =>
      t.fld (Fld.MON_CNT_URG_DROP x) = min (s.fld (Fld.MON_CNT_URG_DROP x) + 1) 65535 ∧ OnlyRegs [Reg.MON_CNT x] s t) := by
  refine ⟨fun hch => ⟨_, hexec, ?_⟩, fun hch hidle => ⟨_, hexec, ?_⟩, fun hch hbusy hroom => ⟨_, hexec, ?_⟩,
    fun hch hbusy hfull => ⟨_, hexec, ?_⟩⟩
  · simp only [urgent_reserved s x j hch]
    exact ⟨by simp, OnlyRegs.flag s (by simp) _⟩
  · simp only [urgent_idle s x j hch hidle]
    exact ⟨by simp, by simp, by simp, ((SameRegs.refl _ s).regs_eq (startConv_regs s x j)).showMadc (by simp)⟩
  · simp only [urgent_queued s x j hch hbusy hroom]
    refine ⟨by simp, by simp, ?_, ((SameRegs.refl _ s).regs_eq (State.updMadc_regs s x _)).showMadc (by simp)⟩
    rw [showMadc_urgLvl _ _ (by simp; omega)]
    simp
  · simp only [urgent_full s x j hch hbusy hfull]
    exact ⟨by simp, OnlyRegs.bump s (by simp)⟩

end

/-- A detector's conversion goes to MADC_A, for the channel of its path (R229). -/
theorem exec_monUrgentRequest_detector (s : State) (x : Fin 2) (p : Fin 64) (v : Word) :
    exec (.monUrgentRequest x (some p) v) s = .next (urgent s 0
      { kind := .detector p, ch := s.fld (Fld.LDE_PATH_LOOP_DET_CH p), samp := v.toNat / 2 ^ 22 % 512 }).1 := (rfl)

theorem exec_monUrgentRequest_host (s : State) (x : Fin 2) (v : Word) :
    exec (.monUrgentRequest x none v) s = .next (urgent s x
      { kind := .host, ch := v.toNat % 64, samp := v.toNat / 2 ^ 22 % 512 }).1 := by
  rw [show v.toNat % 64 = fieldOf 0 6 v by simp [fieldOf]]
  rfl

/-! ### The end of a conversion (R436 to R440) -/

/-- A conversion lasts SAMP + 16 cycles of 20 ticks, and in STANDBY of 125 / 6 ticks. -/
theorem convTicks_core (s : State) (samp : Nat) (h : s.pws.coreOff = false) :
    s.convTicks samp = 20 * (max 4 (min 256 samp) + 16) := by
  simp [State.convTicks, h, Nat.mul_comm]

theorem convTicks_standby (s : State) (samp : Nat) (h : s.pws.coreOff = true) :
    125 * (max 4 (min 256 samp) + 16) ≤ 6 * s.convTicks samp
    ∧ 6 * s.convTicks samp < 125 * (max 4 (min 256 samp) + 16) + 6 := by
  simp only [State.convTicks, h, if_true]
  omega

/-- A sample of a performance monitor changes only the monitors. -/
theorem pmonSample_keeps (s : State) (src : Nat) (arg : Option Nat) (v : Int) :
    (pmonSample s src arg v).regs = s.regs ∧ ∀ x, (pmonSample s src arg v).madc x = s.madc x :=
  List.foldlRecOn (motive := fun t : State => t.regs = s.regs ∧ ∀ x, t.madc x = s.madc x) _ _ ⟨rfl, fun _ => rfl⟩
    fun t ht m _ => by
      split
      · exact ht
      · exact ht

/-- No enabled threshold watches the channel. -/
def State.unwatched (s : State) (ch : Nat) : Prop :=
  ∀ t, t < 16 → s.fld (Fld.MON_THR_CFG_EN t) = 0 ∨ s.fld (Fld.MON_THR_CFG_CH t) ≠ ch

/-- Writes below the thresholds' registers leave a channel unwatched. -/
theorem State.unwatched_of_sameRegs {s t : State} {l : List Nat} {ch : Nat} (h : s.unwatched ch) (hst : SameRegs l s t)
    (hl : ∀ a, a ∈ l → a < Reg.MON_THR_CFG 0) : t.unwatched ch := by
  intro i hi
  have hreg : Reg.MON_THR_CFG i ∉ l := fun hm =>
    Nat.not_lt.2 (Nat.add_le_add_left (Nat.mul_le_mul_left 0x10 (Nat.zero_le i)) 0x0F000900) (hl _ hm)
  rw [hst.fld (Fld.MON_THR_CFG_EN i) hreg, hst.fld (Fld.MON_THR_CFG_CH i) hreg]
  exact h i hi

/-- Converter x keeps the code as its latest result of the channel. -/
def keepLatest (s : State) (x ch code : Nat) : State :=
  s.updMadc x (fun m => { m with latest := m.latest.put ch (some (code, s.time.now)) })

/-- A result of an unwatched channel is kept and sampled, and nothing else. -/
theorem monResult_unwatched (s : State) (x ch code : Nat) (h : s.unwatched ch) :
    monResult s x ch code = pmonSample (keepLatest s x ch code) 8 (some ch) code := by
  have hregs := (pmonSample_keeps (keepLatest s x ch code) 8 (some ch) code).1
  refine List.foldlRecOn (motive := fun t : State => t = pmonSample (keepLatest s x ch code) 8 (some ch) code) _ _ rfl
    fun t ht i hi => ?_
  rw [if_neg, ht]
  simp only [ht, State.on, State.fld_congr hregs, Bool.and_eq_true, beq_iff_eq, bne_iff_ne, not_and]
  exact (h i (List.mem_range.1 hi)).resolve_left

theorem monResult_unwatched_regs (s : State) (x ch code : Nat) (h : s.unwatched ch) :
    (monResult s x ch code).regs = s.regs := by
  rw [monResult_unwatched s x ch code h, (pmonSample_keeps _ _ _ _).1]
  rfl

theorem monResult_unwatched_madc (s : State) (x ch code : Nat) (h : s.unwatched ch) :
    (monResult s x ch code).madc x
      = { s.madc x with latest := (s.madc x).latest.put ch (some (code, s.time.now)) } := by
  rw [monResult_unwatched s x ch code h, (pmonSample_keeps _ _ _ _).2]
  simp [keepLatest]

/-- One conversion of a sequence entry that is not its last adds to the sum. -/
theorem seqResult_partial (s : State) (x ch code : Nat)
    (h : (s.madc x).seqCnt + 1 < 2 ^ min 6 (s.fld (Fld.MON_SEQ_AVG x (s.fld (Fld.MON_STAT_SEQ_POS x))))) :
    seqResult s x ch code
      = s.updMadc x (fun m => { m with seqCnt := (s.madc x).seqCnt + 1, seqSum := (s.madc x).seqSum + code }) := by
  unfold seqResult
  exact if_pos h

/-- The state in which entry e of the sequence of converter x ended with its mean. -/
def seqWritten (s : State) (x e mean : Nat) : State :=
  (((s.flag (Fld.MON_SRES_VALID x e) true).setFld (Fld.MON_SRES_CODE x e) mean).setFld (Fld.MON_STAT_SEQ_POS x)
    ((e + 1) % 16)).updMadc x (fun m => { m with seqCnt := 0, seqSum := 0, seqRun := !m.endRun, endRun := false })

/-- The last conversion of a sequence entry writes the rounded mean. -/
theorem seqResult_last (s : State) (x ch code e n : Nat) (he : e = s.fld (Fld.MON_STAT_SEQ_POS x))
    (hn : n = 2 ^ min 6 (s.fld (Fld.MON_SEQ_AVG x e))) (h : n ≤ (s.madc x).seqCnt + 1) :
    seqResult s x ch code = monResult (seqWritten s x e ((2 * ((s.madc x).seqSum + code) + n) / (2 * n))) x ch
      ((2 * ((s.madc x).seqSum + code) + n) / (2 * n)) := by
  subst he hn
  unfold seqResult
  exact if_neg (Nat.not_lt.2 h)

/-- The rounded mean of n codes of 12 bits has 12 bits. -/
theorem roundedMean_lt {sum n : Nat} (hn : 0 < n) (h : sum ≤ 4095 * n) : (2 * sum + n) / (2 * n) < 4096 := by
  rw [Nat.div_lt_iff_lt_mul (by omega)]
  omega

theorem seqWritten_sameRegs (s : State) (x e mean : Nat) :
    SameRegs [Reg.MON_SRES x e, Reg.MON_STAT x] s (seqWritten s x e mean) :=
  ((((SameRegs.refl _ s).flag (by simp) _).setFld (by simp) _).setFld (by simp) _).regs_eq (State.updMadc_regs _ _ _)

theorem seqWritten_fld (s : State) (x e mean : Nat) (hmean : mean < 4096) :
    (seqWritten s x e mean).fld (Fld.MON_SRES_CODE x e) = mean ∧ (seqWritten s x e mean).fld (Fld.MON_SRES_VALID x e) = 1
    ∧ (seqWritten s x e mean).fld (Fld.MON_STAT_SEQ_POS x) = (e + 1) % 16 := by
  have hreg : Reg.MON_SRES x e ≠ Reg.MON_STAT x := by simp; omega
  simp only [seqWritten, State.updMadc_fld]
  refine ⟨?_, ?_, by simp [Nat.mod_eq_of_lt (Nat.mod_lt (e + 1) (show 16 > 0 by decide))]⟩
  · rw [State.fld_setFld_ne _ _ _ _ (.inl hreg), State.fld_setFld _ _ _ (by simp)]
    exact Nat.mod_eq_of_lt hmean
  · rw [State.fld_setFld_ne _ _ _ _ (.inl hreg), State.fld_setFld_ne _ _ _ _ (by simp), State.fld_flag _ _ _ (by simp) (by simp)]
    rfl

/-- What a conversion's result does before the conversion boundary, for each purpose of a conversion. -/
def conversionResult (s : State) (x : Nat) (j : MonJob) (code : Nat) : State :=
  match j.kind with
  | .pulse => monResult (s.wr (Reg.MON_RES x) (resultWord j.ch code)) x j.ch code
  | .host => monResult (s.wr (Reg.MON_URES x) (resultWord j.ch code)) x j.ch code
  | .seq => seqResult s x j.ch code
  | .detector _ => monResult s x j.ch code
  | .plaus => takePlaus (monResult s x j.ch code) x code

theorem exec_monConversionDone (s : State) (x : Fin 2) (code : Fin 4096) (j : MonJob) (b : Nat)
    (hjob : (s.madc x).job = some (j, b)) : exec (.monConversionDone x code) s =
    if s.time.now < b + s.convTicks j.samp then .next s
    else .next (showMadc (monBoundary (conversionResult s x j code) x) x) := by
  change execMonConversionDone x code s = _
  simp only [execMonConversionDone, hjob]
  rfl

/-- A result written into one register of an unwatched channel. -/
theorem monResult_written (s : State) (x ch code a : Nat) (h : s.unwatched ch) (ha : a < Reg.MON_THR_CFG 0) (v : Word) :
    (monResult (s.wr a v) x ch code).rd a = v ∧ SameRegs [a] s (monResult (s.wr a v) x ch code)
    ∧ ((monResult (s.wr a v) x ch code).madc x).latest.at ch = some (code, s.time.now) := by
  have hwr : SameRegs [a] s (s.wr a v) := (SameRegs.refl _ s).wr (by simp) v
  have hun : (s.wr a v).unwatched ch := State.unwatched_of_sameRegs h hwr (by simpa using ha)
  have hregs := monResult_unwatched_regs (s.wr a v) x ch code hun
  refine ⟨by rw [State.rd_congr hregs, State.rd_wr_self], hwr.regs_eq hregs, ?_⟩
  rw [monResult_unwatched_madc _ x ch code hun]
  simp

theorem resultWord_eq (ch : Nat) (code : Fin 4096) :
    resultWord ch code = BitVec.ofNat 32 (2 ^ 31 + ch % 64 * 2 ^ 24 + code) := by
  rw [resultWord, Nat.mod_eq_of_lt code.isLt]

section

variable (s : State) (x : Fin 2) (code : Fin 4096) (j : MonJob) (h : s.unwatched j.ch)

include h

theorem conversionResult_pulse (hk : j.kind = .pulse) :
    (conversionResult s x j code).rd (Reg.MON_RES x) = BitVec.ofNat 32 (2 ^ 31 + j.ch % 64 * 2 ^ 24 + code)
    ∧ SameRegs [Reg.MON_RES x] s (conversionResult s x j code)
    ∧ ((conversionResult s x j code).madc x).latest.at j.ch = some (code.val, s.time.now) := by
  rw [← resultWord_eq]
  simp only [conversionResult, hk]
  exact monResult_written s x j.ch code _ h (by simp; omega) _

theorem conversionResult_host (hk : j.kind = .host) :
    (conversionResult s x j code).rd (Reg.MON_URES x) = BitVec.ofNat 32 (2 ^ 31 + j.ch % 64 * 2 ^ 24 + code)
    ∧ SameRegs [Reg.MON_URES x] s (conversionResult s x j code)
    ∧ ((conversionResult s x j code).madc x).latest.at j.ch = some (code.val, s.time.now) := by
  rw [← resultWord_eq]
  simp only [conversionResult, hk]
  exact monResult_written s x j.ch code _ h (by simp; omega) _

theorem conversionResult_detector {p : Nat} (hk : j.kind = .detector p) :
    (conversionResult s x j code).regs = s.regs
    ∧ ((conversionResult s x j code).madc x).latest.at j.ch = some (code.val, s.time.now) := by
  simp only [conversionResult, hk]
  exact ⟨monResult_unwatched_regs s x j.ch code h, by simp [monResult_unwatched_madc s x j.ch code h]⟩

/-- Every purpose but a sequence's and a plausibility round's keeps the code as the latest result of its channel. -/
theorem conversionResult_latest (hseq : j.kind ≠ .seq) (hplaus : j.kind ≠ .plaus) :
    ((conversionResult s x j code).madc x).latest.at j.ch = some (code.val, s.time.now) := by
  cases hk : j.kind with
  | pulse => exact (conversionResult_pulse s x code j h hk).2.2
  | host => exact (conversionResult_host s x code j h hk).2.2
  | detector p => exact (conversionResult_detector s x code j h hk).2
  | seq => exact absurd hk hseq
  | plaus => exact absurd hk hplaus

omit h in
theorem conversionResult_seq_partial (hk : j.kind = .seq)
    (hcnt : (s.madc x).seqCnt + 1 < 2 ^ min 6 (s.fld (Fld.MON_SEQ_AVG x (s.fld (Fld.MON_STAT_SEQ_POS x))))) :
    ((conversionResult s x j code).madc x).seqCnt = (s.madc x).seqCnt + 1
    ∧ ((conversionResult s x j code).madc x).seqSum = (s.madc x).seqSum + code
    ∧ (conversionResult s x j code).regs = s.regs := by
  simp only [conversionResult, hk, seqResult_partial s x j.ch code hcnt]
  simp

theorem conversionResult_seq_last (hk : j.kind = .seq) (e n : Nat) (he : e = s.fld (Fld.MON_STAT_SEQ_POS x))
    (hn : n = 2 ^ min 6 (s.fld (Fld.MON_SEQ_AVG x e))) (hcnt : n ≤ (s.madc x).seqCnt + 1)
    (hsum : (s.madc x).seqSum + code ≤ 4095 * n) :
    (conversionResult s x j code).fld (Fld.MON_SRES_CODE x e) = (2 * ((s.madc x).seqSum + code) + n) / (2 * n)
    ∧ (conversionResult s x j code).fld (Fld.MON_SRES_VALID x e) = 1
    ∧ (conversionResult s x j code).fld (Fld.MON_STAT_SEQ_POS x) = (e + 1) % 16
    ∧ ((conversionResult s x j code).madc x).seqRun = !(s.madc x).endRun
    ∧ ((conversionResult s x j code).madc x).seqCnt = 0
    ∧ SameRegs [Reg.MON_SRES x e, Reg.MON_STAT x] s (conversionResult s x j code) := by
  have hpos : e < 16 := he ▸ State.fld_lt s (Fld.MON_STAT_SEQ_POS x)
  have hmean := roundedMean_lt (hn ▸ Nat.two_pow_pos _) hsum
  simp only [conversionResult, hk, seqResult_last s x j.ch code e n he hn hcnt]
  generalize (2 * ((s.madc x).seqSum + code) + n) / (2 * n) = mean at hmean ⊢
  have hwritten := seqWritten_sameRegs s x e mean
  have hun : (seqWritten s x e mean).unwatched j.ch :=
    State.unwatched_of_sameRegs h hwritten (by simp; omega)
  have hregs := monResult_unwatched_regs _ x j.ch mean hun
  obtain ⟨hcode, hvalid, hnext⟩ := seqWritten_fld s x e mean hmean
  rw [monResult_unwatched_madc _ x j.ch mean hun]
  simp only [State.fld_congr hregs]
  exact ⟨hcode, hvalid, hnext, by simp [seqWritten], by simp [seqWritten], hwritten.regs_eq hregs⟩

end

/-- At a conversion boundary the head of the urgent queue starts, and an interrupted entry loses its partial average. -/
theorem monBoundary_urgent (u : State) (x : Nat) (j : MonJob) (rest : List MonJob) (h : (u.madc x).urgent = j :: rest) :
    monBoundary u x = startConv (u.updMadc x (fun m => { m with urgent := rest, seqCnt := 0, seqSum := 0 })) x j := by
  simp only [monBoundary, h]

theorem monBoundary_urgent_keeps (u : State) (x : Nat) (j : MonJob) (rest : List MonJob)
    (h : (u.madc x).urgent = j :: rest) :
    ((monBoundary u x).madc x).job = some (j, u.time.now) ∧ ((monBoundary u x).madc x).urgent = rest
    ∧ ((monBoundary u x).madc x).seqCnt = 0 ∧ ((monBoundary u x).madc x).seqSum = 0 ∧ (monBoundary u x).regs = u.regs := by
  rw [monBoundary_urgent u x j rest h]
  simp

/-- With no urgent request and no sequence the core is idle. -/
theorem monBoundary_idle (u : State) (x : Nat) (h : (u.madc x).urgent = []) (hrun : (u.madc x).seqRun = false) :
    monBoundary u x = u.updMadc x (fun m => { m with job := none }) := by
  simp [monBoundary, h, hrun]

theorem monBoundary_idle_keeps (u : State) (x : Nat) (h : (u.madc x).urgent = []) (hrun : (u.madc x).seqRun = false) :
    ((monBoundary u x).madc x).job = none ∧ (monBoundary u x).regs = u.regs := by
  rw [monBoundary_idle u x h hrun]
  simp

theorem monConversionDone_early (s : State) (x : Fin 2) (code : Fin 4096) (j : MonJob) (b : Nat)
    (hjob : (s.madc x).job = some (j, b)) (h : s.time.now < b + s.convTicks j.samp) :
    exec (.monConversionDone x code) s = .next s := by
  rw [exec_monConversionDone s x code j b hjob, if_pos h]

theorem monConversionDone_due (s : State) (x : Fin 2) (code : Fin 4096) (j : MonJob) (b : Nat)
    (hjob : (s.madc x).job = some (j, b)) (h : b + s.convTicks j.samp ≤ s.time.now) :
    exec (.monConversionDone x code) s = .next (showMadc (monBoundary (conversionResult s x j code) x) x) := by
  rw [exec_monConversionDone s x code j b hjob, if_neg (Nat.not_lt.2 h)]

/-! ### The cross-check (R441) -/

/-- The conversion that a cross-check requests. -/
def plausJob : MonJob := { kind := .plaus, ch := 54, samp := 16 }

/-- A round of the cross-check begins; the flag says whether both queues took its request. -/
def beginRound (s : State) (taken : Bool) : State :=
  s.updMon (fun m => { m with plausA := none, plausB := none, plausAt := s.time.now, plausSkip := !taken })

theorem exec_plausibilityRequest (s : State) : exec .plausibilityRequest s =
    if s.time.now < s.mon.plausAt + ticksMs then .next s
    else .next ((urgent (urgent s 0 plausJob).1 1 plausJob).1.updMon (fun m => { m with
      plausA := none
      plausB := none
      plausAt := s.time.now
      plausSkip := !((urgent s 0 plausJob).2 && (urgent (urgent s 0 plausJob).1 1 plausJob).2) })) := (rfl)

/-- With both cores idle both conversions of a round start at once. -/
theorem plausibilityRequest_idle (s : State) (hdue : s.mon.plausAt + 800000 ≤ s.time.now) (hA : (s.madc 0).job = none)
    (hB : (s.madc 1).job = none) : exec .plausibilityRequest s =
      .next (beginRound (showMadc (startConv (showMadc (startConv s 0 plausJob) 0) 1 plausJob) 1) true) := by
  rw [exec_plausibilityRequest, if_neg (Nat.not_lt.2 hdue), urgent_idle s 0 _ (by simp [plausJob]) hA,
    urgent_idle _ 1 _ (by simp [plausJob]) (by simpa using hB)]
  simp [beginRound]

@[simp] theorem beginRound_regs (s : State) (taken : Bool) : (beginRound s taken).regs = s.regs := (rfl)
@[simp] theorem beginRound_madc (s : State) (taken : Bool) (x : Nat) : (beginRound s taken).madc x = s.madc x := (rfl)

theorem plausibilityRequest_starts (s : State) (hdue : s.mon.plausAt + 800000 ≤ s.time.now) (hA : (s.madc 0).job = none)
    (hB : (s.madc 1).job = none) : Completes .plausibilityRequest s fun t =>
      (t.madc 0).job = some ({ kind := .plaus, ch := 54, samp := 16 }, s.time.now)
      ∧ (t.madc 1).job = some ({ kind := .plaus, ch := 54, samp := 16 }, s.time.now) ∧ t.mon.plausSkip = false
      ∧ t.mon.plausAt = s.time.now ∧ SameRegs [Reg.MON_STAT 0, Reg.MON_STAT 1] s t := by
  refine ⟨_, plausibilityRequest_idle s hdue hA hB, by simp [plausJob], by simp [plausJob], rfl,
    by simp [beginRound, State.updMon], ?_⟩
  exact (((((SameRegs.refl _ s).regs_eq (startConv_regs _ _ _)).showMadc (by simp)).regs_eq
    (startConv_regs _ _ _)).showMadc (by simp)).regs_eq (beginRound_regs _ _)

theorem plausibilityRequest_early (s : State) (h : s.time.now < s.mon.plausAt + 800000) :
    exec .plausibilityRequest s = .next s := by
  rw [exec_plausibilityRequest, if_pos h]

/-- The end of a condition changes only the Fault Hub's own state. -/
theorem endCondition_keeps (s : State) (kind unit : Nat) :
    (endCondition s kind unit).regs = s.regs ∧ (endCondition s kind unit).mon = s.mon := by
  unfold endCondition
  split
  · exact ⟨rfl, rfl⟩
  · exact ⟨rfl, rfl⟩

section

variable (s : State) (a b : Nat)

/-- Fewer than three disagreements in a row are counted, and nothing more. -/
theorem comparePlaus_differs (hab : 16 < max a b - min a b) (hn : s.mon.differ < 2) :
    comparePlaus s a b = { s with mon := { s.mon with differ := s.mon.differ + 1, agreeFrom := none } } := by
  have hfew : ¬ 3 ≤ s.mon.differ + 1 := by omega
  simp only [comparePlaus, hab, if_true, hfew, if_false]
  rfl

/-- From the third disagreement in a row on, DISAGREE stands and MADC_DISAGREE is reported. -/
theorem comparePlaus_reports (hab : 16 < max a b - min a b) (hn : 2 ≤ s.mon.differ) :
    ∃ u, comparePlaus s a b = reportCondition u 0x53 0 ∧ u.fld Fld.MON_STATUS_DISAGREE = 1 := by
  have hmany : 3 ≤ s.mon.differ + 1 := by omega
  refine ⟨_, by simp only [comparePlaus, hab, if_true, hmany]; rfl, ?_⟩
  exact State.fld_flag _ _ _ (by simp) (by simp)

/-- The state in which an agreement is counted: it holds since `since`. -/
def agreedSince (s : State) (since : Nat) : State := s.updMon (fun m => { m with differ := 0, agreeFrom := some since })

/-- An agreement ends DISAGREE when comparisons have agreed for QUIET_PERIOD. -/
theorem comparePlaus_agrees (hab : max a b - min a b ≤ 16) : comparePlaus s a b =
    if s.on Fld.MON_STATUS_DISAGREE && s.mon.agreeFrom.getD s.time.now + s.quietPeriod ≤ s.time.now then
      endCondition ((agreedSince s (s.mon.agreeFrom.getD s.time.now)).flag Fld.MON_STATUS_DISAGREE false) 0x53 0
    else agreedSince s (s.mon.agreeFrom.getD s.time.now) := by
  simp only [comparePlaus, Nat.not_lt.2 hab, if_false]
  rfl

theorem comparePlaus_agrees_differ (hab : max a b - min a b ≤ 16) : (comparePlaus s a b).mon.differ = 0 := by
  rw [comparePlaus_agrees s a b hab]
  split
  · rw [(endCondition_keeps _ _ _).2]
    rfl
  · rfl

theorem comparePlaus_agrees_first (hab : max a b - min a b ≤ 16) (hfrom : s.mon.agreeFrom = none) (hq : 0 < s.quietPeriod) :
    (comparePlaus s a b).regs = s.regs ∧ (comparePlaus s a b).mon.agreeFrom = some s.time.now := by
  rw [comparePlaus_agrees s a b hab, hfrom, if_neg (by simp; omega)]
  exact ⟨rfl, rfl⟩

theorem comparePlaus_agrees_clears (f : Nat) (hab : max a b - min a b ≤ 16) (hfrom : s.mon.agreeFrom = some f)
    (hq : f + s.quietPeriod ≤ s.time.now) (hd : s.fld Fld.MON_STATUS_DISAGREE = 1) :
    (comparePlaus s a b).fld Fld.MON_STATUS_DISAGREE = 0 := by
  rw [comparePlaus_agrees s a b hab, hfrom, if_pos (by simp [State.on, hd, hq]), State.fld_congr (endCondition_keeps _ _ _).1]
  exact State.fld_flag _ _ _ (by simp) (by simp)

end

/-! ### Thresholds (R442) -/

/-- A crossing shows its directions. -/
def showDirections (s : State) (t : Nat) (hi lo : Bool) : State :=
  let u := if hi then s.flag (Fld.MON_THR_STAT_HI_X t) true else s
  if lo then u.flag (Fld.MON_THR_STAT_LO_X t) true else u

/-- A threshold becomes ACTIVE, with its event. -/
def activate (s : State) (t : Nat) : State :=
  let u := s.flag (Fld.MON_THR_STAT_ACTIVE t) true
  if u.on (Fld.MON_THR_CFG_EVT t) then u.ceEvent 3 9 else u

/-- A threshold is no longer ACTIVE; the condition of its channel ends with the last one. -/
def deactivate (s : State) (t ch : Nat) : State :=
  let u := s.flag (Fld.MON_THR_STAT_ACTIVE t) false
  if u.thresholdStands ch then u else endCondition u (thresholdKind ch) ch

section

variable (s : State) (t ch : Nat) (hi lo : Bool)

theorem showDirections_sameRegs : SameRegs [Reg.MON_THR_STAT t] s (showDirections s t hi lo) := by
  have hhi : SameRegs [Reg.MON_THR_STAT t] s (if hi then s.flag (Fld.MON_THR_STAT_HI_X t) true else s) := by
    split
    · exact (SameRegs.refl _ s).flag (by simp) _
    · exact SameRegs.refl _ s
  unfold showDirections
  dsimp only
  split
  · exact hhi.flag (by simp) _
  · exact hhi

/-- The fields of MON_THRt_STAT below the directions stay as they were. -/
theorem showDirections_fld_ne (g : Fld) (hg : g.lo + g.width ≤ 30) : (showDirections s t hi lo).fld g = s.fld g := by
  have hhi : (if hi then s.flag (Fld.MON_THR_STAT_HI_X t) true else s).fld g = s.fld g := by
    split
    · exact State.fld_flag_ne s _ g _ (.inr (.inl (by simp; omega)))
    · rfl
  unfold showDirections
  dsimp only
  split
  · exact (State.fld_flag_ne _ _ g _ (.inr (.inl hg))).trans hhi
  · exact hhi

theorem showDirections_hiX : (showDirections s t true lo).fld (Fld.MON_THR_STAT_HI_X t) = 1 := by
  cases lo <;> simp [showDirections]

theorem showDirections_loX : (showDirections s t hi true).fld (Fld.MON_THR_STAT_LO_X t) = 1 := by
  simp [showDirections]

theorem activate_sameRegs : SameRegs [Reg.MON_THR_STAT t, Reg.CLS_CE_EVPEND 3, Reg.CLS_CE_CNT1 3] s (activate s t) := by
  have hflag : SameRegs [Reg.MON_THR_STAT t, Reg.CLS_CE_EVPEND 3, Reg.CLS_CE_CNT1 3] s
      (s.flag (Fld.MON_THR_STAT_ACTIVE t) true) := (SameRegs.refl _ s).flag (by simp) _
  unfold activate
  dsimp only
  split
  · exact hflag.ceEvent 9 (by simp) (by simp)
  · exact hflag

/-- A field of MON_THRt_STAT is as the setting of ACTIVE leaves it. -/
theorem activate_stat (g : Fld) (hg : g.reg = Reg.MON_THR_STAT t) :
    (activate s t).fld g = (s.flag (Fld.MON_THR_STAT_ACTIVE t) true).fld g := by
  unfold activate
  dsimp only
  split
  · exact State.fld_ceEvent_ne _ _ _ g (by rw [hg]; simp; omega)
  · rfl

/-- An event line that was raised is pending (R394). -/
theorem ceEvent_pending (e l : Nat) (hl : l < 32) : ((s.ceEvent e l).fld (Fld.CLS_CE_EVPEND_PEND e)).testBit l = true := by
  rw [State.ceEvent_eq]
  split
  · rename_i hset
    rw [State.fld_bump_ne _ _ _ _ (by simp)]
    exact hset
  · rename_i hclear
    rw [State.fld_setFld _ _ _ (by simp), Nat.testBit_mod_two_pow, Nat.add_comm, Nat.testBit_two_pow_add_eq]
    simp [hclear, hl]

theorem activate_event (h : s.on (Fld.MON_THR_CFG_EVT t) = true) :
    ((activate s t).fld (Fld.CLS_CE_EVPEND_PEND 3)).testBit 9 = true := by
  unfold activate
  dsimp only
  rw [if_pos (by simpa using h)]
  exact ceEvent_pending _ 3 9 (by decide)

theorem deactivate_fld (g : Fld) :
    (deactivate s t ch).fld g = (s.flag (Fld.MON_THR_STAT_ACTIVE t) false).fld g := by
  unfold deactivate
  dsimp only
  split
  · rfl
  · exact State.fld_congr (endCondition_keeps _ _ _).1 g

/-- A crossing shows its directions; then an ACTIVE threshold refreshes its condition, and one that becomes ACTIVE acts. -/
theorem crossing_eq : crossing s t ch hi lo =
    let u := showDirections s t hi lo
    if u.on (Fld.MON_THR_STAT_ACTIVE t) then
      if u.on (Fld.MON_THR_CFG_FAULT t) then refreshCondition u (thresholdKind ch) ch else u
    else
      let v := activate u t
      let w := if v.on (Fld.MON_THR_CFG_FAULT t) then reportCondition v (thresholdKind ch) ch else v
      if w.on (Fld.MON_THR_CFG_WAKE t) && w.wakeOn 5 then wakeSource w 5 else w := (rfl)

/-- The settings of a threshold are not among what its crossing writes. -/
theorem thrCfg_kept {s u : State} (h : SameRegs [Reg.MON_THR_STAT t, Reg.CLS_CE_EVPEND 3, Reg.CLS_CE_CNT1 3] s u) (g : Fld)
    (hg : g.reg = Reg.MON_THR_CFG t) : u.on g = s.on g := by
  unfold State.on
  rw [h.fld g (by rw [hg]; simp; omega)]

/-- A crossing of a threshold that neither reports a fault nor wakes the part raises its event once while ACTIVE. -/
theorem crossing_unreported (hf : s.on (Fld.MON_THR_CFG_FAULT t) = false) (hw : s.on (Fld.MON_THR_CFG_WAKE t) = false) :
    crossing s t ch hi lo = if s.on (Fld.MON_THR_STAT_ACTIVE t) then showDirections s t hi lo
      else activate (showDirections s t hi lo) t := by
  have hshow : SameRegs [Reg.MON_THR_STAT t, Reg.CLS_CE_EVPEND 3, Reg.CLS_CE_CNT1 3] s (showDirections s t hi lo) :=
    (showDirections_sameRegs s t hi lo).mono (by simp)
  have hact := hshow.trans (activate_sameRegs (showDirections s t hi lo) t)
  have hactive : (showDirections s t hi lo).on (Fld.MON_THR_STAT_ACTIVE t) = s.on (Fld.MON_THR_STAT_ACTIVE t) := by
    unfold State.on
    rw [showDirections_fld_ne s t hi lo _ (by simp)]
  rw [crossing_eq]
  simp only [hactive, thrCfg_kept t hshow (Fld.MON_THR_CFG_FAULT t) rfl, thrCfg_kept t hact (Fld.MON_THR_CFG_FAULT t) rfl,
    thrCfg_kept t hact (Fld.MON_THR_CFG_WAKE t) rfl, hf, hw, Bool.false_and, Bool.false_eq_true, if_false]

end

/-! ### Results at thresholds while the converters agree -/

/-- Threshold t shows a result. -/
def showLast (s : State) (t code : Nat) : State := s.setFld (Fld.MON_THR_STAT_LAST t) code

section

variable (s : State) (t ch code : Nat)

theorem showLast_sameRegs : SameRegs [Reg.MON_THR_STAT t] s (showLast s t code) := (SameRegs.refl _ s).setFld (by simp) _

/-- While the converters agree, the value evaluated is the result. -/
theorem evaluate_agreeing (hd : s.fld Fld.MON_STATUS_DISAGREE = 0) : evaluate s t ch code =
    let u := showLast s t code
    let hyst := u.fld (Fld.MON_THR_CFG_HYST t)
    let hi := u.fld (Fld.MON_THR_LIM_HI t)
    let lo := u.fld (Fld.MON_THR_LIM_LO t)
    if hi < code || code < lo then crossing u t ch (hi < code) (code < lo)
    else if u.on (Fld.MON_THR_STAT_ACTIVE t) && code + hyst ≤ hi && lo + hyst ≤ code then deactivate u t ch else u := by
  have hv : s.evaluated ch code = (code, code) := by simp [State.evaluated, State.on, hd]
  simp only [evaluate, hv, if_true]
  rfl

/-- Limits, hysteresis and ACTIVE are not in LAST. -/
theorem showLast_fld (g : Fld) (hg : g.reg = Reg.MON_THR_CFG t ∨ g.reg = Reg.MON_THR_LIM t ∨ 12 ≤ g.lo) :
    (showLast s t code).fld g = s.fld g := by
  refine State.fld_setFld_ne s _ g _ ?_
  obtain hcfg | hlim | hlo := hg
  · exact .inl (by rw [hcfg]; simp)
  · exact .inl (by rw [hlim]; simp)
  · exact .inr (.inr hlo)

theorem showLast_last (hcode : code < 4096) : (showLast s t code).fld (Fld.MON_THR_STAT_LAST t) = code := by
  unfold showLast
  rw [State.fld_setFld _ _ _ (by simp)]
  exact Nat.mod_eq_of_lt hcode

/-- A result beyond a limit is a crossing. -/
theorem evaluate_beyond (hd : s.fld Fld.MON_STATUS_DISAGREE = 0)
    (h : s.fld (Fld.MON_THR_LIM_HI t) < code ∨ code < s.fld (Fld.MON_THR_LIM_LO t)) :
    evaluate s t ch code = crossing (showLast s t code) t ch (s.fld (Fld.MON_THR_LIM_HI t) < code)
      (code < s.fld (Fld.MON_THR_LIM_LO t)) := by
  rw [evaluate_agreeing s t ch code hd]
  simp only [showLast_fld s t code (Fld.MON_THR_LIM_HI t) (.inr (.inl rfl)),
    showLast_fld s t code (Fld.MON_THR_LIM_LO t) (.inr (.inl rfl))]
  rw [if_pos (by simpa using h)]

/-- A result within the limits ends an ACTIVE threshold when it keeps the hysteresis, and changes nothing else. -/
theorem evaluate_within (hd : s.fld Fld.MON_STATUS_DISAGREE = 0) (hhi : code ≤ s.fld (Fld.MON_THR_LIM_HI t))
    (hlo : s.fld (Fld.MON_THR_LIM_LO t) ≤ code) : evaluate s t ch code =
    if s.fld (Fld.MON_THR_STAT_ACTIVE t) ≠ 0 ∧ code + s.fld (Fld.MON_THR_CFG_HYST t) ≤ s.fld (Fld.MON_THR_LIM_HI t)
      ∧ s.fld (Fld.MON_THR_LIM_LO t) + s.fld (Fld.MON_THR_CFG_HYST t) ≤ code
    then deactivate (showLast s t code) t ch else showLast s t code := by
  rw [evaluate_agreeing s t ch code hd]
  simp only [State.on, showLast_fld s t code (Fld.MON_THR_LIM_HI t) (.inr (.inl rfl)),
    showLast_fld s t code (Fld.MON_THR_LIM_LO t) (.inr (.inl rfl)),
    showLast_fld s t code (Fld.MON_THR_CFG_HYST t) (.inl rfl),
    showLast_fld s t code (Fld.MON_THR_STAT_ACTIVE t) (.inr (.inr (by simp)))]
  rw [if_neg (by simp only [Bool.or_eq_true, decide_eq_true_eq]; omega)]
  simp only [Bool.and_eq_true, bne_iff_ne, decide_eq_true_eq, and_assoc]

/-- A crossing's result is shown with its directions. -/
def crossed (s : State) (t code : Nat) : State :=
  showDirections (showLast s t code) t (s.fld (Fld.MON_THR_LIM_HI t) < code) (code < s.fld (Fld.MON_THR_LIM_LO t))

/-- A crossing without report and wake: its directions are shown, and a threshold that becomes ACTIVE raises its event. -/
theorem evaluate_crossing (hd : s.fld Fld.MON_STATUS_DISAGREE = 0) (hf : s.fld (Fld.MON_THR_CFG_FAULT t) = 0)
    (hw : s.fld (Fld.MON_THR_CFG_WAKE t) = 0)
    (h : s.fld (Fld.MON_THR_LIM_HI t) < code ∨ code < s.fld (Fld.MON_THR_LIM_LO t)) :
    evaluate s t ch code = if s.fld (Fld.MON_THR_STAT_ACTIVE t) ≠ 0 then crossed s t code
      else activate (crossed s t code) t := by
  have hkeep := showLast_fld s t code
  rw [evaluate_beyond s t ch code hd h, crossing_unreported _ _ _ _ _
    ((State.on_eq_false _ _).2 ((hkeep (Fld.MON_THR_CFG_FAULT t) (.inl rfl)).trans hf))
    ((State.on_eq_false _ _).2 ((hkeep (Fld.MON_THR_CFG_WAKE t) (.inl rfl)).trans hw))]
  simp only [State.on_eq_true, hkeep (Fld.MON_THR_STAT_ACTIVE t) (.inr (.inr (by simp)))]
  rfl

theorem crossed_sameRegs : SameRegs [Reg.MON_THR_STAT t] s (crossed s t code) :=
  (showLast_sameRegs s t code).trans (showDirections_sameRegs _ t _ _)

theorem crossed_last (hcode : code < 4096) : (crossed s t code).fld (Fld.MON_THR_STAT_LAST t) = code := by
  unfold crossed
  rw [showDirections_fld_ne _ _ _ _ _ (by simp), showLast_last s t code hcode]

theorem crossed_active : (crossed s t code).fld (Fld.MON_THR_STAT_ACTIVE t) = s.fld (Fld.MON_THR_STAT_ACTIVE t) := by
  unfold crossed
  rw [showDirections_fld_ne _ _ _ _ _ (by simp), showLast_fld s t code _ (.inr (.inr (by simp)))]

theorem crossed_hiX (h : s.fld (Fld.MON_THR_LIM_HI t) < code) : (crossed s t code).fld (Fld.MON_THR_STAT_HI_X t) = 1 := by
  unfold crossed
  rw [decide_eq_true h]
  exact showDirections_hiX _ _ _

theorem crossed_loX (h : code < s.fld (Fld.MON_THR_LIM_LO t)) : (crossed s t code).fld (Fld.MON_THR_STAT_LO_X t) = 1 := by
  unfold crossed
  rw [decide_eq_true h]
  exact showDirections_loX _ _ _

section

variable (hd : s.fld Fld.MON_STATUS_DISAGREE = 0) (hf : s.fld (Fld.MON_THR_CFG_FAULT t) = 0)
  (hw : s.fld (Fld.MON_THR_CFG_WAKE t) = 0)
  (hcross : s.fld (Fld.MON_THR_LIM_HI t) < code ∨ code < s.fld (Fld.MON_THR_LIM_LO t))

include hd hf hw hcross

/-- A field of MON_THRt_STAT other than ACTIVE after a crossing. -/
theorem evaluate_crossing_fld (g : Fld) (hreg : g.reg = Reg.MON_THR_STAT t) (hg : g.lo + g.width ≤ 29 ∨ 30 ≤ g.lo) :
    (evaluate s t ch code).fld g = (crossed s t code).fld g := by
  rw [evaluate_crossing s t ch code hd hf hw hcross]
  split
  · rfl
  · rw [activate_stat _ t g hreg, State.fld_flag_ne _ _ _ _ (.inr hg)]

theorem evaluate_crossing_last (hcode : code < 4096) : (evaluate s t ch code).fld (Fld.MON_THR_STAT_LAST t) = code := by
  rw [evaluate_crossing_fld s t ch code hd hf hw hcross _ rfl (by simp), crossed_last s t code hcode]

theorem evaluate_crossing_active : (evaluate s t ch code).fld (Fld.MON_THR_STAT_ACTIVE t) = 1 := by
  rw [evaluate_crossing s t ch code hd hf hw hcross]
  split
  · rename_i hact
    have hbit := State.fld_lt s (Fld.MON_THR_STAT_ACTIVE t)
    rw [crossed_active]
    exact Nat.le_antisymm (Nat.le_of_lt_succ hbit) (Nat.pos_of_ne_zero hact)
  · rw [activate_stat _ t _ rfl]
    exact State.fld_flag _ _ _ (by simp) (by simp)

theorem evaluate_crossing_event (hact : s.fld (Fld.MON_THR_STAT_ACTIVE t) = 0) (hevt : s.fld (Fld.MON_THR_CFG_EVT t) = 1) :
    ((evaluate s t ch code).fld (Fld.CLS_CE_EVPEND_PEND 3)).testBit 9 = true := by
  rw [evaluate_crossing s t ch code hd hf hw hcross, if_neg (fun hne => hne hact)]
  refine activate_event _ t ((State.on_eq_true _ _).2 ?_)
  rw [(crossed_sameRegs s t code).fld (Fld.MON_THR_CFG_EVT t) (by simp), hevt]
  exact Nat.one_ne_zero

theorem evaluate_crossing_sameRegs :
    SameRegs [Reg.MON_THR_STAT t, Reg.CLS_CE_EVPEND 3, Reg.CLS_CE_CNT1 3] s (evaluate s t ch code) := by
  have hcrossed := (crossed_sameRegs s t code).mono
    (show _ ⊆ [Reg.MON_THR_STAT t, Reg.CLS_CE_EVPEND 3, Reg.CLS_CE_CNT1 3] by simp)
  rw [evaluate_crossing s t ch code hd hf hw hcross]
  split
  · exact hcrossed
  · exact hcrossed.trans (activate_sameRegs _ t)

end

section

variable (hd : s.fld Fld.MON_STATUS_DISAGREE = 0) (hhi : code ≤ s.fld (Fld.MON_THR_LIM_HI t))
  (hlo : s.fld (Fld.MON_THR_LIM_LO t) ≤ code)

include hd hhi hlo

theorem evaluate_within_last (hcode : code < 4096) : (evaluate s t ch code).fld (Fld.MON_THR_STAT_LAST t) = code := by
  rw [evaluate_within s t ch code hd hhi hlo]
  split
  · rw [deactivate_fld, State.fld_flag_ne _ _ _ _ (by simp), showLast_last s t code hcode]
  · exact showLast_last s t code hcode

/-- Without the hysteresis kept, ACTIVE stays as it was. -/
theorem evaluate_within_holds (h : s.fld (Fld.MON_THR_LIM_HI t) < code + s.fld (Fld.MON_THR_CFG_HYST t)
      ∨ code < s.fld (Fld.MON_THR_LIM_LO t) + s.fld (Fld.MON_THR_CFG_HYST t)) :
    (evaluate s t ch code).fld (Fld.MON_THR_STAT_ACTIVE t) = s.fld (Fld.MON_THR_STAT_ACTIVE t) := by
  rw [evaluate_within s t ch code hd hhi hlo, if_neg (by omega)]
  exact showLast_fld s t code _ (.inr (.inr (by simp)))

end

theorem evaluate_within_ends (hd : s.fld Fld.MON_STATUS_DISAGREE = 0)
    (hhi : code + s.fld (Fld.MON_THR_CFG_HYST t) ≤ s.fld (Fld.MON_THR_LIM_HI t))
    (hlo : s.fld (Fld.MON_THR_LIM_LO t) + s.fld (Fld.MON_THR_CFG_HYST t) ≤ code) :
    (evaluate s t ch code).fld (Fld.MON_THR_STAT_ACTIVE t) = 0 := by
  rw [evaluate_within s t ch code hd (Nat.le_of_add_right_le hhi) (Nat.le_of_add_right_le hlo)]
  split
  · rw [deactivate_fld]
    exact State.fld_flag _ _ _ (by simp) (by simp)
  · rename_i hkeep
    rw [showLast_fld s t code _ (.inr (.inr (by simp)))]
    exact Decidable.not_not.1 fun hact => hkeep ⟨hact, hhi, hlo⟩

section

variable (hd : s.fld Fld.MON_STATUS_DISAGREE = 0) (hf : s.fld (Fld.MON_THR_CFG_FAULT t) = 0)
  (hw : s.fld (Fld.MON_THR_CFG_WAKE t) = 0)

include hd hf hw

theorem evaluate_last (hcode : code < 4096) : (evaluate s t ch code).fld (Fld.MON_THR_STAT_LAST t) = code := by
  by_cases hcross : s.fld (Fld.MON_THR_LIM_HI t) < code ∨ code < s.fld (Fld.MON_THR_LIM_LO t)
  · exact evaluate_crossing_last s t ch code hd hf hw hcross hcode
  · obtain ⟨hhi, hlo⟩ := not_or.1 hcross
    exact evaluate_within_last s t ch code hd (Nat.not_lt.1 hhi) (Nat.not_lt.1 hlo) hcode

theorem evaluate_hiX (hhi : s.fld (Fld.MON_THR_LIM_HI t) < code) :
    (evaluate s t ch code).fld (Fld.MON_THR_STAT_HI_X t) = 1 := by
  rw [evaluate_crossing_fld s t ch code hd hf hw (.inl hhi) _ rfl (by simp), crossed_hiX s t code hhi]

theorem evaluate_loX (hlo : code < s.fld (Fld.MON_THR_LIM_LO t)) :
    (evaluate s t ch code).fld (Fld.MON_THR_STAT_LO_X t) = 1 := by
  rw [evaluate_crossing_fld s t ch code hd hf hw (.inr hlo) _ rfl (by simp), crossed_loX s t code hlo]

end

end

/-! ### The statement -/

/-- Settles O45: the clauses are the rules above, each for its command or operation. -/
theorem monitorsConvertAndCompare : Obligations.MonitorsConvertAndCompare := by
  unfold Obligations.MonitorsConvertAndCompare
  refine ⟨fun s x v => ⟨monGo_starts s x v, monGo_drops s x v, monGo_reserved s x v⟩,
    monSequenceStart_starts, monSequenceStart_blocked, fun s x det v => ?urgent, fun s x code j b hjob => ?conversion,
    fun u x => ⟨monBoundary_urgent_keeps u x, monBoundary_idle_keeps u x⟩,
    fun s => ⟨plausibilityRequest_starts s, plausibilityRequest_early s⟩,
    fun s a b => ⟨comparePlaus_differs s a b, comparePlaus_reports s a b, comparePlaus_agrees_differ s a b,
      comparePlaus_agrees_first s a b, comparePlaus_agrees_clears s a b⟩,
    fun s t ch code hcode hd hf hw => ?threshold⟩
  case urgent =>
    cases det with
    | some p => exact urgent_completes s 0 _ (exec_monUrgentRequest_detector s x p v)
    | none => exact urgent_completes s x _ (exec_monUrgentRequest_host s x v)
  case conversion =>
    refine ⟨convTicks_core s j.samp, convTicks_standby s j.samp, monConversionDone_early s x code j b hjob,
      fun hdue => ⟨conversionResult s x j code, monConversionDone_due s x code j b hjob hdue, fun hun => ?_⟩⟩
    refine ⟨fun hk => ?pulse, fun hk => ?host, fun p hk => (conversionResult_detector s x code j hun hk).1,
      conversionResult_latest s x code j hun, fun hk => ⟨conversionResult_seq_partial s x code j hk,
        conversionResult_seq_last s x code j hun hk _ _ rfl rfl⟩⟩
    case pulse =>
      obtain ⟨hres, hsame, -⟩ := conversionResult_pulse s x code j hun hk
      exact ⟨hres, hsame⟩
    case host =>
      obtain ⟨hres, hsame, -⟩ := conversionResult_host s x code j hun hk
      exact ⟨hres, hsame⟩
  case threshold =>
    exact ⟨evaluate_last s t ch code hd hf hw hcode,
      fun hhi => evaluate_hiX s t ch code hd hf hw hhi, fun hlo => evaluate_loX s t ch code hd hf hw hlo,
      evaluate_crossing_active s t ch code hd hf hw, evaluate_crossing_event s t ch code hd hf hw,
      evaluate_within_holds s t ch code hd, evaluate_within_ends s t ch code hd,
      evaluate_crossing_sameRegs s t ch code hd hf hw⟩

end Sys2Proof.Machine
end

section
/-! Numbers as sets of bits: what `putBit` and `maskOf` make of them, and the bits of a field that was set. -/

namespace Sys2Proof.Machine

theorem testBit_add_two_pow {m i : Nat} (h : m.testBit i = false) (j : Nat) :
    (m + 2 ^ i).testBit j = (decide (j = i) || m.testBit j) := by
  have hr : m % 2 ^ (i + 1) < 2 ^ i := by
    rw [Nat.testBit_eq_decide_div_mod_eq, decide_eq_false_iff_not] at h
    have h0 : m / 2 ^ i % 2 = 0 := by omega
    rw [Nat.mod_pow_succ, h0, Nat.mul_zero, Nat.add_zero]
    exact Nat.mod_lt _ (Nat.two_pow_pos i)
  have hsum : m % 2 ^ (i + 1) + 2 ^ i < 2 ^ (i + 1) := by rw [Nat.pow_succ] at hr ⊢; omega
  have hm : m.testBit j = (2 ^ (i + 1) * (m / 2 ^ (i + 1)) + m % 2 ^ (i + 1)).testBit j := by rw [Nat.div_add_mod]
  rw [hm]
  conv => lhs; rw [← Nat.div_add_mod m (2 ^ (i + 1)), Nat.add_assoc]
  rw [Nat.testBit_two_pow_mul_add _ hsum, Nat.testBit_two_pow_mul_add _ (by omega),
    ← Nat.or_two_pow_eq_add_of_lt hr, Nat.testBit_or, Nat.testBit_two_pow]
  by_cases hj : j < i + 1
  · simp [hj, Bool.or_comm, eq_comm]
  · have : ¬ j = i := by omega
    simp [hj, this]

/-- `putBit` sets or clears one bit. -/
@[simp] theorem testBit_putBit (n i : Nat) (b : Bool) (j : Nat) :
    (putBit n i b).testBit j = if j = i then b else n.testBit j := by
  unfold putBit
  cases hn : n.testBit i with
  | false =>
    cases b with
    | false => by_cases hj : j = i <;> simp [hj, hn]
    | true => simp [testBit_add_two_pow hn]
  | true =>
    cases b with
    | true => by_cases hj : j = i <;> simp [hj, hn]
    | false =>
      have hsplit : n - 2 ^ i + 2 ^ i = n := Nat.sub_add_cancel (Nat.ge_two_pow_of_testBit hn)
      have hclear : (n - 2 ^ i).testBit i = false := by
        rw [← hsplit, Nat.add_comm, Nat.testBit_two_pow_add_eq] at hn
        simpa using hn
      have hrest := testBit_add_two_pow hclear j
      rw [hsplit] at hrest
      by_cases hj : j = i <;> simp_all

@[simp] theorem testBit_maskOf (n : Nat) (p : Nat → Bool) (j : Nat) :
    (maskOf n p).testBit j = (decide (j < n) && p j) := by
  induction n generalizing j with
  | zero => simp [maskOf]
  | succ n ih =>
    have hstep : maskOf (n + 1) p = if p n then maskOf n p + 2 ^ n else maskOf n p := by
      simp [maskOf, List.range_succ]
    have hclear : (maskOf n p).testBit n = false := by simp [ih]
    rw [hstep]
    by_cases hp : p n = true
    · rw [if_pos hp, testBit_add_two_pow hclear, ih]
      by_cases hj : j = n
      · simp [hj, hp]
      · have : j < n + 1 ↔ j < n := by omega
        simp [hj, this]
    · rw [if_neg hp, ih]
      by_cases hj : j = n
      · simp [hj, hp]
      · have : j < n + 1 ↔ j < n := by omega
        simp [this]

/-- The bits of a field that was set. -/
theorem State.testBit_fld_setFld (s : State) (f : Fld) (n j : Nat) (h : f.lo + f.width ≤ 32) :
    ((s.setFld f n).fld f).testBit j = (decide (j < f.width) && n.testBit j) := by
  rw [State.fld_setFld s f n h, Nat.testBit_mod_two_pow]

end Sys2Proof.Machine
end

section
/-! Settling the DACs and strobes (R239, R448): what it may change. -/

namespace Sys2Proof.Machine

/-- The registers that settling counts and shows in: QUIET_EVT of the paths, and the strobes. -/
def settleRegs : List Nat :=
  Reg.FEN_STB_STAT :: (List.range 64).map Reg.CVA_TX_CNT0 ++ (List.range 16).map Reg.FEN_STB_CFG

theorem quietEvt_mem_settleRegs {p : Nat} (hp : p < 64) : Reg.CVA_TX_CNT0 p ∈ settleRegs :=
  List.mem_append_left _ (List.mem_cons_of_mem _ (List.mem_map_of_mem (List.mem_range.2 hp)))

theorem strobeCfg_mem_settleRegs {i : Nat} (hi : i < 16) : Reg.FEN_STB_CFG i ∈ settleRegs :=
  List.mem_append_right _ (List.mem_map_of_mem (List.mem_range.2 hi))

theorem strobeStat_mem_settleRegs : Reg.FEN_STB_STAT ∈ settleRegs := List.mem_append_left _ List.mem_cons_self

/-- Settling writes the CVA and FEN blocks only. -/
theorem not_mem_settleRegs {a : Nat} (h9 : a / 2 ^ 24 ≠ 9) (h15 : a / 2 ^ 24 ≠ 15) : a ∉ settleRegs := by
  simp only [settleRegs, List.cons_append, List.mem_cons, List.mem_append, List.mem_map, List.mem_range]
  rintro (rfl | ⟨p, hp, rfl⟩ | ⟨i, hi, rfl⟩)
  · exact h15 (by decide)
  · exact h9 (by simp only [Reg.CVA_TX_CNT0]; omega)
  · exact h15 (by simp only [Reg.FEN_STB_CFG]; omega)

/-- t may differ from s in the registers of settling, in the release waits and in the records of the strobes. -/
structure SettledFrom (s t : State) : Prop where
  sameRegs : SameRegs settleRegs s t
  rest : ∃ regs rel mon, t = { s with regs := regs, cva := { s.cva with relWait := rel }, mon := mon }

namespace SettledFrom

theorem refl (s : State) : SettledFrom s s := ⟨.refl _ s, s.regs, s.cva.relWait, s.mon, rfl⟩

theorem trans {s t u : State} (h : SettledFrom s t) (h' : SettledFrom t u) : SettledFrom s u := by
  obtain ⟨hregs, r, w, m, rfl⟩ := h
  obtain ⟨hregs', r', w', m', rfl⟩ := h'
  exact ⟨hregs.trans hregs', r', w', m', rfl⟩

variable {s t : State}

theorem setFld (h : SettledFrom s t) {f : Fld} (hf : f.reg ∈ settleRegs) (n : Nat) : SettledFrom s (t.setFld f n) :=
  h.trans ⟨(SameRegs.refl _ t).setFld hf n, _, _, _, rfl⟩

theorem bump (h : SettledFrom s t) {f : Fld} (hf : f.reg ∈ settleRegs) : SettledFrom s (t.bump f) := h.setFld hf _

theorem relWait (h : SettledFrom s t) (w : SMap (Option Nat)) :
    SettledFrom s { t with cva := { t.cva with relWait := w } } :=
  h.trans ⟨.refl _ t, t.regs, w, t.mon, rfl⟩

theorem mon (h : SettledFrom s t) (m : MonState) : SettledFrom s { t with mon := m } :=
  h.trans ⟨.refl _ t, t.regs, t.cva.relWait, m, rfl⟩

theorem ite {c : Prop} [Decidable c] {u : State} (h : SettledFrom s t) (h' : SettledFrom s u) :
    SettledFrom s (if c then t else u) := by
  split
  · exact h
  · exact h'

theorem foldl {f : State → Nat → State} {l : List Nat} (hf : ∀ t, ∀ i ∈ l, SettledFrom t (f t i)) (s : State) :
    SettledFrom s (l.foldl f s) := by
  induction l generalizing s with
  | nil => exact .refl s
  | cons i l ih => exact (hf s i List.mem_cons_self).trans (ih (fun t j hj => hf t j (List.mem_cons_of_mem i hj)) (f s i))

end SettledFrom

/-- The release wait of a path after a change from `old` (R239). -/
def releaseWait (old s : State) (p : Nat) : State :=
  if s.quietHeld p then
    if (s.cva.relWait.at p).isSome then { s with cva := { s.cva with relWait := s.cva.relWait.put p none } } else s
  else if old.quietHeld p then { s with cva := { s.cva with relWait := s.cva.relWait.put p (some s.time.now) } }
  else s

theorem settlePath_eq (old s : State) (p : Nat) : settlePath old s p =
    if (old.dacRow p == .data || old.dacRow p == .ramp) && (releaseWait old s p).dacRow p == .quiet then
      (releaseWait old s p).bump (Fld.CVA_TX_CNT0_QUIET_EVT p)
    else releaseWait old s p := (rfl)

theorem settlePath_settled (old s : State) {p : Nat} (hp : p < 64) : SettledFrom s (settlePath old s p) := by
  have hwait : SettledFrom s (releaseWait old s p) :=
    .ite (.ite ((SettledFrom.refl s).relWait _) (.refl s)) (.ite ((SettledFrom.refl s).relWait _) (.refl s))
  rw [settlePath_eq]
  exact .ite (hwait.bump (quietEvt_mem_settleRegs hp)) hwait

/-- The registers of a strobe at the level, cut and clip of R448. -/
def showStrobe (s : State) (i : Nat) (level : Bool × Bool × Bool) : State :=
  let t := (s.setFld Fld.FEN_STB_STAT_LEVEL (putBit (s.fld Fld.FEN_STB_STAT_LEVEL) i level.1))
  let t := t.setFld Fld.FEN_STB_STAT_CUT (putBit (t.fld Fld.FEN_STB_STAT_CUT) i level.2.1)
  if level.2.2 && !(s.fld Fld.FEN_STB_STAT_CUT).testBit i then t.bump (Fld.FEN_STB_CFG_DUTY_CLIP i) else t

theorem showStrobe_settled (s : State) {i : Nat} (hi : i < 16) (level : Bool × Bool × Bool) :
    SettledFrom s (showStrobe s i level) :=
  have hshown := ((SettledFrom.refl s).setFld (f := Fld.FEN_STB_STAT_LEVEL) strobeStat_mem_settleRegs
    (putBit (s.fld Fld.FEN_STB_STAT_LEVEL) i level.1)).setFld (f := Fld.FEN_STB_STAT_CUT) strobeStat_mem_settleRegs _
  .ite (hshown.bump (f := Fld.FEN_STB_CFG_DUTY_CLIP i) (strobeCfg_mem_settleRegs hi)) hshown

/-- A strobe that changes its level changes, beyond what it shows, only the record of when it was 1. -/
theorem settleStrobe_eq (s : State) (i : Nat) : settleStrobe s i = showStrobe s i (s.strobeLevel i)
    ∨ ∃ m, settleStrobe s i = { showStrobe s i (s.strobeLevel i) with mon := m } := by
  unfold settleStrobe
  dsimp only
  split
  · exact .inr ⟨_, rfl⟩
  · split
    · split
      · exact .inr ⟨_, rfl⟩
      · exact .inl rfl
    · exact .inl rfl

theorem settleStrobe_settled (s : State) {i : Nat} (hi : i < 16) : SettledFrom s (settleStrobe s i) := by
  have hshown := showStrobe_settled s hi (s.strobeLevel i)
  obtain h | ⟨m, h⟩ := settleStrobe_eq s i
  · exact h ▸ hshown
  · exact h ▸ hshown.mon m

/-- Settling keeps all but the release waits, the strobes' records and the registers that show them. -/
theorem settle_settled (old s : State) : SettledFrom s (settle old s) :=
  (SettledFrom.foldl (fun t _ hp => settlePath_settled old t (List.mem_range.1 hp)) s).trans
    (SettledFrom.foldl (fun t _ hi => settleStrobe_settled t (List.mem_range.1 hi)) _)

section

variable {s t : State} (h : SettledFrom s t)

include h

namespace SettledFrom

theorem pws : t.pws = s.pws := by obtain ⟨r, w, m, rfl⟩ := h.rest; rfl
theorem fpe : t.fpe = s.fpe := by obtain ⟨r, w, m, rfl⟩ := h.rest; rfl
theorem boot : t.boot = s.boot := by obtain ⟨r, w, m, rfl⟩ := h.rest; rfl
theorem time : t.time = s.time := by obtain ⟨r, w, m, rfl⟩ := h.rest; rfl

/-- A register outside the CVA and FEN blocks. -/
theorem rd {a : Nat} (h9 : a / 2 ^ 24 ≠ 9 := by decide) (h15 : a / 2 ^ 24 ≠ 15 := by decide) : t.rd a = s.rd a :=
  h.sameRegs a (not_mem_settleRegs h9 h15)

/-- A field outside the CVA and FEN blocks. -/
theorem fld (g : Fld) (h9 : g.reg / 2 ^ 24 ≠ 9 := by decide) (h15 : g.reg / 2 ^ 24 ≠ 15 := by decide) : t.fld g = s.fld g :=
  h.sameRegs.fld g (not_mem_settleRegs h9 h15)

end SettledFrom

end

end Sys2Proof.Machine
end

section
/-! The named changes of the steward's and the converters' own state, and the operations of the power steward: one rule for each. -/

namespace Sys2Proof.Machine

section

variable (s : State) (f : PwsState → PwsState) (g : CvaState → CvaState)

@[simp] theorem State.updPws_pws : (s.updPws f).pws = f s.pws := (rfl)
@[simp] theorem State.updPws_regs : (s.updPws f).regs = s.regs := (rfl)
@[simp] theorem State.updPws_time : (s.updPws f).time = s.time := (rfl)
@[simp] theorem State.updPws_fpe : (s.updPws f).fpe = s.fpe := (rfl)
@[simp] theorem State.updPws_cva : (s.updPws f).cva = s.cva := (rfl)
@[simp] theorem State.updPws_flt : (s.updPws f).flt = s.flt := (rfl)
@[simp] theorem State.updPws_boot : (s.updPws f).boot = s.boot := (rfl)
@[simp] theorem State.updPws_freeCtr : (s.updPws f).freeCtr = s.freeCtr := (rfl)
@[simp] theorem State.updPws_rd (a : Nat) : (s.updPws f).rd a = s.rd a := (rfl)
@[simp] theorem State.updPws_fld (x : Fld) : (s.updPws f).fld x = s.fld x := (rfl)
@[simp] theorem State.updPws_on (x : Fld) : (s.updPws f).on x = s.on x := (rfl)

@[simp] theorem State.updCva_regs : (s.updCva g).regs = s.regs := (rfl)
@[simp] theorem State.updCva_cva : (s.updCva g).cva = g s.cva := (rfl)
@[simp] theorem State.updCva_pws : (s.updCva g).pws = s.pws := (rfl)
@[simp] theorem State.updCva_fld (x : Fld) : (s.updCva g).fld x = s.fld x := (rfl)
@[simp] theorem State.updCva_on (x : Fld) : (s.updCva g).on x = s.on x := (rfl)

theorem Completes.intro {c : Instr} {s t : State} {P : State → Prop} (hexec : exec c s = .next t) (h : P t) :
    Completes c s P := ⟨t, hexec, h⟩

theorem SameRegs.updPws {l : List Nat} {s t : State} (h : SameRegs l s t) (f : PwsState → PwsState) :
    SameRegs l s (t.updPws f) := h.regs_eq (t.updPws_regs f)

end

/-! ### The power state and what PWS_STATUS shows of it (R459, R481) -/

/-- The code of STATE for a power state; STANDBY shows none. -/
def PwsPhase.shown : PwsPhase → Nat
  | .active => 0
  | .array => 1
  | .standby => 2
  | .entering _ => 3
  | .waking _ => 4

/-- BUSY: an entry or a wake is in progress. -/
def PwsPhase.busy : PwsPhase → Nat
  | .entering _ | .waking _ => 1
  | _ => 0

section

variable (s : State) (p : PwsPhase)

@[simp] theorem setPhase_pws : (setPhase s p).pws = { s.pws with phase := p } := by cases p <;> rfl
@[simp] theorem setPhase_fpe : (setPhase s p).fpe = s.fpe := by cases p <;> simp [setPhase]
@[simp] theorem setPhase_time : (setPhase s p).time = s.time := by cases p <;> simp [setPhase]
@[simp] theorem setPhase_boot : (setPhase s p).boot = s.boot := by cases p <;> simp [setPhase]
@[simp] theorem setPhase_cva : (setPhase s p).cva = s.cva := by cases p <;> simp [setPhase]

theorem setPhase_sameRegs : SameRegs [Reg.PWS_STATUS] s (setPhase s p) := by
  have h (n : Nat) (b : Bool) : SameRegs [Reg.PWS_STATUS] s
      (((s.updPws (fun x => { x with phase := p })).setFld Fld.PWS_STATUS_STATE n).flag Fld.PWS_STATUS_BUSY b) :=
    (((SameRegs.refl _ s).updPws _).setFld (by simp) n).flag (by simp) b
  cases p with
  | standby => exact (SameRegs.refl _ s).updPws _
  | _ => exact h _ _

@[simp] theorem setPhase_fld_ne (g : Fld) (h : g.reg ≠ Reg.PWS_STATUS ∨ (3 ≤ g.lo ∧ g.lo + g.width ≤ 31)) :
    (setPhase s p).fld g = s.fld g := by
  have hstate : g.reg ≠ Fld.PWS_STATUS_STATE.reg ∨ g.lo + g.width ≤ 0 ∨ 0 + 3 ≤ g.lo := h.imp id fun h => .inr (by omega)
  have hbusy : g.reg ≠ Fld.PWS_STATUS_BUSY.reg ∨ g.lo + g.width ≤ 31 ∨ 31 + 1 ≤ g.lo := h.imp id fun h => .inl h.2
  cases p with
  | standby => rfl
  | _ => exact (State.fld_flag_ne _ _ _ _ hbusy).trans (State.fld_setFld_ne _ _ _ _ hstate)

@[simp] theorem setPhase_state (h : p ≠ .standby) : (setPhase s p).fld Fld.PWS_STATUS_STATE = p.shown := by
  cases p with
  | standby => exact absurd rfl h
  | _ => simp [setPhase, PwsPhase.shown]

@[simp] theorem setPhase_busy (h : p ≠ .standby) : (setPhase s p).fld Fld.PWS_STATUS_BUSY = p.busy := by
  cases p with
  | standby => exact absurd rfl h
  | _ => simp [setPhase, PwsPhase.busy]

end

/-! ### PMIC_EN (R471) -/

section

variable (s : State) (groups : List Nat) (b : Bool)

@[simp] theorem setPmic_pws : (setPmic s groups b).pws = s.pws := State.setFld_pws _ _ _
@[simp] theorem setPmic_time : (setPmic s groups b).time = s.time := State.setFld_time _ _ _
@[simp] theorem setPmic_boot : (setPmic s groups b).boot = s.boot := State.setFld_boot _ _ _

@[simp] theorem setPmic_fld_ne (g : Fld) (h : g.reg ≠ Reg.PWS_PMIC ∨ g.lo + g.width ≤ 8 ∨ 14 ≤ g.lo) :
    (setPmic s groups b).fld g = s.fld g := State.fld_setFld_ne _ _ _ _ h

theorem SameRegs.setPmic {l : List Nat} {s t : State} (h : SameRegs l s t) (hl : Reg.PWS_PMIC ∈ l) (groups : List Nat) (b : Bool) :
    SameRegs l s (setPmic t groups b) := h.setFld hl _

theorem testBit_foldl_putBit (n j : Nat) :
    (groups.foldl (fun m g => putBit m g b) n).testBit j = if j ∈ groups then b else n.testBit j := by
  induction groups generalizing n with
  | nil => simp
  | cons g l ih =>
    rw [List.foldl_cons, ih, testBit_putBit]
    by_cases hl : j ∈ l <;> by_cases hg : j = g <;> simp [hl, hg]

/-- The groups named are switched, the others stay. -/
theorem setPmic_en {j : Nat} (hj : j < 6) : ((setPmic s groups b).fld Fld.PWS_PMIC_EN).testBit j =
    if j ∈ groups then b else (s.fld Fld.PWS_PMIC_EN).testBit j := by
  rw [setPmic, State.testBit_fld_setFld _ _ _ _ (by simp), testBit_foldl_putBit]
  simp [hj]

end

end Sys2Proof.Machine
end

section
/-! What lanes, ports, flows and the sources of the Fault Hub leave to the power steward: its registers, its own state, what BOOT
keeps and the PHC. -/

namespace Sys2Proof.Machine

/-- From s to t the registers of the PWS block, the steward's state, BOOT's state and the PHC stay. -/
structure StewardKept (s t : State) : Prop where
  block : ∀ a, a / 2 ^ 24 = 2 → t.rd a = s.rd a
  pws : t.pws = s.pws
  boot : t.boot = s.boot
  phc : t.time.phc = s.time.phc

namespace StewardKept

variable {s t u : State}

theorem refl (s : State) : StewardKept s s := ⟨fun _ _ => rfl, rfl, rfl, rfl⟩

theorem trans (h : StewardKept s t) (h' : StewardKept t u) : StewardKept s u :=
  ⟨fun a ha => (h'.block a ha).trans (h.block a ha), h'.pws.trans h.pws, h'.boot.trans h.boot, h'.phc.trans h.phc⟩

/-- A change of what another block keeps beyond its registers. -/
theorem other (h : StewardKept s t) (hregs : u.regs = t.regs) (hpws : u.pws = t.pws) (hboot : u.boot = t.boot)
    (hphc : u.time.phc = t.time.phc) : StewardKept s u :=
  h.trans ⟨fun a _ => State.rd_congr hregs a, hpws, hboot, hphc⟩

theorem wr (h : StewardKept s t) {a : Nat} (v : Word) (ha : a / 2 ^ 24 ≠ 2 := by simp <;> omega) :
    StewardKept s (t.wr a v) :=
  h.trans ⟨fun b hb => State.rd_wr_ne t (fun e : b = a => ha (e ▸ hb)) v, rfl, rfl, rfl⟩

theorem setFld (h : StewardKept s t) {f : Fld} (n : Nat) (hf : f.reg / 2 ^ 24 ≠ 2 := by simp <;> omega) :
    StewardKept s (t.setFld f n) := h.wr _ hf

theorem flag (h : StewardKept s t) {f : Fld} (b : Bool) (hf : f.reg / 2 ^ 24 ≠ 2 := by simp <;> omega) :
    StewardKept s (t.flag f b) := h.wr _ hf

theorem bump (h : StewardKept s t) {f : Fld} {n : Nat} (hf : f.reg / 2 ^ 24 ≠ 2 := by simp <;> omega) :
    StewardKept s (t.bump f n) := h.wr _ hf

theorem wr64 (h : StewardKept s t) {a : Nat} (n : Nat) (ha : a / 2 ^ 24 ≠ 2 := by simp <;> omega)
    (ha' : (a + 4) / 2 ^ 24 ≠ 2 := by simp <;> omega) : StewardKept s (t.wr64 a n) := (h.wr _ ha).wr _ ha'

theorem ceEvent (h : StewardKept s t) (e l : Nat) : StewardKept s (t.ceEvent e l) := by
  rw [State.ceEvent_eq]
  split
  · exact h.bump
  · exact h.setFld _

theorem ite {c : Prop} [Decidable c] (h : StewardKept s t) (h' : StewardKept s u) :
    StewardKept s (if c then t else u) := by
  split
  · exact h
  · exact h'

theorem foldl {α : Type} {f : State → α → State} {l : List α} (hf : ∀ t, ∀ x ∈ l, StewardKept t (f t x)) (s : State) :
    StewardKept s (l.foldl f s) := by
  induction l generalizing s with
  | nil => exact .refl s
  | cons x l ih => exact (hf s x List.mem_cons_self).trans (ih (fun t y hy => hf t y (List.mem_cons_of_mem x hy)) (f s x))

/-- A fold over the indexes below a bound. -/
theorem foldl_range {f : State → Nat → State} {n : Nat} (hf : ∀ t i, i < n → StewardKept t (f t i)) (s : State) :
    StewardKept s ((List.range n).foldl f s) := foldl (fun t i hi => hf t i (List.mem_range.1 hi)) s

theorem settled (h : StewardKept s t) (h' : SettledFrom t u) : StewardKept s u := by
  obtain ⟨hregs, r, w, m, rfl⟩ := h'
  exact h.trans ⟨fun a ha => hregs a (not_mem_settleRegs (by omega) (by omega)), rfl, rfl, rfl⟩

/-- A field of the PWS block. -/
theorem fld (h : StewardKept s t) (g : Fld) (hg : g.reg / 2 ^ 24 = 2 := by decide) : t.fld g = s.fld g := by
  unfold State.fld
  rw [h.block _ hg]

end StewardKept

/-! ### Flows and ports -/

section

variable (s : State)

theorem updFpe_steward (f : FpeState → FpeState) : StewardKept s (s.updFpe f) := (StewardKept.refl s).other rfl rfl rfl rfl

theorem raiseEvent_steward (num info : Nat) (flow : Option Nat) : StewardKept s (raiseEvent s num info flow) := by
  unfold raiseEvent
  exact .ite (.refl s) (updFpe_steward s _)

theorem ceaseEvent_steward (num info : Nat) (flow : Option Nat) : StewardKept s (ceaseEvent s num info flow) := by
  unfold ceaseEvent
  exact .ite (updFpe_steward s _) (.refl s)

theorem setPortUp_steward (n : Nat) (b : Bool) : StewardKept s (setPortUp s n b) :=
  ((StewardKept.refl s).flag (f := Fld.FPE_PORT_STAT_UP n) b).setFld _

theorem placeFlow_steward (f n : Nat) : StewardKept s (placeFlow s f n) :=
  (((StewardKept.refl s).flag (f := Fld.FPE_FLOW_STAT_SHED f) false).setFld (f := Fld.FPE_FLOW_STAT_PORT f) n).trans
    (ceaseEvent_steward _ _ _ _)

theorem unplaceFlow_steward (f : Nat) : StewardKept s (unplaceFlow s f) :=
  ((StewardKept.refl s).flag (f := Fld.FPE_FLOW_STAT_SHED f) true).setFld (f := Fld.FPE_FLOW_STAT_PORT f) 0

theorem moveFlow_steward (f : Nat) : StewardKept s (moveFlow s f) := by
  unfold moveFlow
  split
  · exact placeFlow_steward s f _
  · exact (unplaceFlow_steward s f).trans (raiseEvent_steward _ _ _ _)

theorem moveFlows_steward (n : Nat) : StewardKept s (moveFlows s n) := .foldl (fun t f _ => moveFlow_steward t f) s

theorem portDown_steward (n : Nat) (write : Bool) : StewardKept s (portDown s n write) := by
  have hup := setPortUp_steward s n false
  unfold portDown
  exact .ite (.refl s) (.ite (hup.trans ((ceaseEvent_steward _ _ _ _).trans (moveFlows_steward _ n)))
    ((hup.flag (f := Fld.FPE_PORT_STAT_DOWN_EVT n) true).trans (raiseEvent_steward _ _ _ _)))

/-! ### Lanes -/

theorem updLane_steward (l : Nat) (f : LaneDyn → LaneDyn) : StewardKept s (s.updLane l f) :=
  (StewardKept.refl s).other rfl rfl rfl rfl

/-- The summary registers of a lane that takes a state (R308). -/
def showLane (s : State) (l st : Nat) : State :=
  let t := setBit (s.setFld (Fld.SRD_LANE_STAT_STATE l) st) Fld.SRD_STATUS_LOCKED l (st == 2 || st == 3)
  let t := setBit (setBit t Fld.SRD_STATUS_DEGRADED l (st == 3)) Fld.SRD_SERVICE_RETIRED l (st == 4)
  let t := setBit t Fld.SRD_SERVICE_TEST l (st == 5)
  if st == 4 then t else t.flag (Fld.SRD_LANE_STAT_RLOCK l) false

theorem setLane_eq (l st : Nat) (write : Bool) : setLane s l st write =
    let t := showLane s l st
    if t.inService l && !s.inService l then t.updLane l (fun d => { d with upSince := some t.time.now })
    else if s.inService l && !t.inService l then
      (List.range 8).foldl (fun u n => if u.fld (Fld.FPE_PORT_CFG_LANE n) == l then portDown u n write else u)
        (t.updLane l (fun d => { d with upSince := none }))
    else t := (rfl)

theorem showLane_steward (l st : Nat) : StewardKept s (showLane s l st) :=
  have h : StewardKept s _ := (((((StewardKept.refl s).setFld (f := Fld.SRD_LANE_STAT_STATE l) st).setFld
    (f := Fld.SRD_STATUS_LOCKED) _).setFld (f := Fld.SRD_STATUS_DEGRADED) _).setFld (f := Fld.SRD_SERVICE_RETIRED) _).setFld
    (f := Fld.SRD_SERVICE_TEST) _
  .ite h (h.flag (f := Fld.SRD_LANE_STAT_RLOCK l) false)

theorem setLane_steward (l st : Nat) (write : Bool) : StewardKept s (setLane s l st write) := by
  have hshown := showLane_steward s l st
  have hdyn (f : LaneDyn → LaneDyn) := hshown.trans (updLane_steward _ l f)
  rw [setLane_eq]
  exact .ite (hdyn _) (.ite ((hdyn _).trans (.foldl_range (fun t n _ => .ite (portDown_steward t n write) (.refl t)) _)) hshown)

/-! ### Sources of the Fault Hub -/

theorem refreshElided_steward : StewardKept s (refreshElided s) := by
  unfold refreshElided
  extract_lets tx rx changed t1 t2 t3 t4
  have h : StewardKept s t4 := ((((StewardKept.refl s).wr64 (a := Reg.BFE_ELIDE_TX_LO) tx).wr64 (a := Reg.BFE_ELIDE_RX_LO) rx).setFld
    (f := Fld.BFE_STATUS_ELIDED_TX) _).setFld (f := Fld.BFE_STATUS_ELIDED_RX) _
  exact .ite h (h.bump (f := Fld.BFE_CNT2_ELISIONS))

theorem refreshHub_steward : StewardKept s (refreshHub s) := by
  unfold refreshHub
  extract_lets rs quiet shut facet shutShown qpath tx rx elided corr fn
  have helided : StewardKept s elided :=
    (((((((StewardKept.refl s).flag (f := Fld.FLT_QUIET_PART) _).setFld (f := Fld.FLT_QUIET_FACET) _).setFld
      (f := Fld.FLT_QUIET_SHUT) _).wr64 (a := Reg.FLT_QPATH_LO) _).wr64 (a := Reg.FLT_HUB_TX_LO) _).wr64
      (a := Reg.FLT_HUB_RX_LO) _).trans (refreshElided_steward _)
  have hfn : StewardKept s { elided with flt := { elided.flt with faultN := fn } } := helided.other rfl rfl rfl rfl
  exact (((hfn.flag (f := Fld.FLT_STATUS_FAULT_N) fn).flag (f := Fld.FLT_STATUS_FATAL) _).setFld
    (f := Fld.FLT_STATUS_ACTIVE) _).setFld (f := Fld.FLT_STATUS_LATCHED) _

theorem updSrc_steward (i : Nat) (f : SrcEntry → SrcEntry) : StewardKept s (s.updSrc i f) :=
  (StewardKept.refl s).other rfl rfl rfl rfl

theorem knownEntry_lt {code i : Nat} (h : s.knownEntry code = some i) : i < 64 :=
  List.mem_range.1 (List.mem_of_find?_eq_some h)

/-- A facet that a released source shut down starts again (R488, R494). -/
def restartFacet (kind : Nat) (r : Reactions) (s : State) (k : Nat) : State :=
  if r.shut.testBit k && !(s.fld Fld.FLT_QUIET_SHUT).testBit k && s.on (Fld.CVA_FACET_CFG_EN k) then
    if kind == 0x18 then s.flag (Fld.CVA_FACET_STAT_FGCAL_BUSY k) s.rcsLocked
    else s.flag (Fld.CVA_FACET_STAT_READY k) true
  else s

theorem restartFacet_steward (kind : Nat) (r : Reactions) (k : Nat) : StewardKept s (restartFacet kind r s k) :=
  .ite (.ite ((StewardKept.refl s).flag (f := Fld.CVA_FACET_STAT_FGCAL_BUSY k) _)
    ((StewardKept.refl s).flag (f := Fld.CVA_FACET_STAT_READY k) _)) (.refl s)

/-- The entry of a released source, IDLE again (R494). -/
def idleEntry (s : State) (i : Nat) : State :=
  let s := s.setFld (Fld.FLT_SRC_STAT_STATE i) 0
  let t := s.updSrc i (fun e => { e with elides := false, cond := false, idleOrder := s.flt.idleCount + 1 })
  { t with flt := { t.flt with idleCount := t.flt.idleCount + 1 } }

theorem idleEntry_steward {i : Nat} (hi : i < 64) : StewardKept s (idleEntry s i) := by
  unfold idleEntry
  extract_lets t u
  have hu : StewardKept s u := ((StewardKept.refl s).setFld (f := Fld.FLT_SRC_STAT_STATE i) 0).trans (updSrc_steward _ i _)
  exact hu.other rfl rfl rfl rfl

/-- The probation capture that the release of a supervision source asks for (R494). -/
def askProbation (s : State) (kind unit : Nat) : State :=
  if [0x10, 0x11, 0x12].contains kind then
    { s with cva := { s.cva with sup := s.cva.sup.upd (unit % 64) (fun u => { u with want := true, probation := true }) } }
  else s

theorem askProbation_steward (kind unit : Nat) : StewardKept s (askProbation s kind unit) :=
  .ite ((StewardKept.refl s).other rfl rfl rfl rfl) (.refl s)

theorem releaseSource_eq (i : Nat) : releaseSource s i =
    let code := s.srcCode i
    let t := askProbation (idleEntry s i) (codeKind code) (codeUnit code)
    (List.range 4).foldl (restartFacet (codeKind code) (reactionsOf s (codeKind code) (codeUnit code)))
      (refreshHub (ceaseEvent t 0x000 code)) := (rfl)

theorem releaseSource_steward {i : Nat} (hi : i < 64) : StewardKept s (releaseSource s i) := by
  have hprobation := (idleEntry_steward s hi).trans (askProbation_steward _ (codeKind (s.srcCode i)) (codeUnit (s.srcCode i)))
  rw [releaseSource_eq]
  exact ((hprobation.trans (ceaseEvent_steward _ _ _ _)).trans (refreshHub_steward _)).trans
    (.foldl_range (fun t k _ => restartFacet_steward t _ _ k) _)

theorem idleSource_steward (kind unit : Nat) : StewardKept s (idleSource s kind unit) := by
  unfold idleSource
  split
  · rename_i i hi
    exact .ite (.refl s) (((releaseSource_steward s (knownEntry_lt s hi)).trans (updSrc_steward _ i _)).settled (settle_settled s _))
  · exact .refl s

theorem restartLane_steward (l : Nat) : StewardKept s (restartLane s l) := by
  unfold restartLane
  extract_lets st idled started cleared off
  have hidled : StewardKept s idled := .ite (idleSource_steward s _ _) (.ite (idleSource_steward s _ _) (.refl s))
  have hcleared : StewardKept s cleared := (hidled.trans (updLane_steward _ l _)).setFld (f := Fld.SRD_LANE_LQI_LQI l) 0
  exact (hcleared.trans (setLane_steward _ l 0 true)).trans (setLane_steward _ l _ true)

theorem judge_steward (old : State) (force : List Nat) : StewardKept s (judge old s force) := by
  unfold judge
  extract_lets t u
  have ht : StewardKept s t := .foldl_range (fun t n _ => (StewardKept.refl t).flag (f := Fld.FPE_PORT_STAT_BAD_CFG n) _) s
  have hu : StewardKept t u := .foldl_range (fun t n _ => .ite (portDown_steward t n true) (.refl t)) t
  exact (ht.trans hu).trans (.foldl_range (fun t l _ => .ite (restartLane_steward t l) (.refl t)) u)

/-! ### Flows that leave service -/

theorem updSet_steward (n : Nat) (f : WsSet → WsSet) : StewardKept s (s.updSet n f) :=
  (StewardKept.refl s).other rfl rfl rfl rfl

theorem dropSection_steward (c : Section) : StewardKept s (dropSection s c) := by
  have hpins : StewardKept s (unpinSection s c) := .foldl (fun t r _ => by
    cases r with
    | set n => exact updSet_steward t n _
    | _ => exact .refl t) s
  exact hpins.trans (updFpe_steward _ _)

theorem refreshLevels_steward : StewardKept s (refreshLevels s) := by
  unfold refreshLevels
  extract_lets kib secs t1 t2 t3
  exact ((((StewardKept.refl s).setFld (f := Fld.FPE_UBUF_LVL_LEVEL) _).setFld (f := Fld.FPE_UBUF_LVL_PEAK) _).setFld
    (f := Fld.FPE_SEC_LVL_LEVEL) _).setFld (f := Fld.FPE_SEC_LVL_PEAK) _

theorem releaseFlow_steward (f : Nat) : StewardKept s (releaseFlow s f) :=
  have hdropped : StewardKept s ((s.fpe.sections.filter (fun c => c.flow == f)).foldl dropSection s) :=
    .foldl (fun t c _ => dropSection_steward t c) s
  (hdropped.trans (updFpe_steward _ _)).trans (refreshLevels_steward _)

end

end Sys2Proof.Machine
end

section
/-! Sleeping paths and slots (R460 to R463): the overload flags of dead paths, and the commands by which paths and facets sleep and
wake. -/

namespace Sys2Proof.Machine

/-! ### Overload flags of dead paths (R249) -/

/-- The registers that show overload. -/
def rxStatRegs : List Nat := (List.range 64).map Reg.CVA_RX_STAT

theorem rxStat_mem {p : Nat} (hp : p < 64) : Reg.CVA_RX_STAT p ∈ rxStatRegs := List.mem_map_of_mem (List.mem_range.2 hp)

theorem not_mem_rxStatRegs {a : Nat} (h : a < 0x09100000 ∨ 0x09200000 ≤ a ∨ a % 2 ^ 12 ≠ 0x108) : a ∉ rxStatRegs := by
  simp only [rxStatRegs, List.mem_map, List.mem_range, Reg.CVA_RX_STAT]
  rintro ⟨p, hp, rfl⟩
  omega

/-- A dead path has no overload flags and is in no overload event. -/
def clearPath (s : State) (p : Nat) : State :=
  if s.rxDead p then ((s.flag (Fld.CVA_RX_STAT_OVR p) false).flag (Fld.CVA_RX_STAT_OVR_HI p) false).updCva
    (fun x => { x with ovr := x.ovr.put p none })
  else s

theorem clearDead_eq (s : State) : clearDead s = (List.range 64).foldl clearPath s := (rfl)

/-- Of the paths below n the dead ones are cleared; what makes a path dead stays. -/
structure ClearedTo (n : Nat) (s t : State) : Prop where
  sameRegs : SameRegs rxStatRegs s t
  pws : t.pws = s.pws
  recal : t.cva.recal = s.cva.recal
  cleared : ∀ p, p < n → s.rxDead p = true → t.fld (Fld.CVA_RX_STAT_OVR p) = 0 ∧ t.fld (Fld.CVA_RX_STAT_OVR_HI p) = 0

/-- Whether a path is dead does not depend on overload flags. -/
theorem ClearedTo.rxDead {n : Nat} {s t : State} (h : ClearedTo n s t) {p : Nat} (hp : p < 64) : t.rxDead p = s.rxDead p := by
  have hfld (g : Fld) (hg : g.reg < 0x09100000 ∨ 0x09200000 ≤ g.reg ∨ g.reg % 2 ^ 12 ≠ 0x108) : t.fld g = s.fld g :=
    h.sameRegs.fld g (not_mem_rxStatRegs hg)
  have hen := hfld (Fld.CVA_RX_CFG_EN p) (.inr (.inr (by simp [Nat.add_mod])))
  have hready := hfld (Fld.CVA_FACET_STAT_READY (p / 16)) (.inl (by simp; omega))
  have hlock := hfld Fld.RCS_STATUS_STATE (.inr (.inl (by decide)))
  simp only [State.rxDead, State.on, State.rcsLocked, State.facetAsleep, hen, hready, hlock, h.pws, h.recal]

theorem clearPath_cleared {n : Nat} (hn : n < 64) {s t : State} (h : ClearedTo n s t) : ClearedTo (n + 1) s (clearPath t n) := by
  unfold clearPath
  split
  · refine ⟨((h.sameRegs.flag (f := Fld.CVA_RX_STAT_OVR n) (rxStat_mem hn) false).flag
      (f := Fld.CVA_RX_STAT_OVR_HI n) (rxStat_mem hn) false).regs_eq (State.updCva_regs _ _), by simp [h.pws],
      by simp [h.recal], fun p hp hdead => ?_⟩
    by_cases hpn : p = n
    · subst hpn
      exact ⟨by simp, by simp⟩
    · obtain ⟨hovr, hhi⟩ := h.cleared p (by omega) hdead
      have hother (g : Fld) (hg : g.reg = Reg.CVA_RX_STAT p) : (((t.flag (Fld.CVA_RX_STAT_OVR n) false).flag
          (Fld.CVA_RX_STAT_OVR_HI n) false).updCva (fun x => { x with ovr := x.ovr.put n none })).fld g = t.fld g := by
        have hne : g.reg ≠ Reg.CVA_RX_STAT n := by rw [hg]; simp only [Reg.CVA_RX_STAT]; omega
        rw [State.updCva_fld, State.fld_flag_ne _ _ _ _ (.inl hne), State.fld_flag_ne _ _ _ _ (.inl hne)]
      exact ⟨(hother _ rfl).trans hovr, (hother _ rfl).trans hhi⟩
  · rename_i halive
    refine ⟨h.sameRegs, h.pws, h.recal, fun p hp hdead => ?_⟩
    have hpn : p ≠ n := fun e => halive (by rw [h.rxDead hn, ← e]; exact hdead)
    exact h.cleared p (by omega) hdead

theorem clearDead_cleared (s : State) : ClearedTo 64 s (clearDead s) := by
  rw [clearDead_eq]
  suffices ∀ n, n ≤ 64 → ClearedTo n s ((List.range n).foldl clearPath s) from this 64 (Nat.le_refl 64)
  intro n hn
  induction n with
  | zero => exact ⟨.refl _ s, rfl, rfl, fun p hp => absurd hp (Nat.not_lt_zero p)⟩
  | succ n ih =>
    rw [List.range_succ, List.foldl_append]
    exact clearPath_cleared hn (ih (by omega))

/-! ### SYMBOL_SLEEP and SLOT_SLEEP (R460 to R463) -/

section

variable (s : State) (p : Fin 64)

theorem exec_symbolSleepWake : exec (.symbolSleepWake p) s = execSymbolSleepWake p s := (rfl)

theorem symbolSleepWake_wakes (h : s.pws.symSleep.testBit p = true) : Completes (.symbolSleepWake p) s fun t =>
    t.pws.symSleep.testBit p = false ∧ (∀ q, q ≠ p.val → t.pws.symSleep.testBit q = s.pws.symSleep.testBit q)
    ∧ ∀ a, a / 2 ^ 24 ≠ 9 → a / 2 ^ 24 ≠ 15 → t.rd a = s.rd a := by
  have hs := settle_settled s (s.updPws (fun x => { x with symSleep := putBit x.symSleep p false }))
  refine .intro ((exec_symbolSleepWake s p).trans (if_pos h)) ?_
  rw [hs.pws]
  exact ⟨by simp, fun q hq => by simp [hq], fun a h9 h15 => hs.rd h9 h15⟩

theorem symbolSleepWake_awake (h : s.pws.symSleep.testBit p = false) : exec (.symbolSleepWake p) s = .next s :=
  (exec_symbolSleepWake s p).trans (if_neg (by simp [h]))

/-- Does the next used symbol of the path leave it at least 1 µs of sleep (R461)? -/
def State.longSleep (s : State) (p : Nat) : Bool :=
  match s.rxWakeAt p with
  | some t => decide (s.phcFine + usFine 1 ≤ t)
  | none => true

theorem longSleep_iff (p : Nat) : s.longSleep p = true ↔ ∀ t, s.rxWakeAt p = some t → s.phcFine + usFine 1 ≤ t := by
  unfold State.longSleep
  cases s.rxWakeAt p <;> simp

/-- Must the path wake for its next used symbol within the present tick (R461)? -/
def State.wakeDue (s : State) (p : Nat) : Bool :=
  match s.rxWakeAt p with
  | some t => decide (t < s.phcFine + s.increment)
  | none => false

theorem wakeDue_iff (p : Nat) : s.wakeDue p = true ↔ ∃ t, s.rxWakeAt p = some t ∧ t < s.phcFine + s.increment := by
  unfold State.wakeDue
  cases s.rxWakeAt p <;> simp

theorem exec_rxSleepEnter : exec (.rxSleepEnter p) s = if s.mayRxSleep p && s.longSleep p then
    .next (clearDead (s.updPws (fun x => { x with rxSleep := putBit x.rxSleep p true }))) else .next s := (rfl)

theorem exec_rxSleepWake : exec (.rxSleepWake p) s =
    if s.pws.rxSleep.testBit p && (s.wakeDue p || !s.mayRxSleep p) then
      .next (s.updPws (fun x => { x with rxSleep := putBit x.rxSleep p false }))
    else .next s := (rfl)

theorem rxSleepEnter_sleeps (hmay : s.mayRxSleep p = true) (hlong : s.longSleep p) : Completes (.rxSleepEnter p) s fun t =>
    t.pws.rxSleep.testBit p = true ∧ (∀ q, q ≠ p.val → t.pws.rxSleep.testBit q = s.pws.rxSleep.testBit q)
    ∧ t.fld (Fld.CVA_RX_STAT_OVR p) = 0 ∧ t.fld (Fld.CVA_RX_STAT_OVR_HI p) = 0
    ∧ SameRegs ((List.range 64).map Reg.CVA_RX_STAT) s t := by
  have hc := clearDead_cleared (s.updPws (fun x => { x with rxSleep := putBit x.rxSleep p true }))
  have hdead : (s.updPws (fun x => { x with rxSleep := putBit x.rxSleep p true })).rxDead p = true := by simp [State.rxDead]
  obtain ⟨hovr, hhi⟩ := hc.cleared p p.isLt hdead
  refine .intro ((exec_rxSleepEnter s p).trans (if_pos (by rw [hmay, hlong]; rfl))) ?_
  rw [hc.pws]
  exact ⟨by simp, fun q hq => by simp [hq], hovr, hhi, hc.sameRegs⟩

theorem rxSleepEnter_stays (h : s.mayRxSleep p = false ∨ s.longSleep p = false) : exec (.rxSleepEnter p) s = .next s :=
  (exec_rxSleepEnter s p).trans (if_neg (by obtain h | h := h <;> simp [h]))

theorem rxSleepWake_wakes (hsleep : s.pws.rxSleep.testBit p = true) (h : s.wakeDue p = true ∨ s.mayRxSleep p = false) :
    Completes (.rxSleepWake p) s fun t => t.pws.rxSleep.testBit p = false
      ∧ (∀ q, q ≠ p.val → t.pws.rxSleep.testBit q = s.pws.rxSleep.testBit q) ∧ t.regs = s.regs :=
  ⟨_, (exec_rxSleepWake s p).trans (if_pos (by simpa [hsleep] using h)), by simp, fun q hq => by simp [hq], rfl⟩

theorem rxSleepWake_stays (hdue : s.wakeDue p = false) (hmay : s.mayRxSleep p = true) :
    exec (.rxSleepWake p) s = .next s :=
  (exec_rxSleepWake s p).trans (if_neg (by simp [hdue, hmay]))

end

/-- Facet k has left SLOT_SLEEP, and SLOT shows it. -/
theorem slotSleepWakeDone_wakes (s : State) (k : Fin 4) (h : s.pws.slotWaking.testBit k = true) :
    Completes (.slotSleepWakeDone k) s fun t =>
      t.pws.slotWaking.testBit k = false ∧ t.pws.slotSleep = s.pws.slotSleep
      ∧ (∀ j, j < 4 → (t.fld Fld.PWS_SLEEP_SLOT).testBit j
          = (s.pws.slotSleep.testBit j || (s.pws.slotWaking.testBit j && j != k.val)))
      ∧ ∀ a, a / 2 ^ 24 ≠ 9 → a / 2 ^ 24 ≠ 15 → a ≠ Reg.PWS_SLEEP → t.rd a = s.rd a := by
  have hs := settle_settled s (showSlot (s.updPws (fun x => { x with slotWaking := putBit x.slotWaking k false })))
  refine .intro (if_pos h) ?_
  rw [hs.pws, hs.fld Fld.PWS_SLEEP_SLOT]
  refine ⟨by simp [showSlot], by simp [showSlot], fun j hj => ?_, fun a h9 h15 ha => ?_⟩
  · rw [showSlot, State.testBit_fld_setFld _ _ _ _ (by simp), testBit_maskOf]
    by_cases hjk : j = k.val
    · simp [hjk]
    · have hne : (j != k.val) = true := bne_iff_ne.2 hjk
      simp [hj, hjk, hne]
  · rw [hs.rd h9 h15]
    exact State.rd_setFld_ne _ _ _ ha

end Sys2Proof.Machine
end

section
/-! Entries into ARRAY_SLEEP and STANDBY (R464 to R467): the checks of a request, what an entry stops, and how it is aborted. -/

namespace Sys2Proof.Machine

/-! ### The checks of R464 -/

section

variable (s : State)

theorem State.on_bit (f : Fld) (h : f.width = 1) : s.on f = true ↔ s.fld f = 1 := by
  have hlt := s.fld_lt f
  rw [h] at hlt
  rw [State.on_eq_true]
  omega

theorem ite_lt_of_lt {c : Prop} [Decidable c] {a b n : Nat} (ha : a < n) (hb : b < n) : (if c then a else b) < n := by
  split
  · exact ha
  · exact hb

theorem sleepCause_lt : s.sleepCause < 8 := by
  unfold State.sleepCause
  extract_lets target port
  exact ite_lt_of_lt (by decide) (ite_lt_of_lt (by decide) (ite_lt_of_lt (by decide) (ite_lt_of_lt (by decide)
    (ite_lt_of_lt (by decide) (by decide)))))

theorem sleepCause_busy (h : s.fld Fld.PWS_STATUS_BUSY = 1) : s.sleepCause = 1 := by
  simp [State.sleepCause, State.on, h]

section

variable (hbusy : s.fld Fld.PWS_STATUS_BUSY = 0)

include hbusy

theorem sleepCause_target (h : s.fld Fld.PWS_MODE_TARGET = 3 ∨ s.fld Fld.PWS_MODE_TARGET = s.phaseCode) : s.sleepCause = 2 := by
  simp [State.sleepCause, State.on, hbusy, h]

variable (hphase : s.fld Fld.PWS_MODE_TARGET ≠ s.phaseCode)

include hphase

theorem sleepCause_part (h3 : s.fld Fld.PWS_MODE_TARGET ≠ 3) (h : s.anyPart = true) : s.sleepCause = 3 := by
  simp [State.sleepCause, State.on, hbusy, h3, hphase, h]

variable (hpart : s.anyPart = false)

include hpart

theorem sleepCause_shallow (h3 : s.fld Fld.PWS_MODE_TARGET ≠ 3) (h : s.fld Fld.PWS_MODE_TARGET ≠ 2) : s.sleepCause = 0 := by
  simp [State.sleepCause, State.on, hbusy, h3, hphase, hpart, h]

/-- Without the lane source STANDBY needs another wake source. -/
theorem sleepCause_source (h : s.fld Fld.PWS_MODE_TARGET = 2) (hlane : s.laneSource = false) : s.sleepCause =
    if s.fld Fld.PWS_WAKE_WAKEN = 0 ∧ s.fld Fld.PWS_WAKE_TRIG = 0 ∧ s.fld Fld.PWS_WAKE_MON = 0 then 4 else 0 := by
  rw [h] at hphase
  simp [State.sleepCause, State.on, hbusy, hphase, hpart, h, hlane, and_assoc]

/-- With the lane source the listening port must be up and able to listen. -/
theorem sleepCause_listen (h : s.fld Fld.PWS_MODE_TARGET = 2) (hlane : s.laneSource = true) : s.sleepCause =
    if s.portUp (s.fld Fld.PWS_LISTEN_PORT) = false ∨ (s.fld Fld.PWS_LISTEN_MODE = 1
      ∧ s.fld (Fld.FPE_PORT_CFG_RATE (s.fld Fld.PWS_LISTEN_PORT)) = 2) ∨ s.persona = true then 5 else 0 := by
  rw [h] at hphase
  have hmode := s.on_bit Fld.PWS_LISTEN_MODE rfl
  simp [State.sleepCause, hphase, hpart, h, hlane, ← hmode, or_assoc, (State.on_eq_false s _).2 hbusy]

end

end

/-! ### What an entry stops (R466) -/

/-- From s to t PWS_STATUS and the steward's own state stay. -/
structure StatusKept (s t : State) : Prop where
  rd : t.rd Reg.PWS_STATUS = s.rd Reg.PWS_STATUS
  pws : t.pws = s.pws

namespace StatusKept

variable {s t u : State}

theorem refl (s : State) : StatusKept s s := ⟨rfl, rfl⟩

theorem trans (h : StatusKept s t) (h' : StatusKept t u) : StatusKept s u := ⟨h'.rd.trans h.rd, h'.pws.trans h.pws⟩

theorem fld (h : StatusKept s t) (g : Fld) (hg : g.reg = Reg.PWS_STATUS := by rfl) : t.fld g = s.fld g := by
  unfold State.fld
  rw [hg, h.rd]

theorem foldl {α : Type} {f : State → α → State} {l : List α} (hf : ∀ t x, StatusKept t (f t x)) (s : State) :
    StatusKept s (l.foldl f s) := by
  induction l generalizing s with
  | nil => exact .refl s
  | cons x l ih => exact (hf s x).trans (ih (f s x))

end StatusKept

theorem StewardKept.status {s t : State} (h : StewardKept s t) : StatusKept s t := ⟨h.block _ (by decide), h.pws⟩

/-- PWS_STATUS has no RW bit. -/
theorem writeRw_status (s : State) (a : Nat) (v : Word) : StatusKept s (s.writeRw a v) := by
  refine ⟨?_, rfl⟩
  by_cases ha : a = Reg.PWS_STATUS
  · have hrw : accessBits (fun t => t == .rw) Reg.PWS_STATUS = 0 := by decide
    rw [ha, State.writeRw, State.rd_wr_self, hrw]
    simp only [BitVec.and_zero, BitVec.zero_or, BitVec.not_zero, BitVec.and_allOnes]
  · exact State.rd_writeRw_ne s a v (Ne.symm ha)

theorem takeWaiting_status (s : State) (f : Nat) : StatusKept s (takeWaiting s f) := by
  have hwritten : StatusKept s ((s.flowDyn f).waiting.foldl (fun s (w : Nat × Word) => s.writeRw w.1 w.2) s) :=
    .foldl (fun t (w : Nat × Word) => writeRw_status t w.1 w.2) s
  unfold takeWaiting
  exact hwritten.trans (updFpe_steward _ _).status

theorem disableFlow_status (s : State) (f : Nat) : StatusKept s (disableFlow s f) := by
  unfold disableFlow
  extract_lets off ceased idle unplaced
  have hstopped : StewardKept s (releaseFlow (s.flag (Fld.FPE_FLOW_CFG_EN f) false) f) :=
    ((StewardKept.refl s).flag (f := Fld.FPE_FLOW_CFG_EN f) false).trans (releaseFlow_steward _ f)
  have hoff : StatusKept s off := (hstopped.status.trans (takeWaiting_status _ f)).trans
    ((StewardKept.refl _).flag (f := Fld.FPE_FLOW_CFG_EN f) false).status
  have hceased : StewardKept off ceased := .foldl (fun t n _ => .ite (.refl t) (ceaseEvent_steward t _ _ _)) off
  have hunplaced : StewardKept off unplaced := ((hceased.setFld (f := Fld.FPE_FLOW_STAT_STATE f) 0).flag
    (f := Fld.FPE_FLOW_STAT_SHED f) false).setFld (f := Fld.FPE_FLOW_STAT_PORT f) 0
  exact hoff.trans ((hunplaced.trans (updFpe_steward _ _)).trans (updFpe_steward _ _)).status

/-- Steps 1 and 2 of R466: the flows return to IDLE. -/
def idleFlows (s : State) : State :=
  (List.range 256).foldl (fun t f => if t.on (Fld.FPE_FLOW_CFG_EN f) then disableFlow t f else t) s

/-- The ports and lanes but the listening one leave service (R466). -/
def darkLanes (s t : State) : State :=
  let keep (n : Nat) : Bool := s.on Fld.PWS_LISTEN_EN && n == s.fld Fld.PWS_LISTEN_PORT
  let u := (List.range 8).foldl (fun u n => if keep n then u else u.flag (Fld.FPE_PORT_CFG_EN n) false) t
  let u := judge t (u.updFpe (fun x => { x with portOrder := x.portOrder.filter keep })) []
  (List.range 16).foldl (fun u l => if s.listenLane == some l then u else setLane u l 0 true) u

theorem goDark_eq (s : State) : goDark s = (darkLanes s (idleFlows s)).updPws (fun x =>
    { x with dest := s.fpe.evAddr, timer := s.wakeTimer, ports := s.fpe.portOrder
             kept := Nat.lor (s.fld Fld.PWS_KEEP_KEEP_SEL) 0x40 }) := (rfl)

theorem idleFlows_status (s : State) : StatusKept s (idleFlows s) :=
  .foldl (fun t f => by
    split
    · exact disableFlow_status t f
    · exact .refl t) s

theorem darkLanes_steward (s t : State) : StewardKept t (darkLanes s t) := by
  unfold darkLanes
  extract_lets keep disabled judged
  have hdisabled : StewardKept t disabled :=
    .foldl_range (fun u n _ => .ite (.refl u) ((StewardKept.refl u).flag (f := Fld.FPE_PORT_CFG_EN n) false)) t
  have hjudged : StewardKept t judged := (hdisabled.trans (updFpe_steward _ _)).trans (judge_steward _ _ _)
  exact hjudged.trans (.foldl_range (fun u l _ => .ite (.refl u) (setLane_steward u l 0 true)) _)

/-- The entry into STANDBY leaves PWS_STATUS alone, and of the steward's state saves only what the wake needs. -/
theorem goDark_status (s : State) : (goDark s).rd Reg.PWS_STATUS = s.rd Reg.PWS_STATUS ∧ (goDark s).pws =
    { s.pws with dest := s.fpe.evAddr, timer := s.wakeTimer, ports := s.fpe.portOrder
                 kept := Nat.lor (s.fld Fld.PWS_KEEP_KEEP_SEL) 0x40 } := by
  have h := (idleFlows_status s).trans (darkLanes_steward s (idleFlows s)).status
  rw [goDark_eq]
  exact ⟨h.rd, by rw [State.updPws_pws, h.pws]⟩

/-! ### The start of an entry -/

/-- The triggers that stand for a wake timer (R470), their times, and the earlier of two. -/
def State.wakeTriggers (s : State) : List Nat :=
  (List.range 64).filter (fun n => s.on (Fld.TIM_TRG_CFG_ARM n) && !s.on (Fld.TIM_TRG_CFG_MODE n)
    && s.fld (Fld.TIM_TRG_CFG_CLASS n) == 4 && s.fld (Fld.TIM_TRG_CFG_ARG n) / 16 == 3)

def State.triggerNs (s : State) (n : Nat) : Nat :=
  s.fld (Fld.TIM_TRG_TIME_HI_SEC n) * 1000000000 + s.fld (Fld.TIM_TRG_TIME_LO_NS n)

def earlier (b : Option Nat) (t : Nat) : Option Nat :=
  match b with
  | none => some t
  | some u => some (min t u)

theorem wakeTimer_eq (s : State) : s.wakeTimer = (s.wakeTriggers.map s.triggerNs).foldl earlier none := (rfl)

/-- The wake timer is a matter of the triggers' registers. -/
theorem wakeTimer_congr {s t : State} (h : ∀ a, 0x03000000 ≤ a → a < 0x04000000 → t.rd a = s.rd a) :
    t.wakeTimer = s.wakeTimer := by
  have hfld (g : Fld) (h3 : 0x03000000 ≤ g.reg) (h4 : g.reg < 0x04000000) : t.fld g = s.fld g := by
    unfold State.fld
    rw [h _ h3 h4]
  have harmed : t.wakeTriggers = s.wakeTriggers := by
    refine List.filter_congr fun n hn => ?_
    have hn64 := List.mem_range.1 hn
    simp only [State.on, hfld (Fld.TIM_TRG_CFG_ARM n) (by simp; omega) (by simp; omega),
      hfld (Fld.TIM_TRG_CFG_MODE n) (by simp; omega) (by simp; omega),
      hfld (Fld.TIM_TRG_CFG_CLASS n) (by simp; omega) (by simp; omega),
      hfld (Fld.TIM_TRG_CFG_ARG n) (by simp; omega) (by simp; omega)]
  have htimes : s.wakeTriggers.map t.triggerNs = s.wakeTriggers.map s.triggerNs := by
    refine List.map_congr_left fun n hn => ?_
    have hn64 := List.mem_range.1 (List.mem_filter.1 hn).1
    rw [State.triggerNs, State.triggerNs, hfld (Fld.TIM_TRG_TIME_HI_SEC n) (by simp; omega) (by simp; omega),
      hfld (Fld.TIM_TRG_TIME_LO_NS n) (by simp; omega) (by simp; omega)]
  rw [wakeTimer_eq, wakeTimer_eq, harmed, htimes]

/-- A part whose steward holds the quiet emits no data on any path (R465). -/
theorem quietHeld_of_quiet (s : State) (p : Nat) (h : s.pws.quiet = true) : s.quietHeld p = true := by
  simp [State.quietHeld, State.facetQuiet, h]

/-- What the start of an entry leaves: the entering state, shown in PWS_STATUS, and every path quiet. -/
structure Entering (deep : Bool) (t : State) : Prop where
  phase : t.pws.phase = .entering deep
  state : t.fld Fld.PWS_STATUS_STATE = 3
  busy : t.fld Fld.PWS_STATUS_BUSY = 1
  quiet : ∀ p, p < 64 → t.quietHeld p = true

theorem beginSleep_shallow (s : State) : beginSleep s false =
    settle s ((setPhase s (.entering false)).updPws (fun x => { x with quiet := true })) := (rfl)

theorem beginSleep_deep (s : State) : beginSleep s true =
    settle s ((goDark (setPhase s (.entering true))).updPws (fun x => { x with quiet := true })) := (rfl)

/-- The entry into ARRAY_SLEEP. -/
theorem beginSleep_array (s : State) : Entering false (beginSleep s false)
    ∧ ∀ a, a / 2 ^ 24 ≠ 9 → a / 2 ^ 24 ≠ 15 → a ≠ Reg.PWS_STATUS → (beginSleep s false).rd a = s.rd a := by
  rw [beginSleep_shallow]
  have hs := settle_settled s ((setPhase s (.entering false)).updPws (fun x => { x with quiet := true }))
  refine ⟨⟨by simp [hs.pws], ?_, ?_, fun p _ => quietHeld_of_quiet _ p (by simp [hs.pws])⟩, fun a h9 h15 ha => ?_⟩
  · rw [hs.fld Fld.PWS_STATUS_STATE, State.updPws_fld, setPhase_state _ _ (by simp)]
    rfl
  · rw [hs.fld Fld.PWS_STATUS_BUSY, State.updPws_fld, setPhase_busy _ _ (by simp)]
    rfl
  · rw [hs.rd h9 h15, State.updPws_rd]
    exact setPhase_sameRegs s _ a (by simpa using ha)

/-- The entry into STANDBY saves the destination of event 0x811, the wake timer, the ports and the KEEP banks (R466, R470, R475). -/
theorem beginSleep_standby (s : State) : Entering true (beginSleep s true) ∧
    (beginSleep s true).pws = { s.pws with
      phase := .entering true, quiet := true, dest := s.fpe.evAddr, timer := (setPhase s (.entering true)).wakeTimer
      ports := s.fpe.portOrder, kept := Nat.lor (s.fld Fld.PWS_KEEP_KEEP_SEL) 0x40 } := by
  rw [beginSleep_deep]
  have hs := settle_settled s ((goDark (setPhase s (.entering true))).updPws (fun x => { x with quiet := true }))
  obtain ⟨hstatus, hpws⟩ := goDark_status (setPhase s (.entering true))
  have hfld (g : Fld) (hg : g.reg = Reg.PWS_STATUS) :
      (settle s ((goDark (setPhase s (.entering true))).updPws (fun x => { x with quiet := true }))).fld g
        = (setPhase s (.entering true)).fld g := by
    rw [hs.fld g (by rw [hg]; decide) (by rw [hg]; decide), State.updPws_fld]
    unfold State.fld
    rw [hg, hstatus]
  refine ⟨⟨by simp [hs.pws, hpws], ?_, ?_, fun p _ => quietHeld_of_quiet _ p (by simp [hs.pws])⟩, ?_⟩
  · rw [hfld _ rfl, setPhase_state _ _ (by simp)]
    rfl
  · rw [hfld _ rfl, setPhase_busy _ _ (by simp)]
    rfl
  · rw [hs.pws, State.updPws_pws, hpws, setPhase_pws, setPhase_fpe, setPhase_fld_ne _ _ _ (by simp)]

/-! ### A request (R464, R468) -/

/-- PWS_MODE as a request writes it, with CE0's event line 8 raised. -/
def modeWritten (s : State) (v : Word) : State := (s.writeRw Reg.PWS_MODE v).ceEvent 0 8

/-- What a request that passes the checks starts: a wake, or the entry into the state of its TARGET. -/
def grantMode (u : State) : Nat → State
  | 0 => wakeSource u 6
  | 1 => beginSleep u false
  | _ => beginSleep u true

section

variable (s : State) (v : Word)

theorem exec_pwsModeReq : exec (.pwsModeReq v) s = .next (
    if (modeWritten s v).sleepCause != 0 then
      ((modeWritten s v).flag Fld.PWS_STATUS_REFUSED true).setFld Fld.PWS_STATUS_CAUSE (modeWritten s v).sleepCause
    else grantMode (modeWritten s v) ((modeWritten s v).fld Fld.PWS_MODE_TARGET)) := (rfl)

/-- The RW bits of PWS_MODE: WAKE_TO and TARGET. -/
theorem accessBits_pwsMode : accessBits (fun t => t == .rw) Reg.PWS_MODE = 0x33 := by decide

theorem modeWritten_target : (modeWritten s v).fld Fld.PWS_MODE_TARGET = v.toNat % 4 := by
  rw [modeWritten, State.fld_ceEvent_ne _ _ _ _ (by simp), State.fld_writeRw s Fld.PWS_MODE_TARGET v
    (fun i hi => by rw [accessBits_pwsMode]; revert i; decide) (by decide)]
  simp [fieldOf]

theorem modeWritten_wakeTo : (modeWritten s v).fld Fld.PWS_MODE_WAKE_TO = v.toNat / 16 % 4 := by
  rw [modeWritten, State.fld_ceEvent_ne _ _ _ _ (by simp), State.fld_writeRw s Fld.PWS_MODE_WAKE_TO v
    (fun i hi => by rw [accessBits_pwsMode]; revert i; decide) (by decide)]
  simp [fieldOf]

theorem ceEvent_onlyRegs (s : State) (e l : Nat) : OnlyRegs [Reg.CLS_CE_EVPEND e, Reg.CLS_CE_CNT1 e] s (s.ceEvent e l) := by
  rw [State.ceEvent_eq]
  split
  · exact .bump s (by simp)
  · exact .setFld s (by simp) _

theorem OnlyRegs.mono {l l' : List Nat} {s t : State} (h : OnlyRegs l s t) (hl : l ⊆ l') : OnlyRegs l' s t :=
  ⟨h.1.mono hl, h.2⟩

theorem OnlyRegs.trans {l : List Nat} {s t u : State} (h : OnlyRegs l s t) (h' : OnlyRegs l t u) : OnlyRegs l s u := by
  obtain ⟨hregs, hrest⟩ := h
  obtain ⟨hregs', hrest'⟩ := h'
  exact ⟨hregs.trans hregs', by rw [hrest', hrest]⟩

theorem writeRw_onlyRegs (s : State) (a : Nat) (v : Word) : OnlyRegs [a] s (s.writeRw a v) :=
  ⟨(SameRegs.refl _ s).writeRw (by simp) v, rfl⟩

theorem modeWritten_onlyRegs : OnlyRegs [Reg.PWS_MODE, Reg.CLS_CE_EVPEND 0, Reg.CLS_CE_CNT1 0] s (modeWritten s v) :=
  ((writeRw_onlyRegs s _ v).mono (by simp)).trans ((ceEvent_onlyRegs _ 0 8).mono (by simp))

theorem pwsModeReq_refused (h : (modeWritten s v).sleepCause ≠ 0) : Completes (.pwsModeReq v) s fun t =>
    t.fld Fld.PWS_STATUS_REFUSED = 1 ∧ t.fld Fld.PWS_STATUS_CAUSE = (modeWritten s v).sleepCause
    ∧ OnlyRegs [Reg.PWS_STATUS] (modeWritten s v) t := by
  refine .intro ((exec_pwsModeReq s v).trans (congrArg _ (if_pos (bne_iff_ne.2 h)))) ⟨by simp, ?_, ?_⟩
  · rw [State.fld_setFld _ _ _ (by simp)]
    exact Nat.mod_eq_of_lt (sleepCause_lt _)
  · exact (OnlyRegs.flag _ (by simp) true).trans (OnlyRegs.setFld _ (by simp) _)

variable (h : (modeWritten s v).sleepCause = 0)

include h

theorem exec_pwsModeReq_passed {target : Nat} (ht : v.toNat % 4 = target) : exec (.pwsModeReq v) s =
    .next (grantMode (modeWritten s v) target) := by
  rw [exec_pwsModeReq, if_neg (by simp [h]), modeWritten_target, ht]

theorem pwsModeReq_active (ht : v.toNat % 4 = 0) : exec (.pwsModeReq v) s = .next (wakeSource (modeWritten s v) 6) :=
  exec_pwsModeReq_passed s v h ht

theorem pwsModeReq_array (ht : v.toNat % 4 = 1) : Completes (.pwsModeReq v) s fun t => t.pws.phase = .entering false
    ∧ t.fld Fld.PWS_STATUS_STATE = 3 ∧ t.fld Fld.PWS_STATUS_BUSY = 1 ∧ (∀ p, p < 64 → t.quietHeld p = true)
    ∧ ∀ a, a / 2 ^ 24 ≠ 9 → a / 2 ^ 24 ≠ 15 → a ≠ Reg.PWS_STATUS → t.rd a = (modeWritten s v).rd a := by
  obtain ⟨⟨hphase, hstate, hbusy, hquiet⟩, hrd⟩ := beginSleep_array (modeWritten s v)
  exact .intro (exec_pwsModeReq_passed s v h ht) ⟨hphase, hstate, hbusy, hquiet, hrd⟩

theorem pwsModeReq_standby (ht : v.toNat % 4 = 2) : Completes (.pwsModeReq v) s fun t => t.pws.phase = .entering true
    ∧ t.fld Fld.PWS_STATUS_STATE = 3 ∧ t.fld Fld.PWS_STATUS_BUSY = 1 ∧ (∀ p, p < 64 → t.quietHeld p = true)
    ∧ t.pws.dest = s.fpe.evAddr ∧ t.pws.timer = s.wakeTimer ∧ t.pws.ports = s.fpe.portOrder
    ∧ t.pws.kept.testBit 6 = true ∧ (∀ b, b < 8 → b ≠ 6 → t.pws.kept.testBit b = (s.fld Fld.PWS_KEEP_KEEP_SEL).testBit b) := by
  obtain ⟨⟨hphase, hstate, hbusy, hquiet⟩, hpws⟩ := beginSleep_standby (modeWritten s v)
  have hregs := (modeWritten_onlyRegs s v).1
  have hfpe : (modeWritten s v).fpe = s.fpe := (State.ceEvent_fpe _ _ _).trans (State.writeRw_fpe _ _ _)
  have hkept : (modeWritten s v).fld Fld.PWS_KEEP_KEEP_SEL = s.fld Fld.PWS_KEEP_KEEP_SEL := hregs.fld _ (by simp)
  refine .intro (t := beginSleep (modeWritten s v) true) (exec_pwsModeReq_passed s v h ht) ⟨hphase, hstate, hbusy, hquiet, ?_⟩
  rw [hpws, hfpe, hkept]
  refine ⟨rfl, wakeTimer_congr fun a h3 h4 => ?_, rfl, ?_, fun b hb h6 => ?_⟩
  · rw [setPhase_sameRegs _ _ a (by simp; omega), hregs a (by simp; omega)]
  · exact (Nat.testBit_or _ _ _).trans (Bool.or_true _)
  · have hclear : Nat.testBit 0x40 b = false := (Nat.testBit_two_pow_of_ne (n := 6) (Ne.symm h6))
    exact (Nat.testBit_or _ _ _).trans (by rw [hclear, Bool.or_false])

end

/-! ### Aborts (R467) -/

/-- A lane that is OFF begins again under its configuration. -/
def beginLane (s : State) (l : Nat) : State := if s.laneState l == 0 then setLane s l (s.firstState l) true else s

theorem beginLane_steward (s : State) (l : Nat) : StewardKept s (beginLane s l) := .ite (setLane_steward s l _ true) (.refl s)

theorem showLane_fpe (s : State) (l st : Nat) : (showLane s l st).fpe = s.fpe := by
  unfold showLane
  extract_lets t1 t2 t3
  split <;> simp [t3, t2, t1, setBit]

/-- A lane that was out of service has no port to take down. -/
theorem setLane_fpe (s : State) (l st : Nat) (write : Bool) (h : s.inService l = false) : (setLane s l st write).fpe = s.fpe := by
  rw [setLane_eq]
  simp only [h, Bool.not_false, Bool.and_true, Bool.false_and, Bool.false_eq_true, if_false]
  split
  · exact showLane_fpe s l st
  · exact showLane_fpe s l st

theorem beginLane_fpe (s : State) (l : Nat) : (beginLane s l).fpe = s.fpe := by
  unfold beginLane
  split
  · rename_i hoff
    exact setLane_fpe s l _ true (by simp [State.inService, eq_of_beq hoff])
  · rfl

/-- The abort is recorded and counted, and the lanes that the entry switched off begin again. -/
def recordAbort (s : State) : State :=
  (List.range 16).foldl beginLane ((s.flag Fld.PWS_STATUS_ABORTED true).bump Fld.PWS_CNT1_ABORTS)

theorem abortSleep_eq (s : State) (src : Nat) : abortSleep s src =
    if s.pws.facetsOff then (setPhase (recordAbort s) (.waking false)).setFld Fld.PWS_STATUS_WAKE_SRC src
    else settle s ((setPhase (recordAbort s) .active).updPws (fun x => { x with quiet := false })) := (rfl)

theorem recordAbort_steward (s : State) :
    StewardKept ((s.flag Fld.PWS_STATUS_ABORTED true).bump Fld.PWS_CNT1_ABORTS) (recordAbort s) :=
  .foldl_range (fun t l _ => beginLane_steward t l) _

theorem recordAbort_fpe (s : State) : (recordAbort s).fpe = s.fpe := by
  have h (t : State) (n : Nat) : ((List.range n).foldl beginLane t).fpe = t.fpe := by
    induction n with
    | zero => rfl
    | succ n ih => rw [List.range_succ, List.foldl_append, List.foldl_cons, List.foldl_nil, beginLane_fpe, ih]
  rw [recordAbort, h, State.bump_fpe, State.flag_fpe]

section

variable (s : State)

@[simp] theorem recordAbort_pws : (recordAbort s).pws = s.pws :=
  (recordAbort_steward s).pws.trans ((State.bump_pws _ _ _).trans (State.flag_pws _ _ _))

@[simp] theorem recordAbort_aborted : (recordAbort s).fld Fld.PWS_STATUS_ABORTED = 1 := by
  rw [(recordAbort_steward s).fld Fld.PWS_STATUS_ABORTED]
  simp

@[simp] theorem recordAbort_aborts :
    (recordAbort s).fld Fld.PWS_CNT1_ABORTS = min (s.fld Fld.PWS_CNT1_ABORTS + 1) 65535 := by
  rw [(recordAbort_steward s).fld Fld.PWS_CNT1_ABORTS]
  simp

theorem execSleepAbort_aborts (src : Fin 8) {deep : Bool} (hphase : s.pws.phase = .entering deep) (hon : s.wakeOn src = true) :
    exec (.sleepAbort src) s = .next (abortSleep s src) :=
  if_pos (by simp [State.enteringSleep, hphase, hon])

/-- An entry from ACTIVE is undone. -/
theorem abortSleep_active (src : Nat) (hoff : s.pws.facetsOff = false) :
    (abortSleep s src).pws.phase = .active ∧ (abortSleep s src).pws.quiet = false
    ∧ (abortSleep s src).fld Fld.PWS_STATUS_ABORTED = 1
    ∧ (abortSleep s src).fld Fld.PWS_CNT1_ABORTS = min (s.fld Fld.PWS_CNT1_ABORTS + 1) 65535
    ∧ (abortSleep s src).fld Fld.PWS_STATUS_STATE = 0 ∧ (abortSleep s src).fld Fld.PWS_STATUS_BUSY = 0
    ∧ (abortSleep s src).fpe = s.fpe := by
  rw [abortSleep_eq, hoff, if_neg (by simp)]
  have hs := settle_settled s ((setPhase (recordAbort s) .active).updPws (fun x => { x with quiet := false }))
  rw [hs.pws, hs.fld Fld.PWS_STATUS_ABORTED, hs.fld Fld.PWS_CNT1_ABORTS, hs.fld Fld.PWS_STATUS_STATE,
    hs.fld Fld.PWS_STATUS_BUSY, hs.fpe]
  simp [recordAbort_fpe, PwsPhase.shown, PwsPhase.busy]

/-- An entry from ARRAY_SLEEP goes on as a wake from it. -/
theorem abortSleep_array (src : Fin 8) (hoff : s.pws.facetsOff = true) :
    (abortSleep s src).pws.phase = .waking false ∧ (abortSleep s src).fld Fld.PWS_STATUS_ABORTED = 1
    ∧ (abortSleep s src).fld Fld.PWS_CNT1_ABORTS = min (s.fld Fld.PWS_CNT1_ABORTS + 1) 65535
    ∧ (abortSleep s src).fld Fld.PWS_STATUS_STATE = 4 ∧ (abortSleep s src).fld Fld.PWS_STATUS_WAKE_SRC = src
    ∧ (abortSleep s src).fpe = s.fpe := by
  rw [abortSleep_eq, hoff, if_pos rfl]
  have hsrc : (src : Nat) % 8 = src := Nat.mod_eq_of_lt src.isLt
  simp [recordAbort_fpe, PwsPhase.shown, hsrc]

theorem sleepAbort_stays (src : Fin 8) (h : s.enteringSleep = false ∨ s.wakeOn src = false) : exec (.sleepAbort src) s = .next s :=
  if_neg (by obtain h | h := h <;> simp [h])

end

/-! ### The statement -/

/-- Settles O47: the clauses are the rules above and those of sleeping paths and slots, each for its command. -/
theorem sleepEntriesAndAborts : Obligations.SleepEntriesAndAborts := by
  unfold Obligations.SleepEntriesAndAborts
  refine ⟨fun s p => ⟨symbolSleepWake_wakes s p, symbolSleepWake_awake s p⟩, fun s p => ⟨fun hmay hlong => ?enter, fun h => ?awake⟩,
    fun s p hsleep => ⟨fun h => ?wake, fun hdue hmay => ?asleep⟩, slotSleepWakeDone_wakes, fun s => ⟨sleepCause_busy s, fun hbusy =>
      ⟨sleepCause_target s hbusy, fun h3 hphase => ⟨sleepCause_part s hbusy hphase h3, fun hpart =>
        ⟨sleepCause_shallow s hbusy hphase hpart h3, fun h2 hlane => ?source, fun h2 hlane => ?listen⟩⟩⟩⟩,
    fun s v => ⟨modeWritten_target s v, modeWritten_wakeTo s v, ceEvent_pending _ 0 8 (by decide), modeWritten_onlyRegs s v,
      pwsModeReq_refused s v, pwsModeReq_active s v, pwsModeReq_array s v, pwsModeReq_standby s v⟩,
    fun s src deep hphase hon => ⟨fun hoff => ?active, fun hoff => ?array⟩, sleepAbort_stays⟩
  case enter => exact rxSleepEnter_sleeps s p hmay ((longSleep_iff s p).2 hlong)
  case awake => exact rxSleepEnter_stays s p (h.imp id fun hl => Bool.eq_false_iff.2 fun hlong => hl ((longSleep_iff s p).1 hlong))
  case wake => exact rxSleepWake_wakes s p hsleep (h.imp (wakeDue_iff s p).2 id)
  case asleep => exact rxSleepWake_stays s p (Bool.eq_false_iff.2 fun hd => hdue ((wakeDue_iff s p).1 hd)) hmay
  case source =>
    rw [sleepCause_source s hbusy hphase hpart h2 hlane]
    split <;> simp_all
  case listen =>
    rw [sleepCause_listen s hbusy hphase hpart h2 hlane]
    split <;> simp_all
  case active => exact .intro (execSleepAbort_aborts s src hphase hon) (abortSleep_active s src hoff)
  case array => exact .intro (execSleepAbort_aborts s src hphase hon) (abortSleep_array s src hoff)

end Sys2Proof.Machine
end

section
/-! The budget (R477, R478): the estimates of a window, the client whose level changes, and PWR_OVER. -/

namespace Sys2Proof.Machine

/-! ### The client that is picked -/

/-- The better of a candidate and the best so far. -/
def pick (better : Nat → Nat → Bool) (b : Option Nat) (c : Nat) : Option Nat :=
  match b with
  | none => some c
  | some d => if better c d then some c else some d

theorem pickClient_eq (ok : Nat → Bool) (better : Nat → Nat → Bool) :
    pickClient ok better = ([7, 8, 9, 10].filter ok).foldl (pick better) none := (rfl)

section

variable {ok : Nat → Bool} {better : Nat → Nat → Bool}

theorem foldl_pick_mem (l : List Nat) (b : Option Nat) {c : Nat} (h : l.foldl (pick better) b = some c) : c ∈ l ∨ b = some c := by
  induction l generalizing b with
  | nil => exact .inr h
  | cons x l ih =>
    obtain hl | hb := ih _ h
    · exact .inl (List.mem_cons_of_mem x hl)
    · cases b with
      | none => exact .inl (Option.some.inj hb ▸ List.mem_cons_self)
      | some d =>
        rw [pick] at hb
        split at hb
        · exact .inl (Option.some.inj hb ▸ List.mem_cons_self)
        · exact .inr hb

/-- Only a throttleable client is picked. -/
theorem pickClient_mem {c : Nat} (h : pickClient ok better = some c) : 7 ≤ c ∧ c < 11 ∧ ok c = true := by
  have hc : c ∈ [7, 8, 9, 10].filter ok := (foldl_pick_mem _ none h).resolve_right (by simp)
  obtain ⟨hmem, hok⟩ := List.mem_filter.1 hc
  refine ⟨?_, ?_, hok⟩ <;> (simp at hmem; omega)

/-- Once the best is found it stays. -/
theorem foldl_pick_best {c : Nat} (l : List Nat) (h : ∀ d ∈ l, d ≠ c → better d c = false) :
    l.foldl (pick better) (some c) = some c := by
  induction l with
  | nil => rfl
  | cons x l ih =>
    have hx : pick better (some c) x = some c := by
      by_cases hxc : x = c
      · simp [pick, hxc]
      · simp [pick, h x List.mem_cons_self hxc]
    rw [List.foldl_cons, hx]
    exact ih fun d hd => h d (List.mem_cons_of_mem x hd)

/-- A client that beats every other one is picked. -/
theorem foldl_pick_eq {c : Nat} (l : List Nat) (b : Option Nat) (hc : c ∈ l) (hb : ∀ d, b = some d → better c d = true)
    (h : ∀ d ∈ l, d ≠ c → better c d = true ∧ better d c = false) : l.foldl (pick better) b = some c := by
  induction l generalizing b with
  | nil => simp at hc
  | cons x l ih =>
    have htail : ∀ d ∈ l, d ≠ c → better c d = true ∧ better d c = false := fun d hd => h d (List.mem_cons_of_mem x hd)
    rw [List.foldl_cons]
    by_cases hxc : x = c
    · have hpick : pick better b x = some c := by
        cases b with
        | none => rw [pick, hxc]
        | some d => rw [pick, hxc, hb d rfl, if_pos rfl]
      rw [hpick]
      exact foldl_pick_best l fun d hd hdc => (htail d hd hdc).2
    · refine ih _ ((List.mem_cons.1 hc).resolve_left (Ne.symm hxc)) (fun d hd => ?_) htail
      have hbest := (h x List.mem_cons_self hxc).1
      cases b with
      | none => exact Option.some.inj hd ▸ hbest
      | some e =>
        rw [pick] at hd
        split at hd
        · exact Option.some.inj hd ▸ hbest
        · exact hb d hd

theorem pickClient_best {c : Nat} (h7 : 7 ≤ c) (h11 : c < 11) (hok : ok c = true)
    (h : ∀ d, 7 ≤ d → d < 11 → d ≠ c → ok d = true → better c d = true ∧ better d c = false) :
    pickClient ok better = some c := by
  have hmem (d : Nat) : d ∈ [7, 8, 9, 10] ↔ 7 ≤ d ∧ d < 11 := by simp; omega
  rw [pickClient_eq]
  refine foldl_pick_eq _ none (List.mem_filter.2 ⟨(hmem c).2 ⟨h7, h11⟩, hok⟩) (by simp) fun d hd hdc => ?_
  obtain ⟨hd, hokd⟩ := List.mem_filter.1 hd
  obtain ⟨hd7, hd11⟩ := (hmem d).1 hd
  exact h d hd7 hd11 hdc hokd

end

/-! ### Levels -/

/-- The registers that a budget window writes. -/
def budgetRegs : List Nat := Reg.PWS_EST :: Reg.PWS_CNT1 :: (List.range 14).map Reg.PWS_CLIENT

theorem client_mem {c : Nat} (hc : c < 14) : Reg.PWS_CLIENT c ∈ budgetRegs :=
  List.mem_cons_of_mem _ (List.mem_cons_of_mem _ (List.mem_map_of_mem (List.mem_range.2 hc)))

/-- A budget window writes the PWS block only. -/
theorem not_mem_budgetRegs {a : Nat} (h : a / 2 ^ 24 ≠ 2) : a ∉ budgetRegs := by
  simp only [budgetRegs, List.mem_cons, List.mem_map, List.mem_range, Reg.PWS_EST, Reg.PWS_CNT1, Reg.PWS_CLIENT]
  rintro (rfl | rfl | ⟨c, hc, rfl⟩) <;> omega

section

variable (s : State) {c : Nat}

theorem setLevel_level (n : Nat) (hn : n < 4) : (setLevel s c n).fld (Fld.PWS_CLIENT_LEVEL c) = n := by
  rw [setLevel, State.fld_bump_ne _ _ _ _ (by simp; omega), State.fld_setFld _ _ _ (by simp)]
  exact Nat.mod_eq_of_lt hn

theorem setLevel_other (n : Nat) {d : Nat} (hd : d ≠ c) :
    (setLevel s c n).fld (Fld.PWS_CLIENT_LEVEL d) = s.fld (Fld.PWS_CLIENT_LEVEL d) := by
  rw [setLevel, State.fld_bump_ne _ _ _ _ (by simp; omega), State.fld_setFld_ne _ _ _ _ (by simp; omega)]

theorem setLevel_throttles (n : Nat) :
    (setLevel s c n).fld Fld.PWS_CNT1_THROTTLES = min (s.fld Fld.PWS_CNT1_THROTTLES + 1) 65535 := by
  rw [setLevel, State.fld_bump _ _ _ (by simp), State.fld_setFld_ne _ _ _ _ (by simp; omega)]
  rfl

/-- A change of level shows in LEVEL and THROTTLES only. -/
theorem setLevel_fld_ne (n : Nat) (g : Fld) (hcnt : g.reg ≠ Reg.PWS_CNT1) (h : g.reg ≠ Reg.PWS_CLIENT c ∨ 2 ≤ g.lo) :
    (setLevel s c n).fld g = s.fld g := by
  rw [setLevel, State.fld_bump_ne _ _ _ _ (.inl hcnt), State.fld_setFld_ne _ _ _ _ (h.imp id fun h => .inr h)]

theorem setLevel_sameRegs (n : Nat) (hc : c < 14) : SameRegs budgetRegs s (setLevel s c n) :=
  ((SameRegs.refl _ s).setFld (f := Fld.PWS_CLIENT_LEVEL c) (client_mem hc) n).bump (f := Fld.PWS_CNT1_THROTTLES)
    (by simp [budgetRegs])

@[simp] theorem setLevel_pws (n : Nat) : (setLevel s c n).pws = s.pws := by simp [setLevel]
@[simp] theorem setLevel_flt (n : Nat) : (setLevel s c n).flt = s.flt := by simp [setLevel]

end

section

variable (s : State) (total : Nat)

/-- Throttling changes at most the level of one throttleable client. -/
theorem throttle_cases : throttle s total = s ∨ ∃ c n, c < 14 ∧ throttle s total = setLevel s c n := by
  unfold throttle
  extract_lets budget
  split
  · split
    · rename_i c hc
      obtain ⟨-, h11, -⟩ := pickClient_mem hc
      exact .inr ⟨c, _, by omega, rfl⟩
    · exact .inl rfl
  · split
    · split
      · rename_i c hc
        obtain ⟨-, h11, -⟩ := pickClient_mem hc
        exact .inr ⟨c, _, by omega, rfl⟩
      · exact .inl rfl
    · exact .inl rfl

theorem throttle_pws : (throttle s total).pws = s.pws := by
  obtain h | ⟨c, n, -, h⟩ := throttle_cases s total <;> simp [h]

theorem throttle_flt : (throttle s total).flt = s.flt := by
  obtain h | ⟨c, n, -, h⟩ := throttle_cases s total <;> simp [h]

theorem throttle_sameRegs : SameRegs budgetRegs s (throttle s total) := by
  obtain h | ⟨c, n, hc, h⟩ := throttle_cases s total
  · rw [h]
    exact .refl _ s
  · rw [h]
    exact setLevel_sameRegs s n hc

/-- A field that shows neither a level nor THROTTLES. -/
theorem throttle_fld (g : Fld) (hcnt : g.reg ≠ Reg.PWS_CNT1) (hlevel : g.reg = Reg.PWS_EST ∨ 2 ≤ g.lo) :
    (throttle s total).fld g = s.fld g := by
  obtain h | ⟨c, n, hc, h⟩ := throttle_cases s total
  · rw [h]
  · rw [h]
    exact setLevel_fld_ne s n g hcnt (hlevel.imp (fun e => by rw [e]; simp; omega) id)

variable {s total}

theorem throttle_between (hwithin : total ≤ s.fld Fld.PWS_BUDGET_BUDGET_MW)
    (habove : 9 * s.fld Fld.PWS_BUDGET_BUDGET_MW < 10 * total) : throttle s total = s := by
  rw [throttle, if_neg (by omega), if_neg (by omega)]

variable {c : Nat} (h7 : 7 ≤ c) (h11 : c < 11)

include h7 h11

/-- Over budget, the client with the lowest PRIO below level 3 is throttled, the higher number of equals. -/
theorem throttle_over (hover : s.fld Fld.PWS_BUDGET_BUDGET_MW < total) (hlevel : s.fld (Fld.PWS_CLIENT_LEVEL c) < 3)
    (hbest : ∀ d, 7 ≤ d → d < 11 → d ≠ c → s.fld (Fld.PWS_CLIENT_LEVEL d) < 3 →
      s.fld (Fld.PWS_CLIENT_PRIO c) < s.fld (Fld.PWS_CLIENT_PRIO d)
        ∨ (s.fld (Fld.PWS_CLIENT_PRIO c) = s.fld (Fld.PWS_CLIENT_PRIO d) ∧ d < c)) :
    throttle s total = setLevel s c (s.fld (Fld.PWS_CLIENT_LEVEL c) + 1) := by
  have hpick : s.toThrottle = some c := by
    refine pickClient_best h7 h11 (by simpa using hlevel) fun d hd7 hd11 hdc hd => ?_
    have hb := hbest d hd7 hd11 hdc (by simpa using hd)
    simp only [Bool.or_eq_true, Bool.and_eq_true, decide_eq_true_eq, beq_iff_eq, Bool.or_eq_false_iff, Bool.and_eq_false_iff,
      decide_eq_false_iff_not, beq_eq_false_iff_ne]
    omega
  rw [throttle, if_pos hover, hpick]

/-- At 90 % of the budget or less, the throttled client with the highest PRIO is relieved, the lower number of equals. -/
theorem throttle_under (hunder : 10 * total ≤ 9 * s.fld Fld.PWS_BUDGET_BUDGET_MW) (hlevel : 0 < s.fld (Fld.PWS_CLIENT_LEVEL c))
    (hbest : ∀ d, 7 ≤ d → d < 11 → d ≠ c → 0 < s.fld (Fld.PWS_CLIENT_LEVEL d) →
      s.fld (Fld.PWS_CLIENT_PRIO d) < s.fld (Fld.PWS_CLIENT_PRIO c)
        ∨ (s.fld (Fld.PWS_CLIENT_PRIO c) = s.fld (Fld.PWS_CLIENT_PRIO d) ∧ c < d)) :
    throttle s total = setLevel s c (s.fld (Fld.PWS_CLIENT_LEVEL c) - 1) := by
  have hon (d : Nat) : s.on (Fld.PWS_CLIENT_LEVEL d) = true ↔ 0 < s.fld (Fld.PWS_CLIENT_LEVEL d) := by
    rw [State.on_eq_true]; omega
  have hpick : s.toRelieve = some c := by
    refine pickClient_best h7 h11 ((hon c).2 hlevel) fun d hd7 hd11 hdc hd => ?_
    have hb := hbest d hd7 hd11 hdc ((hon d).1 hd)
    simp only [Bool.or_eq_true, Bool.and_eq_true, decide_eq_true_eq, beq_iff_eq, Bool.or_eq_false_iff, Bool.and_eq_false_iff,
      decide_eq_false_iff_not, beq_eq_false_iff_ne]
    omega
  rw [throttle, if_neg (by omega), if_pos hunder, hpick]

end

/-! ### The window (R477) -/

section

variable (s : State) (est : List (Fin 65536))

/-- The estimate of a client, in mW; none given is 0. -/
def clientMw (est : List (Fin 65536)) (c : Nat) : Nat := (est.map (·.val)).getD c 0

/-- The sum of the clients. -/
def totalMw (est : List (Fin 65536)) : Nat := ((List.range 14).map (fun c => clientMw est c)).foldl (· + ·) 0

theorem totalMw_eq : totalMw est = ((List.range 14).map (clientMw est)).sum := List.sum_eq_foldl_nat.symm

theorem clientMw_lt (c : Nat) : clientMw est c < 65536 := by
  unfold clientMw
  rw [List.getD_eq_getElem?_getD, List.getElem?_map]
  cases est[c]? with
  | none => simp
  | some x => exact x.isLt

/-- EST_MW of the first n clients. -/
def showEstimates (n : Nat) : State := (List.range n).foldl (fun t c => t.setFld (Fld.PWS_CLIENT_EST_MW c) (clientMw est c)) s

theorem showEstimates_succ (n : Nat) : showEstimates s est (n + 1) =
    (showEstimates s est n).setFld (Fld.PWS_CLIENT_EST_MW n) (clientMw est n) := by
  rw [showEstimates, List.range_succ, List.foldl_append]
  rfl

/-- What showing the estimates of the first n clients leaves. -/
structure EstimatesShown (n : Nat) (s t : State) : Prop where
  est : ∀ c, c < n → t.fld (Fld.PWS_CLIENT_EST_MW c) = clientMw est c
  other : ∀ g : Fld, g.lo + g.width ≤ 16 → t.fld g = s.fld g
  sameRegs : SameRegs budgetRegs s t
  parts : t.pws = s.pws ∧ t.flt = s.flt ∧ t.time = s.time ∧ t.freeCtr = s.freeCtr

theorem showEstimates_shown {n : Nat} (hn : n ≤ 14) : EstimatesShown est n s (showEstimates s est n) := by
  induction n with
  | zero => exact ⟨fun c hc => absurd hc (Nat.not_lt_zero c), fun _ _ => rfl, .refl _ s, rfl, rfl, rfl, rfl⟩
  | succ n ih =>
    have h := ih (by omega)
    rw [showEstimates_succ]
    refine ⟨fun c hc => ?_, fun g hg => ?_, h.sameRegs.setFld (f := Fld.PWS_CLIENT_EST_MW n) (client_mem hn) _, by simpa using h.parts⟩
    · by_cases hcn : c = n
      · rw [hcn, State.fld_setFld _ _ _ (by simp)]
        exact Nat.mod_eq_of_lt (clientMw_lt est n)
      · rw [State.fld_setFld_ne _ _ _ _ (by simp; omega), h.est c (by omega)]
    · rw [State.fld_setFld_ne _ _ _ _ (.inr (.inl hg)), h.other g hg]

/-- The state of a window before any level changes: its estimates shown and its beginning recorded. -/
def windowShown : State :=
  (showTotal (showEstimates s est 14) (totalMw est)).updPws (fun x => { x with winFrom := s.time.now })

theorem exec_budgetWindow : exec (.budgetWindow est) s =
    if s.time.now < s.pws.winFrom + s.budgetWindow then .next s
    else .next (watchBudget (throttle (windowShown s est) (totalMw est))
      ([7, 8, 9, 10].all (fun c => (showTotal (showEstimates s est 14) (totalMw est)).fld (Fld.PWS_CLIENT_LEVEL c) == 3))
      (totalMw est)) := by
  change execBudgetWindow est s = _
  simp only [execBudgetWindow, windowShown, totalMw, showEstimates, clientMw]

theorem showTotal_fld (total : Nat) (g : Fld) (hg : g.reg ≠ Reg.PWS_EST) : (showTotal s total).fld g = s.fld g := by
  have h (n m : Nat) : ((s.setFld Fld.PWS_EST_TOTAL_MW n).setFld Fld.PWS_EST_PEAK_MW m).fld g = s.fld g := by
    rw [State.fld_setFld_ne _ _ _ _ (.inl hg), State.fld_setFld_ne _ _ _ _ (.inl hg)]
  unfold showTotal
  extract_lets shown t
  have ht : t.fld g = s.fld g := h _ _
  split
  · exact ht
  · exact (t.tookFree_fld g).trans ht

theorem showTotal_parts (total : Nat) : (showTotal s total).pws = s.pws ∧ (showTotal s total).flt = s.flt := by
  unfold showTotal
  extract_lets shown t
  split <;> simp [t]

theorem showTotal_sameRegs (total : Nat) : SameRegs budgetRegs s (showTotal s total) := by
  have hest : Reg.PWS_EST ∈ budgetRegs := List.mem_cons_self
  unfold showTotal
  extract_lets shown t
  have ht : SameRegs budgetRegs s t := ((SameRegs.refl _ s).setFld (f := Fld.PWS_EST_TOTAL_MW) hest shown).setFld
    (f := Fld.PWS_EST_PEAK_MW) hest _
  split
  · exact ht
  · exact ht.regs_eq t.tookFree_regs

theorem showTotal_total {total : Nat} (h : total < 65536) : (showTotal s total).fld Fld.PWS_EST_TOTAL_MW = total
    ∧ (showTotal s total).fld Fld.PWS_EST_PEAK_MW = max (s.fld Fld.PWS_EST_PEAK_MW) total := by
  have hpeak : max (s.fld Fld.PWS_EST_PEAK_MW) total < 65536 :=
    Nat.max_lt.2 ⟨s.fld_lt Fld.PWS_EST_PEAK_MW, h⟩
  simp [showTotal, h, Nat.mod_eq_of_lt hpeak]

theorem windowShown_pws : (windowShown s est).pws = { s.pws with winFrom := s.time.now } := by
  rw [windowShown, State.updPws_pws, (showTotal_parts _ _).1, (showEstimates_shown s est (Nat.le_refl 14)).parts.1]

theorem windowShown_flt : (windowShown s est).flt = s.flt := by
  rw [windowShown, State.updPws_flt, (showTotal_parts _ _).2, (showEstimates_shown s est (Nat.le_refl 14)).parts.2.1]

theorem windowShown_sameRegs : SameRegs budgetRegs s (windowShown s est) :=
  ((showEstimates_shown s est (Nat.le_refl 14)).sameRegs.trans (showTotal_sameRegs _ _)).updPws _

/-- Levels, priorities and the budget read as before. -/
theorem windowShown_fld (g : Fld) (hreg : g.reg ≠ Reg.PWS_EST) (hg : g.lo + g.width ≤ 16) :
    (windowShown s est).fld g = s.fld g := by
  rw [windowShown, State.updPws_fld, showTotal_fld _ _ _ hreg, (showEstimates_shown s est (Nat.le_refl 14)).other g hg]

theorem windowShown_budget : (windowShown s est).fld Fld.PWS_BUDGET_BUDGET_MW = s.fld Fld.PWS_BUDGET_BUDGET_MW :=
  (windowShown_sameRegs s est).fld _ (by simp [budgetRegs]; omega)

theorem windowShown_est {c : Nat} (hc : c < 14) : (windowShown s est).fld (Fld.PWS_CLIENT_EST_MW c) = clientMw est c := by
  rw [windowShown, State.updPws_fld, showTotal_fld _ _ _ (by simp; omega), (showEstimates_shown s est (Nat.le_refl 14)).est c hc]

theorem windowShown_total (h : totalMw est < 65536) : (windowShown s est).fld Fld.PWS_EST_TOTAL_MW = totalMw est
    ∧ (windowShown s est).fld Fld.PWS_EST_PEAK_MW = max (s.fld Fld.PWS_EST_PEAK_MW) (totalMw est) := by
  have hpeak := (showEstimates_shown s est (Nat.le_refl 14)).other Fld.PWS_EST_PEAK_MW (by decide)
  rw [windowShown, State.updPws_fld, State.updPws_fld, ← hpeak]
  exact showTotal_total _ h

end

/-! ### PWR_OVER (R478) -/

section

variable (s : State)

/-- Are all throttleable clients at level 3? -/
def allThree : Bool := [7, 8, 9, 10].all (fun c => s.fld (Fld.PWS_CLIENT_LEVEL c) == 3)

theorem allThree_iff : allThree s = true ↔ ∀ c, 7 ≤ c → c < 11 → s.fld (Fld.PWS_CLIENT_LEVEL c) = 3 := by
  simp only [allThree, List.all_eq_true, beq_iff_eq]
  have hmem (c : Nat) : c ∈ [7, 8, 9, 10] ↔ 7 ≤ c ∧ c < 11 := by simp; omega
  exact ⟨fun h c h7 h11 => h c ((hmem c).2 ⟨h7, h11⟩), fun h c hc => h c ((hmem c).1 hc).1 ((hmem c).1 hc).2⟩

theorem endCondition_pws (kind unit : Nat) : (endCondition s kind unit).pws = s.pws := by
  unfold endCondition
  split
  · rfl
  · rfl

/-- A finding that refreshes a source records nothing. -/
theorem refreshCondition_keeps (kind unit : Nat) : (refreshCondition s kind unit).regs = s.regs
    ∧ (refreshCondition s kind unit).pws = s.pws ∧ (refreshCondition s kind unit).flt.log = s.flt.log := by
  unfold refreshCondition
  split
  · split
    · exact ⟨rfl, rfl, rfl⟩
    · exact ⟨rfl, rfl, rfl⟩
  · exact ⟨rfl, rfl, rfl⟩

variable {s} {total : Nat}

theorem watchBudget_within (b : Bool) (h : total ≤ s.fld Fld.PWS_BUDGET_BUDGET_MW) :
    (watchBudget s b total).pws = { s.pws with overRun := 0, overSaid := false } := by
  rw [watchBudget, if_pos h, endCondition_pws]
  rfl

section

variable (hover : s.fld Fld.PWS_BUDGET_BUDGET_MW < total)

include hover

theorem watchBudget_room : watchBudget s false total = s.updPws (fun x => { x with overRun := 0 }) := by
  rw [watchBudget, if_neg (by omega), if_pos (by rfl)]

/-- The state after one more window over budget. -/
theorem watchBudget_over : watchBudget s true total =
    if min 100 (s.pws.overRun + 1) < 100 then s.updPws (fun x => { x with overRun := min 100 (x.overRun + 1) })
    else if s.pws.overSaid then refreshCondition (s.updPws (fun x => { x with overRun := min 100 (x.overRun + 1) })) 0x57 0
    else reportCondition (s.updPws (fun x => { x with overRun := min 100 (x.overRun + 1), overSaid := true })) 0x57 0 := by
  rw [watchBudget, if_neg (by omega), if_neg (by simp)]
  rfl

theorem watchBudget_counts (hrun : s.pws.overRun + 1 < 100) :
    (watchBudget s true total).pws = { s.pws with overRun := s.pws.overRun + 1 } := by
  have hmin : min 100 (s.pws.overRun + 1) = s.pws.overRun + 1 := by omega
  rw [watchBudget_over hover, hmin, if_pos hrun, State.updPws_pws, hmin]

theorem watchBudget_reports (hrun : 99 ≤ s.pws.overRun) (hsaid : s.pws.overSaid = false) : watchBudget s true total =
    reportCondition (s.updPws (fun x => { x with overRun := min 100 (x.overRun + 1), overSaid := true })) 0x57 0 := by
  rw [watchBudget_over hover, if_neg (by omega), hsaid, if_neg (by simp)]

/-- PWR_OVER is reported once until a window is within budget. -/
theorem watchBudget_said (hsaid : s.pws.overSaid = true) : (watchBudget s true total).pws.overSaid = true
    ∧ (watchBudget s true total).flt.log = s.flt.log ∧ (watchBudget s true total).regs = s.regs := by
  rw [watchBudget_over hover, if_pos hsaid]
  split
  · exact ⟨hsaid, rfl, rfl⟩
  · obtain ⟨hregs, hpws, hlog⟩ :=
      refreshCondition_keeps (s.updPws (fun x => { x with overRun := min 100 (x.overRun + 1) })) 0x57 0
    exact ⟨by rw [hpws]; exact hsaid, hlog, hregs⟩

end

end

/-! ### BUDGET_WINDOW -/

section

variable (s : State) (est : List (Fin 65536))

/-- The state of a window after its change of a level. -/
def windowThrottled : State := throttle (windowShown s est) (totalMw est)

/-- A window ends WINDOW ms after the last one. -/
def windowDue : Prop := s.pws.winFrom + s.budgetWindow ≤ s.time.now

theorem budgetWindow_early (h : ¬windowDue s) : exec (.budgetWindow est) s = .next s := by
  rw [exec_budgetWindow, if_pos (Nat.lt_of_not_le h)]

theorem budgetWindow_due (h : windowDue s) : exec (.budgetWindow est) s =
    .next (watchBudget (windowThrottled s est) (allThree s) (totalMw est)) := by
  have hthree : ([7, 8, 9, 10].all (fun c => (showTotal (showEstimates s est 14) (totalMw est)).fld (Fld.PWS_CLIENT_LEVEL c) == 3))
      = allThree s := by
    unfold allThree
    refine congrArg _ (funext fun c => ?_)
    rw [showTotal_fld _ _ _ (by simp; omega), (showEstimates_shown s est (Nat.le_refl 14)).other _ (by simp)]
  rw [exec_budgetWindow, if_neg (Nat.not_lt.2 h), hthree, windowThrottled]

theorem windowThrottled_pws : (windowThrottled s est).pws = { s.pws with winFrom := s.time.now } :=
  (throttle_pws _ _).trans (windowShown_pws s est)

theorem windowThrottled_flt : (windowThrottled s est).flt = s.flt := (throttle_flt _ _).trans (windowShown_flt s est)

theorem windowThrottled_sameRegs : SameRegs budgetRegs s (windowThrottled s est) :=
  (windowShown_sameRegs s est).trans (throttle_sameRegs _ _)

theorem windowThrottled_budget : (windowThrottled s est).fld Fld.PWS_BUDGET_BUDGET_MW = s.fld Fld.PWS_BUDGET_BUDGET_MW :=
  (windowThrottled_sameRegs s est).fld _ (by simp [budgetRegs]; omega)

theorem windowThrottled_est {c : Nat} (hc : c < 14) : (windowThrottled s est).fld (Fld.PWS_CLIENT_EST_MW c) = clientMw est c :=
  (throttle_fld _ _ _ (by simp; omega) (.inr (by simp))).trans (windowShown_est s est hc)

theorem windowThrottled_total (h : totalMw est < 65536) : (windowThrottled s est).fld Fld.PWS_EST_TOTAL_MW = totalMw est
    ∧ (windowThrottled s est).fld Fld.PWS_EST_PEAK_MW = max (s.fld Fld.PWS_EST_PEAK_MW) (totalMw est) := by
  obtain ⟨htotal, hpeak⟩ := windowShown_total s est h
  exact ⟨(throttle_fld _ _ _ (by simp) (.inl rfl)).trans htotal, (throttle_fld _ _ _ (by simp) (.inl rfl)).trans hpeak⟩

/-! ### Levels after a window -/

/-- LEVEL and PRIO of a client, before any level changes. -/
theorem windowShown_level (c : Nat) : (windowShown s est).fld (Fld.PWS_CLIENT_LEVEL c) = s.fld (Fld.PWS_CLIENT_LEVEL c) :=
  windowShown_fld s est _ (by simp; omega) (by simp)

theorem windowShown_prio (c : Nat) : (windowShown s est).fld (Fld.PWS_CLIENT_PRIO c) = s.fld (Fld.PWS_CLIENT_PRIO c) :=
  windowShown_fld s est _ (by simp; omega) (by simp)

/-- What a window leaves that changed the level of client c to n. -/
structure LevelChanged (s : State) (c n : Nat) (u : State) : Prop where
  level : u.fld (Fld.PWS_CLIENT_LEVEL c) = n
  other : ∀ d, d ≠ c → u.fld (Fld.PWS_CLIENT_LEVEL d) = s.fld (Fld.PWS_CLIENT_LEVEL d)
  throttles : u.fld Fld.PWS_CNT1_THROTTLES = min (s.fld Fld.PWS_CNT1_THROTTLES + 1) 65535

theorem setLevel_windowShown {c n : Nat} (hn : n < 4) : LevelChanged s c n (setLevel (windowShown s est) c n) := by
  refine ⟨setLevel_level _ n hn, fun d hd => (setLevel_other _ n hd).trans (windowShown_level s est d), ?_⟩
  rw [setLevel_throttles, windowShown_fld s est _ (by simp) (by simp)]

section

variable {s est} {c : Nat} (h7 : 7 ≤ c) (h11 : c < 11)

include h7 h11

theorem windowThrottled_over (hover : s.fld Fld.PWS_BUDGET_BUDGET_MW < totalMw est) (hlevel : s.fld (Fld.PWS_CLIENT_LEVEL c) < 3)
    (hbest : ∀ d, 7 ≤ d → d < 11 → d ≠ c → s.fld (Fld.PWS_CLIENT_LEVEL d) < 3 →
      s.fld (Fld.PWS_CLIENT_PRIO c) < s.fld (Fld.PWS_CLIENT_PRIO d)
        ∨ (s.fld (Fld.PWS_CLIENT_PRIO c) = s.fld (Fld.PWS_CLIENT_PRIO d) ∧ d < c)) :
    LevelChanged s c (s.fld (Fld.PWS_CLIENT_LEVEL c) + 1) (windowThrottled s est) := by
  rw [windowThrottled, throttle_over h7 h11 (by rwa [windowShown_budget]) (by rwa [windowShown_level])
    (by simpa only [windowShown_level, windowShown_prio] using hbest), windowShown_level]
  exact setLevel_windowShown s est (by omega)

theorem windowThrottled_under (hunder : 10 * totalMw est ≤ 9 * s.fld Fld.PWS_BUDGET_BUDGET_MW)
    (hlevel : 0 < s.fld (Fld.PWS_CLIENT_LEVEL c))
    (hbest : ∀ d, 7 ≤ d → d < 11 → d ≠ c → 0 < s.fld (Fld.PWS_CLIENT_LEVEL d) →
      s.fld (Fld.PWS_CLIENT_PRIO d) < s.fld (Fld.PWS_CLIENT_PRIO c)
        ∨ (s.fld (Fld.PWS_CLIENT_PRIO c) = s.fld (Fld.PWS_CLIENT_PRIO d) ∧ c < d)) :
    LevelChanged s c (s.fld (Fld.PWS_CLIENT_LEVEL c) - 1) (windowThrottled s est) := by
  have hlt : s.fld (Fld.PWS_CLIENT_LEVEL c) < 4 := s.fld_lt _
  rw [windowThrottled, throttle_under h7 h11 (by rwa [windowShown_budget]) (by rwa [windowShown_level])
    (by simpa only [windowShown_level, windowShown_prio] using hbest), windowShown_level]
  exact setLevel_windowShown s est (by omega)

end

theorem windowThrottled_between (hwithin : totalMw est ≤ s.fld Fld.PWS_BUDGET_BUDGET_MW)
    (habove : 9 * s.fld Fld.PWS_BUDGET_BUDGET_MW < 10 * totalMw est) (c : Nat) :
    (windowThrottled s est).fld (Fld.PWS_CLIENT_LEVEL c) = s.fld (Fld.PWS_CLIENT_LEVEL c) := by
  rw [windowThrottled, throttle_between (by rwa [windowShown_budget]) (by rwa [windowShown_budget]), windowShown_level]

/-! ### PWR_OVER after a window -/

section

variable {s} (hdue : windowDue s)

include hdue

theorem budgetWindow_within (h : totalMw est ≤ s.fld Fld.PWS_BUDGET_BUDGET_MW) : Completes (.budgetWindow est) s fun t =>
    t.pws.overRun = 0 ∧ t.pws.overSaid = false := by
  refine .intro (budgetWindow_due s est hdue) ?_
  rw [watchBudget_within _ (by rwa [windowThrottled_budget])]
  exact ⟨rfl, rfl⟩

variable (hover : s.fld Fld.PWS_BUDGET_BUDGET_MW < totalMw est)

include hover

theorem budgetWindow_room (h : ¬allThree s = true) : Completes (.budgetWindow est) s fun t =>
    t.pws.overRun = 0 ∧ t.pws.overSaid = s.pws.overSaid := by
  refine .intro (budgetWindow_due s est hdue) ?_
  rw [Bool.eq_false_iff.2 h, watchBudget_room (by rwa [windowThrottled_budget]), State.updPws_pws, windowThrottled_pws]
  exact ⟨rfl, rfl⟩

variable (hthree : allThree s = true)

include hthree

theorem budgetWindow_counts (hrun : s.pws.overRun + 1 < 100) : Completes (.budgetWindow est) s fun t =>
    t.pws.overRun = s.pws.overRun + 1 ∧ t.pws.winFrom = s.time.now := by
  refine .intro (budgetWindow_due s est hdue) ?_
  rw [hthree, watchBudget_counts (by rwa [windowThrottled_budget]) (by rwa [windowThrottled_pws]), windowThrottled_pws]
  exact ⟨rfl, rfl⟩

theorem budgetWindow_reports (hrun : 99 ≤ s.pws.overRun) (hsaid : s.pws.overSaid = false) :
    ∃ u, exec (.budgetWindow est) s = .next (reportCondition u 0x57 0) ∧ u.pws.overSaid = true := by
  rw [budgetWindow_due s est hdue, hthree, watchBudget_reports (by rwa [windowThrottled_budget])
    (by rwa [windowThrottled_pws]) (by rwa [windowThrottled_pws])]
  exact ⟨_, rfl, rfl⟩

theorem budgetWindow_said (hsaid : s.pws.overSaid = true) : Completes (.budgetWindow est) s fun t =>
    t.pws.overSaid = true ∧ t.flt.log = s.flt.log ∧ ∀ i, i < 64 → t.srcState i = s.srcState i := by
  obtain ⟨hstays, hlog, hregs⟩ := watchBudget_said (s := windowThrottled s est) (total := totalMw est)
    (by rwa [windowThrottled_budget]) (by rwa [windowThrottled_pws])
  refine .intro (budgetWindow_due s est hdue) ?_
  rw [hthree, hstays, hlog, windowThrottled_flt]
  refine ⟨rfl, rfl, fun i hi => ?_⟩
  exact (State.fld_congr hregs _).trans ((windowThrottled_sameRegs s est).fld _ (not_mem_budgetRegs (by simp; omega)))

end

end

end Sys2Proof.Machine
end

section
/-! The ballast of a current ramp (R479, R480). -/

namespace Sys2Proof.Machine

/-- A ramp that fires takes the place of any other. -/
theorem fireRamp_starts (s : State) (r : Nat) : let t := fireRamp s r
    ∃ p : Ramp, t.pws.ramp = some p ∧ p.delta = min 120 (s.fld (Fld.PWS_RAMP_DELTA r)) ∧ p.start = s.fld Fld.PWS_RAMP_STAT_BALLAST
      ∧ p.steps = 10 * max 1 (s.fld (Fld.PWS_RAMP_RAMP_US r)) ∧ p.made = 0 ∧ p.since = s.time.now
      ∧ t.fld Fld.PWS_RAMP_STAT_BALLAST = (if s.fld (Fld.PWS_RAMP_DIR r) = 1 then p.delta else p.start)
      ∧ OnlyRegs [Reg.PWS_RAMP_STAT] s { t with pws := s.pws } := by
  have hdir := s.on_bit (Fld.PWS_RAMP_DIR r) rfl
  unfold fireRamp
  extract_lets delta steps down u t
  have hdelta : delta < 256 := by omega
  by_cases hd : down = true
  · have ht : t = u.setFld Fld.PWS_RAMP_STAT_BALLAST delta := if_pos hd
    rw [ht]
    refine ⟨_, rfl, rfl, rfl, rfl, rfl, rfl, ?_, ?_⟩
    · rw [if_pos (hdir.1 hd), State.fld_setFld _ _ _ (by simp)]
      exact Nat.mod_eq_of_lt hdelta
    · exact OnlyRegs.setFld s (by simp) delta
  · have ht : t = u := if_neg hd
    rw [ht]
    refine ⟨_, rfl, rfl, rfl, rfl, rfl, rfl, ?_, .refl _ s, rfl⟩
    rw [if_neg (fun e => hd (hdir.2 e))]
    rfl

/-! ### RAMP_BALLAST_STEP -/

/-- The line of a ramp after n steps, times its number of steps. -/
def Ramp.line (r : Ramp) (n : Nat) : Int :=
  if r.down then r.delta * (r.steps - n) else r.start * r.steps + (r.delta - r.start) * n

section

variable {r : Ramp} {n : Nat} (hn : n ≤ r.steps)

include hn

theorem Ramp.numer_eq : (r.numer n : Int) = r.line n := by
  unfold Ramp.numer Ramp.line
  split
  · push_cast [hn]
    rfl
  · split
    · rename_i hup
      push_cast [hup]
      rfl
    · rename_i hdown
      have hle : (r.start - r.delta) * n ≤ r.start * r.steps := Nat.mul_le_mul (Nat.sub_le _ _) hn
      push_cast [hle, Nat.le_of_not_le hdown]
      rw [Int.sub_mul, Int.sub_mul]
      omega

theorem Ramp.numer_le (hdelta : r.delta ≤ 255) (hstart : r.start ≤ 255) : r.numer n ≤ 255 * r.steps := by
  unfold Ramp.numer
  split
  · exact Nat.mul_le_mul hdelta (Nat.sub_le _ _)
  · split
    · rename_i hup
      calc r.start * r.steps + (r.delta - r.start) * n ≤ r.start * r.steps + (r.delta - r.start) * r.steps :=
            Nat.add_le_add_left (Nat.mul_le_mul_left _ hn) _
        _ = r.delta * r.steps := by rw [← Nat.add_mul, Nat.add_sub_cancel' hup]
        _ ≤ 255 * r.steps := Nat.mul_le_mul_right _ hdelta
    · exact Nat.le_trans (Nat.sub_le _ _) (Nat.mul_le_mul_right _ hstart)

end

/-- A whole number next to a quotient, or the quotient itself where the division leaves no rest. -/
theorem next_to_quotient {steps numer b : Nat} (hpos : 0 < steps) (hb : b ≤ 1) (hexact : numer % steps = 0 → b = 0) :
    numer < steps * (numer / steps + b) + steps ∧ steps * (numer / steps + b) < numer + steps := by
  have hdiv := Nat.div_add_mod numer steps
  have hmod := Nat.mod_lt numer hpos
  rw [Nat.mul_add]
  obtain rfl | rfl : b = 0 ∨ b = 1 := by omega
  · omega
  · have hrest : 0 < numer % steps := Nat.pos_of_ne_zero fun h => absurd (hexact h) (by decide)
    omega

section

variable (s : State) {r : Ramp} (hr : s.pws.ramp = some r)

include hr

theorem rampBallastStep_waits (h : s.time.now < r.since + 80 * (r.made + 1)) : exec .rampBallastStep s = .next s := by
  change execRampBallastStep s = _
  rw [execRampBallastStep, hr]
  exact if_pos h

variable (hdue : r.since + 80 * (r.made + 1) ≤ s.time.now)

include hdue

theorem rampBallastStep_ends (hlast : r.steps ≤ r.made + 1) : Completes .rampBallastStep s fun t =>
    t.pws.ramp = none ∧ t.fld Fld.PWS_RAMP_STAT_BALLAST = 0 := by
  have hexec : exec .rampBallastStep s = .next ((s.updPws (fun x => { x with ramp := none })).setFld Fld.PWS_RAMP_STAT_BALLAST 0) := by
    change execRampBallastStep s = _
    rw [execRampBallastStep, hr]
    exact (if_neg (Nat.not_lt.2 hdue)).trans (if_pos hlast)
  exact .intro hexec ⟨by simp, by simp⟩

/-- The ballast of a step within a ramp: the quotient of its line, or where the line lies between two steps either of them. -/
theorem exec_rampBallastStep (hmore : r.made + 1 < r.steps) : ∃ b t, b ≤ 1 ∧ (r.numer (r.made + 1) % r.steps = 0 → b = 0)
    ∧ exec .rampBallastStep s = .next t ∧ t.pws.ramp = some { r with made := r.made + 1 }
    ∧ t.fld Fld.PWS_RAMP_STAT_BALLAST = (r.numer (r.made + 1) / r.steps + b) % 256 ∧ SameRegs [Reg.PWS_RAMP_STAT] s t := by
  have hexec : exec .rampBallastStep s = execRampBallastStep s := rfl
  have hwritten (q : Nat) : SameRegs [Reg.PWS_RAMP_STAT] s ((s.updPws (fun x =>
      { x with ramp := some { r with made := r.made + 1 } })).setFld Fld.PWS_RAMP_STAT_BALLAST q) :=
    ((SameRegs.refl _ s).updPws _).setFld (by simp) q
  rw [hexec, execRampBallastStep, hr]
  dsimp only
  rw [if_neg (Nat.not_lt.2 hdue), if_neg (Nat.not_le.2 hmore)]
  split
  · exact ⟨0, _, by decide, fun _ => rfl, rfl, by simp, by simp, hwritten _⟩
  · rename_i hrest
    refine ⟨(s.free 1).toNat, _, Nat.le_of_lt_succ (s.free 1).isLt, fun h => absurd h hrest, rfl, by simp, by simp, ?_⟩
    exact (hwritten _).regs_eq (State.tookFree_regs _)

/-- A step within a ramp takes the ballast to its line, to either side of it where the line lies between two steps. -/
theorem rampBallastStep_moves (hdelta : r.delta ≤ 120) (hstart : r.start < 256) (hmore : r.made + 1 < r.steps) :
    Completes .rampBallastStep s fun t => t.pws.ramp = some { r with made := r.made + 1 }
      ∧ r.line (r.made + 1) - r.steps < r.steps * t.fld Fld.PWS_RAMP_STAT_BALLAST
      ∧ r.steps * t.fld Fld.PWS_RAMP_STAT_BALLAST < r.line (r.made + 1) + r.steps
      ∧ SameRegs [Reg.PWS_RAMP_STAT] s t := by
  obtain ⟨b, t, hb, hexact, hexec, hramp, hballast, hsame⟩ := exec_rampBallastStep s hr hdue hmore
  obtain ⟨hlow, hhigh⟩ := next_to_quotient (Nat.zero_lt_of_lt hmore) hb hexact
  have hle := Ramp.numer_le (Nat.le_of_lt hmore) (by omega : r.delta ≤ 255) (by omega : r.start ≤ 255)
  have hlt : r.numer (r.made + 1) / r.steps + b < 256 := by
    refine Nat.lt_of_mul_lt_mul_left (a := r.steps) (Nat.lt_of_lt_of_le hhigh ?_)
    omega
  rw [Nat.mod_eq_of_lt hlt] at hballast
  refine .intro hexec ⟨hramp, ?_, ?_, hsame⟩
  · rw [hballast, ← Ramp.numer_eq (Nat.le_of_lt hmore)]
    exact_mod_cast (by omega : (r.numer (r.made + 1) : Int) - r.steps < (r.steps * (r.numer (r.made + 1) / r.steps + b) : Nat))
  · rw [hballast, ← Ramp.numer_eq (Nat.le_of_lt hmore)]
    exact_mod_cast hhigh

end

end Sys2Proof.Machine
end

section
/-! Wake sources (R467 to R470, R472), the wake from ARRAY_SLEEP (R468), failed attempts (R473) and supplies (R471). -/

namespace Sys2Proof.Machine

/-! ### A wake source becomes pending -/

section

variable (s : State) (src : Nat)

theorem wakeSource_active (h : s.pws.phase = .active) : wakeSource s src = s := by
  rw [wakeSource, h]

theorem wakeSource_entering {deep : Bool} (h : s.pws.phase = .entering deep) : wakeSource s src = abortSleep s src := by
  rw [wakeSource, h]

theorem wakeSource_array (h : s.pws.phase = .array) : wakeSource s src =
    (setPmic ((setPhase s (.waking false)).setFld Fld.PWS_STATUS_WAKE_SRC src) [5] true).updPws
      (fun x => { x with wokeAt := s.time.now }) := by
  rw [wakeSource, h]

theorem wakeSource_standby (h : s.pws.phase = .standby) : wakeSource s src =
    (setPmic ((((setPhase s (.waking true)).setFld Fld.PWS_STATUS_WAKE_SRC src).ceEvent 0 9).setFld Fld.PWS_STATUS_ATTEMPTS 1)
      [2, 3, 4] true).updPws (fun x => { x with wokeAt := s.time.now }) := by
  rw [wakeSource, h]

theorem wakeSource_waking {deep : Bool} (h : s.pws.phase = .waking deep) : wakeSource s src =
    if s.pws.wokeAt = s.time.now && src < s.fld Fld.PWS_STATUS_WAKE_SRC then s.setFld Fld.PWS_STATUS_WAKE_SRC src else s := by
  rw [wakeSource, h]

theorem setPhase_waking_sameRegs (deep : Bool) {l : List Nat} (hl : Reg.PWS_STATUS ∈ l) :
    SameRegs l s ((setPhase s (.waking deep)).setFld Fld.PWS_STATUS_WAKE_SRC src) :=
  ((setPhase_sameRegs s _).mono (by simpa using hl)).setFld hl src

variable (hsrc : src < 8)

include hsrc

theorem array_wakes (h : s.pws.phase = .array) : let t := wakeSource s src
    t.pws.phase = .waking false ∧ t.fld Fld.PWS_STATUS_STATE = 4 ∧ t.fld Fld.PWS_STATUS_WAKE_SRC = src
    ∧ (t.fld Fld.PWS_PMIC_EN).testBit 5 = true ∧ SameRegs [Reg.PWS_STATUS, Reg.PWS_PMIC] s t := by
  intro t
  rw [show t = _ from wakeSource_array s src h]
  refine ⟨by simp, by simp [PwsPhase.shown], by simp [Nat.mod_eq_of_lt hsrc], ?_, ?_⟩
  · rw [State.updPws_fld, setPmic_en _ _ _ (by decide)]
    rfl
  · exact ((setPhase_waking_sameRegs s src false (by simp)).setPmic (by simp) _ _).updPws _

theorem standby_wakes (h : s.pws.phase = .standby) : let t := wakeSource s src
    t.pws.phase = .waking true ∧ t.fld Fld.PWS_STATUS_STATE = 4 ∧ t.fld Fld.PWS_STATUS_WAKE_SRC = src
    ∧ t.fld Fld.PWS_STATUS_ATTEMPTS = 1 ∧ (t.fld (Fld.CLS_CE_EVPEND_PEND 0)).testBit 9 = true
    ∧ (∀ g, (g = 2 ∨ g = 3 ∨ g = 4) → (t.fld Fld.PWS_PMIC_EN).testBit g = true)
    ∧ SameRegs [Reg.PWS_STATUS, Reg.PWS_PMIC, Reg.CLS_CE_EVPEND 0, Reg.CLS_CE_CNT1 0] s t := by
  intro t
  rw [show t = _ from wakeSource_standby s src h]
  refine ⟨by simp, by simp [PwsPhase.shown], by simp [Nat.mod_eq_of_lt hsrc], by simp, ?_, fun g hg => ?_, ?_⟩
  · rw [State.updPws_fld, setPmic_fld_ne _ _ _ _ (by simp), State.fld_setFld_ne _ _ _ _ (by simp)]
    exact ceEvent_pending _ 0 9 (by decide)
  · rw [State.updPws_fld, setPmic_en _ _ _ (by omega), if_pos (by simpa using hg)]
  · exact ((((setPhase_waking_sameRegs s src true (by simp)).ceEvent 9 (by simp) (by simp)).setFld (by simp) 1).setPmic
      (by simp) _ _).updPws _

theorem waking_records {deep : Bool} (h : s.pws.phase = .waking deep) : (wakeSource s src).fld Fld.PWS_STATUS_WAKE_SRC =
    if s.pws.wokeAt = s.time.now then min src (s.fld Fld.PWS_STATUS_WAKE_SRC) else s.fld Fld.PWS_STATUS_WAKE_SRC := by
  rw [wakeSource_waking s src h]
  by_cases hnow : s.pws.wokeAt = s.time.now
  · by_cases hlow : src < s.fld Fld.PWS_STATUS_WAKE_SRC
    · rw [if_pos (by simp [hnow, hlow]), if_pos hnow, State.fld_setFld _ _ _ (by simp), Nat.min_eq_left (Nat.le_of_lt hlow)]
      exact Nat.mod_eq_of_lt hsrc
    · rw [if_neg (by simp [hlow]), if_pos hnow, Nat.min_eq_right (Nat.not_lt.1 hlow)]
  · rw [if_neg (by simp [hnow]), if_neg hnow]

end

/-! ### Which sources act (R469, R470) -/

section

variable (s : State)

theorem exec_wakeLaneEnergy : exec .wakeLaneEnergy s =
    if s.laneSource && !s.on Fld.PWS_LISTEN_MODE && (s.pws.phase == .standby || s.pws.phase == .entering true) then
      .next (wakeSource s 1)
    else .next s := (rfl)

theorem wakeLaneEnergy_wakes (hphase : s.pws.phase = .standby ∨ s.pws.phase = .entering true) (hlane : s.laneSource = true)
    (hmode : s.fld Fld.PWS_LISTEN_MODE = 0) : exec .wakeLaneEnergy s = .next (wakeSource s 1) := by
  rw [exec_wakeLaneEnergy, if_pos (by simpa [hlane, (State.on_eq_false s _).2 hmode] using hphase)]

theorem wakeLaneEnergy_stays (h : ¬(s.pws.phase = .standby ∨ s.pws.phase = .entering true) ∨ s.laneSource = false
    ∨ s.fld Fld.PWS_LISTEN_MODE = 1) : exec .wakeLaneEnergy s = .next s := by
  have hmode := s.on_bit Fld.PWS_LISTEN_MODE rfl
  rw [exec_wakeLaneEnergy, if_neg]
  simp only [Bool.and_eq_true, Bool.not_eq_true', Bool.or_eq_true, beq_iff_eq]
  rintro ⟨⟨hlane, hoff⟩, hphase⟩
  obtain h | h | h := h
  · exact h hphase
  · simp [hlane] at h
  · simp [hmode.2 h] at hoff

theorem exec_wakeNAssert : exec .wakeNAssert s = .next (if s.fld Fld.PWS_WAKE_WAKEN = 1 then wakeSource s 3 else s) := by
  have hon : s.wakeOn 3 = true ↔ s.fld Fld.PWS_WAKE_WAKEN = 1 := s.on_bit Fld.PWS_WAKE_WAKEN rfl
  have hexec : exec .wakeNAssert s = if s.wakeOn 3 then .next (wakeSource s 3) else .next s := rfl
  rw [hexec]
  simp only [hon]
  split
  · rfl
  · rfl

theorem exec_wakeTimer : exec .wakeTimer s =
    if s.pws.phase == .standby && s.pws.timer.isSome && s.on Fld.PWS_WAKE_TRIG then .next (wakeSource s 4) else .next s := (rfl)

theorem wakeTimer_wakes (hphase : s.pws.phase = .standby) (htimer : s.pws.timer ≠ none) (htrig : s.fld Fld.PWS_WAKE_TRIG = 1) :
    exec .wakeTimer s = .next (wakeSource s 4) := by
  rw [exec_wakeTimer, if_pos (by simp [hphase, Option.isSome_iff_ne_none, htimer, State.on, htrig])]

theorem wakeTimer_stays (h : s.pws.phase ≠ .standby ∨ s.pws.timer = none ∨ s.fld Fld.PWS_WAKE_TRIG = 0) :
    exec .wakeTimer s = .next s := by
  rw [exec_wakeTimer, if_neg]
  obtain h | h | h := h
  · simp [h]
  · simp [h]
  · simp [State.on, h]

/-! ### Wake frames (R470) -/

variable (port : Fin 8) (elems : List (Nat × Nat))

theorem exec_wakeFrame : exec (.wakeFrame port true 7 1 2 elems true true) s =
    if s.wakeMsg 7 1 2 elems && s.wakePort port then .next (wakeSource s 2) else .next s := (rfl)

/-- A notification of 0x810 to this element or to all is a wake notification. -/
theorem wakeMsg_of_mem {el : Nat} (hel : el = 0xFFFF ∨ el = s.fld Fld.FPE_RMA_CFG_ELEM) (hmem : (el, 0x810) ∈ elems) :
    s.wakeMsg 7 1 2 elems = true := by
  have hany : elems.any (fun e => e.2 == 0x810 && (e.1 == 0xFFFF || e.1 == s.fld Fld.FPE_RMA_CFG_ELEM)) = true :=
    List.any_eq_true.2 ⟨_, hmem, by simpa using hel⟩
  simpa [State.wakeMsg] using hany

theorem wakePort_standby (h : s.pws.phase = .standby) : s.wakePort port =
    (s.laneSource && s.on Fld.PWS_LISTEN_MODE && port.val == s.fld Fld.PWS_LISTEN_PORT) := by
  rw [State.wakePort, h]

theorem wakePort_array (h : s.pws.phase = .array) : s.wakePort port = (s.on Fld.PWS_WAKE_LANE && s.portUp port) := by
  rw [State.wakePort, h]

theorem wakePort_active (h : s.pws.phase = .active) : s.wakePort port = false := by
  rw [State.wakePort, h]

end

end Sys2Proof.Machine
end

section
/-! Supplies and failed attempts (R471 to R473): PG, the stages of PMIC_EN of a wake from STANDBY, and an attempt that fails. -/

namespace Sys2Proof.Machine

section

variable (s : State) (f : BootState → BootState)

@[simp] theorem State.updBoot_regs : (s.updBoot f).regs = s.regs := (rfl)
@[simp] theorem State.updBoot_pws : (s.updBoot f).pws = s.pws := (rfl)
@[simp] theorem State.updBoot_boot : (s.updBoot f).boot = f s.boot := (rfl)
@[simp] theorem State.updBoot_time : (s.updBoot f).time = s.time := (rfl)
@[simp] theorem State.updBoot_fld (g : Fld) : (s.updBoot f).fld g = s.fld g := (rfl)
@[simp] theorem State.updBoot_on (g : Fld) : (s.updBoot f).on g = s.on g := (rfl)

theorem SameRegs.updBoot {l : List Nat} {s t : State} (h : SameRegs l s t) (f : BootState → BootState) :
    SameRegs l s (t.updBoot f) := h.regs_eq (t.updBoot_regs f)

end

/-! ### An attempt that fails (R473) -/

/-- The supplies of a failed attempt switch off, all but group 3 of a part that listens, and the PLLs stop. -/
def dropSupplies (s : State) : State :=
  let t := (setPmic s [0, 1, 2, 4, 5] false).updBoot (fun b => { b with pll := false })
  if s.laneSource then t else setPmic t [3] false

section

variable (s : State)

@[simp] theorem dropSupplies_pws : (dropSupplies s).pws = s.pws := by
  unfold dropSupplies
  split <;> simp

@[simp] theorem dropSupplies_boot : (dropSupplies s).boot = { s.boot with pll := false } := by
  unfold dropSupplies
  split <;> simp

theorem dropSupplies_sameRegs : SameRegs [Reg.PWS_PMIC] s (dropSupplies s) := by
  have h := ((SameRegs.refl [Reg.PWS_PMIC] s).setPmic (by simp) [0, 1, 2, 4, 5] false).updBoot (fun b => { b with pll := false })
  unfold dropSupplies
  dsimp only
  split
  · exact h
  · exact h.setPmic (by simp) _ _

theorem dropSupplies_off {g : Nat} (h : g = 0 ∨ g = 1 ∨ g = 5) : ((dropSupplies s).fld Fld.PWS_PMIC_EN).testBit g = false := by
  have hmem : g ∈ [0, 1, 2, 4, 5] := by simp; omega
  have hoff : (((setPmic s [0, 1, 2, 4, 5] false).updBoot (fun b => { b with pll := false })).fld Fld.PWS_PMIC_EN).testBit g
      = false := by
    rw [State.updBoot_fld, setPmic_en _ _ _ (by omega), if_pos hmem]
  unfold dropSupplies
  dsimp only
  split
  · exact hoff
  · rw [setPmic_en _ _ _ (by omega), if_neg (by simp; omega), hoff]

/-- The next attempt: its number, and stage 1 of the supplies. -/
def nextAttempt : State := setPmic ((dropSupplies s).setFld Fld.PWS_STATUS_ATTEMPTS (s.fld Fld.PWS_STATUS_ATTEMPTS + 1)) [2, 3, 4] true

/-- After the last attempt the part stays in STANDBY. -/
def lastAttempt : State := ((setPhase (dropSupplies s) .standby).flag Fld.PWS_STATUS_WAKE_FAILED true).bump Fld.PWS_CNT0_WAKE_FAILS

/-- With the boot over, a failed attempt is one of the wake from STANDBY. -/
theorem exec_wakeAttemptFail (locked : Bool) (hstage : s.fld Fld.BOOT_STATUS_STAGE = 15) :
    exec (.wakeAttemptFail locked) s = .next (wakeAttemptFail s locked) := by
  have hexec : exec (.wakeAttemptFail locked) s =
      if s.boot.hold = .none && !s.boot.stopped && !s.on Fld.BOOT_STATUS_RECOVERY && [2, 3, 9].contains s.stage then
        .next (bootAttemptFail s)
      else .next (wakeAttemptFail s locked) := rfl
  rw [hexec, if_neg (by simp [State.stage, hstage])]

theorem wakeAttemptFail_next (locked : Bool) (hphase : s.pws.phase = .waking true) (hn : s.fld Fld.PWS_STATUS_ATTEMPTS < 4) :
    wakeAttemptFail s locked = nextAttempt s := by
  unfold wakeAttemptFail
  rw [if_neg (by simp [hphase])]
  exact if_pos hn

theorem wakeAttemptFail_last (locked : Bool) (hphase : s.pws.phase = .waking true) (hn : 4 ≤ s.fld Fld.PWS_STATUS_ATTEMPTS)
    (hdest : s.pws.dest = none) : wakeAttemptFail s locked = reportFault (lastAttempt s) 0x56 0 := by
  unfold wakeAttemptFail
  rw [if_neg (by simp [hphase]), hdest]
  exact if_neg (by omega)

theorem wakeAttemptFail_retries (locked : Bool) (hphase : s.pws.phase = .waking true) (hstage : s.fld Fld.BOOT_STATUS_STAGE = 15)
    (hn : s.fld Fld.PWS_STATUS_ATTEMPTS < 4) : Completes (.wakeAttemptFail locked) s fun t =>
      t.fld Fld.PWS_STATUS_ATTEMPTS = s.fld Fld.PWS_STATUS_ATTEMPTS + 1 ∧ t.boot.pll = false ∧ t.pws.phase = .waking true
      ∧ (∀ g, (g = 2 ∨ g = 3 ∨ g = 4) → (t.fld Fld.PWS_PMIC_EN).testBit g = true)
      ∧ (∀ g, (g = 0 ∨ g = 1 ∨ g = 5) → (t.fld Fld.PWS_PMIC_EN).testBit g = false)
      ∧ SameRegs [Reg.PWS_STATUS, Reg.PWS_PMIC] s t := by
  refine .intro (by rw [exec_wakeAttemptFail s locked hstage, wakeAttemptFail_next s locked hphase hn]) ?_
  refine ⟨?_, by simp [nextAttempt], by simp [nextAttempt, hphase], fun g hg => ?_, fun g hg => ?_, ?_⟩
  · rw [nextAttempt, setPmic_fld_ne _ _ _ _ (by simp), State.fld_setFld _ _ _ (by simp)]
    exact Nat.mod_eq_of_lt (show _ < 16 by omega)
  · rw [nextAttempt, setPmic_en _ _ _ (by omega), if_pos (by simpa using hg)]
  · rw [nextAttempt, setPmic_en _ _ _ (by omega), if_neg (by simp; omega), State.fld_setFld_ne _ _ _ _ (by simp)]
    exact dropSupplies_off s hg
  · exact (((dropSupplies_sameRegs s).mono (by simp)).setFld (by simp) _).setPmic (by simp) _ _

theorem wakeAttemptFail_ends (locked : Bool) (hphase : s.pws.phase = .waking true) (hstage : s.fld Fld.BOOT_STATUS_STAGE = 15)
    (hn : 4 ≤ s.fld Fld.PWS_STATUS_ATTEMPTS) (hdest : s.pws.dest = none) :
    ∃ u, exec (.wakeAttemptFail locked) s = .next (reportFault u 0x56 0) ∧ u.pws.phase = .standby
      ∧ u.fld Fld.PWS_STATUS_WAKE_FAILED = 1 ∧ u.fld Fld.PWS_STATUS_ATTEMPTS = s.fld Fld.PWS_STATUS_ATTEMPTS
      ∧ u.fld Fld.PWS_CNT0_WAKE_FAILS = min (s.fld Fld.PWS_CNT0_WAKE_FAILS + 1) 65535 := by
  have hkept (g : Fld) (hg : g.reg ≠ Reg.PWS_PMIC) : (dropSupplies s).fld g = s.fld g :=
    (dropSupplies_sameRegs s).fld g (by simpa using hg)
  refine ⟨lastAttempt s, by rw [exec_wakeAttemptFail s locked hstage, wakeAttemptFail_last s locked hphase hn hdest], ?_, ?_, ?_, ?_⟩
  · simp [lastAttempt]
  · simp [lastAttempt]
  · simp [lastAttempt, hkept]
  · simp [lastAttempt, hkept]

end

/-! ### Supplies (R471, R472) -/

section

variable (s : State) (g : Fin 6) (level : Bool)

/-- A supply changes, with CE0's event line 11. -/
def pgChanged : State := (s.setFld Fld.PWS_PMIC_PG (putBit (s.fld Fld.PWS_PMIC_PG) g level)).ceEvent 0 11

theorem pgChange_same (h : (s.fld Fld.PWS_PMIC_PG).testBit g = level) : exec (.pgChange g level) s = .next s := by
  change execPgChange g level s = _
  exact if_pos h

theorem pgChange_advances (h : (s.fld Fld.PWS_PMIC_PG).testBit g ≠ level) :
    exec (.pgChange g level) s = .next (wakeAdvance (bootAdvance (pgChanged s g level))) := by
  change execPgChange g level s = _
  exact if_neg h

theorem pgChanged_pg (j : Nat) : ((pgChanged s g level).fld Fld.PWS_PMIC_PG).testBit j =
    (decide (j < 6) && if j = g then level else (s.fld Fld.PWS_PMIC_PG).testBit j) := by
  rw [pgChanged, (ceEvent_onlyRegs _ 0 11).1.fld _ (by simp), State.testBit_fld_setFld _ _ _ _ (by simp), testBit_putBit]

theorem pgChanged_this : ((pgChanged s g level).fld Fld.PWS_PMIC_PG).testBit g = level := by simp [pgChanged_pg, g.isLt]

theorem pgChanged_other {j : Nat} (h : j ≠ g.val) :
    ((pgChanged s g level).fld Fld.PWS_PMIC_PG).testBit j = (s.fld Fld.PWS_PMIC_PG).testBit j := by
  rw [pgChanged_pg, if_neg h]
  by_cases hj : j < 6
  · simp [hj]
  · have hbit : (s.fld Fld.PWS_PMIC_PG).testBit j = false :=
      Nat.testBit_lt_two_pow (Nat.lt_of_lt_of_le (State.fld_lt s _) (Nat.pow_le_pow_right (by decide) (Nat.not_lt.1 hj)))
    simp [hj, hbit]

theorem pgChanged_onlyRegs :
    OnlyRegs [Reg.PWS_PMIC, Reg.CLS_CE_EVPEND 0, Reg.CLS_CE_CNT1 0] s (pgChanged s g level) :=
  (OnlyRegs.setFld s (f := Fld.PWS_PMIC_PG) (by simp) _).trans ((ceEvent_onlyRegs _ 0 11).mono (by simp))

theorem bootAdvance_booted (h : s.fld Fld.BOOT_STATUS_STAGE = 15) : bootAdvance s = s :=
  if_pos (by simp [State.stage, h])

theorem wakeAdvance_idle (h : s.pws.phase ≠ .waking true) : wakeAdvance s = s := if_pos (by simp [h])

theorem pgChange_shows (hchange : (s.fld Fld.PWS_PMIC_PG).testBit g ≠ level) (hstage : s.fld Fld.BOOT_STATUS_STAGE = 15)
    (hphase : s.pws.phase ≠ .waking true) : Completes (.pgChange g level) s fun t => (t.fld Fld.PWS_PMIC_PG).testBit g = level
      ∧ (∀ h, h ≠ g.val → (t.fld Fld.PWS_PMIC_PG).testBit h = (s.fld Fld.PWS_PMIC_PG).testBit h)
      ∧ (t.fld (Fld.CLS_CE_EVPEND_PEND 0)).testBit 11 = true
      ∧ OnlyRegs [Reg.PWS_PMIC, Reg.CLS_CE_EVPEND 0, Reg.CLS_CE_CNT1 0] s t := by
  have honly := pgChanged_onlyRegs s g level
  have hstage' : (pgChanged s g level).fld Fld.BOOT_STATUS_STAGE = 15 := by rw [honly.1.fld _ (by simp), hstage]
  have hphase' : (pgChanged s g level).pws.phase ≠ .waking true := by simpa [pgChanged] using hphase
  refine .intro (by rw [pgChange_advances s g level hchange, bootAdvance_booted _ hstage', wakeAdvance_idle _ hphase']) ?_
  exact ⟨pgChanged_this s g level, fun h hne => pgChanged_other s g level hne, ceEvent_pending _ 0 11 (by decide), honly⟩

/-! ### Stages 2 and 3 of a wake from STANDBY -/

theorem setPmic_onlyRegs (groups : List Nat) (b : Bool) : OnlyRegs [Reg.PWS_PMIC] s (setPmic s groups b) :=
  OnlyRegs.setFld s (f := Fld.PWS_PMIC_EN) (by simp) _

theorem wakeAdvance_supplies (hphase : s.pws.phase = .waking true) (hgood : ∀ g, (g = 2 ∨ g = 3 ∨ g = 4) → s.pgOk g = true) :
    wakeAdvance s = let t := setPmic s [0, 1] true
      if t.boot.pll && t.supplied [0, 1] && (t.fld Fld.PWS_PMIC_AUX_OFF).testBit 1 then setPmic t [5] true else t :=
  if_neg (by simp [hphase, State.supplied, hgood])

theorem setPmic_pgOk (groups : List Nat) (b : Bool) (j : Nat) : (setPmic s groups b).pgOk j = s.pgOk j := by
  simp [State.pgOk]

theorem wakeAdvance_stages (hphase : s.pws.phase = .waking true) (hgood : ∀ g, (g = 2 ∨ g = 3 ∨ g = 4) → s.pgOk g = true) :
    let t := wakeAdvance s
    (t.fld Fld.PWS_PMIC_EN).testBit 0 = true ∧ (t.fld Fld.PWS_PMIC_EN).testBit 1 = true
    ∧ (s.boot.pll = true → s.pgOk 0 = true → s.pgOk 1 = true → (s.fld Fld.PWS_PMIC_AUX_OFF).testBit 1 = true →
      (t.fld Fld.PWS_PMIC_EN).testBit 5 = true) ∧ OnlyRegs [Reg.PWS_PMIC] s t := by
  have hcore (j : Nat) (hj : j < 2) : ((setPmic s [0, 1] true).fld Fld.PWS_PMIC_EN).testBit j = true := by
    rw [setPmic_en _ _ _ (by omega), if_pos (by simp; omega)]
  have honly := setPmic_onlyRegs s [0, 1] true
  rw [wakeAdvance_supplies s hphase hgood]
  dsimp only
  split
  · have haux (j : Nat) (hj : j < 2) :
        ((setPmic (setPmic s [0, 1] true) [5] true).fld Fld.PWS_PMIC_EN).testBit j = true := by
      rw [setPmic_en _ _ _ (by omega), if_neg (by simp; omega), hcore j hj]
    exact ⟨haux 0 (by decide), haux 1 (by decide), fun _ _ _ _ => by rw [setPmic_en _ _ _ (by decide)]; rfl,
      honly.trans (setPmic_onlyRegs _ _ _)⟩
  · next h =>
    refine ⟨hcore 0 (by decide), hcore 1 (by decide), fun hpll h0 h1 haux => absurd ?_ h, honly⟩
    simp [State.supplied, setPmic_pgOk, hpll, h0, h1, haux]

end

/-- Without a ramp no ballast moves (R479). -/
theorem rampBallastStep_none (s : State) (h : s.pws.ramp = none) : exec .rampBallastStep s = .next s := by
  change execRampBallastStep s = _
  rw [execRampBallastStep, h]

end Sys2Proof.Machine
end

section
/-! The wake from ARRAY_SLEEP (R468): the facets are powered, those whose trims hold become READY. -/

namespace Sys2Proof.Machine

/-! ### Powering facets (R236, R270) -/

/-- The registers that show READY and FGCAL_BUSY. -/
def facetStatRegs : List Nat := (List.range 4).map Reg.CVA_FACET_STAT

theorem not_mem_facetStatRegs {a : Nat} (h : a / 2 ^ 24 ≠ 9) : a ∉ facetStatRegs := by
  simp only [facetStatRegs, List.mem_map, List.mem_range, Reg.CVA_FACET_STAT]
  rintro ⟨k, hk, rfl⟩
  omega

/-- Facet k has all it needs to restore its trims: an enabled facet with RCS LOCKED, not shut down, not calibrating. -/
def State.restores (s : State) (k : Nat) : Prop :=
  s.fld (Fld.CVA_FACET_CFG_EN k) = 1 ∧ s.rcsLocked = true ∧ s.shutDown k = false
    ∧ s.fld (Fld.CVA_FACET_STAT_FGCAL_BUSY k) = 0 ∧ s.cva.trims.at k = true

section

variable (s : State) (k : Nat)

theorem powerFacet_onlyRegs : OnlyRegs [Reg.CVA_FACET_STAT k] s (powerFacet s k) := by
  unfold powerFacet
  split
  · exact ⟨.refl _ s, rfl⟩
  · split
    · exact OnlyRegs.flag s (f := Fld.CVA_FACET_STAT_READY k) (by simp) true
    · exact OnlyRegs.flag s (f := Fld.CVA_FACET_STAT_FGCAL_BUSY k) (by simp) true

theorem powerFacet_ready (h : s.restores k) : (powerFacet s k).fld (Fld.CVA_FACET_STAT_READY k) = 1 := by
  obtain ⟨hen, hlock, hshut, hbusy, htrim⟩ := h
  have hready := s.on_bit (Fld.CVA_FACET_STAT_READY k) rfl
  unfold powerFacet
  by_cases hr : s.fld (Fld.CVA_FACET_STAT_READY k) = 1
  · rw [if_pos (by simp [hready.2 hr]), hr]
  · have hoff : s.on (Fld.CVA_FACET_STAT_READY k) = false := by simpa only [Bool.not_eq_true] using mt hready.1 hr
    have hen' := (s.on_bit (Fld.CVA_FACET_CFG_EN k) rfl).2 hen
    have hidle := (s.on_eq_false (Fld.CVA_FACET_STAT_FGCAL_BUSY k)).2 hbusy
    rw [hoff, hen', hidle, hlock, hshut, if_neg (by decide), if_pos htrim]
    simp

end

/-- The first n facets are powered: only what they show changes, and those that can are READY. -/
structure PoweredTo (n : Nat) (s t : State) : Prop where
  only : OnlyRegs ((List.range n).map Reg.CVA_FACET_STAT) s t
  ready : ∀ k, k < n → s.restores k → t.fld (Fld.CVA_FACET_STAT_READY k) = 1

/-- The facets from n on do not see that those below were powered. -/
theorem PoweredTo.restores {n : Nat} {s t : State} (h : PoweredTo n s t) (hs : s.restores n) : t.restores n := by
  obtain ⟨hen, hlock, hshut, hbusy, htrim⟩ := hs
  obtain ⟨hregs, hrest⟩ := h.only
  have hkept (g : Fld) (hg : ∀ k, k < n → g.reg ≠ Reg.CVA_FACET_STAT k) : t.fld g = s.fld g :=
    hregs.fld g (by simpa [eq_comm] using hg)
  refine ⟨?_, ?_, ?_, ?_, ?_⟩
  · rw [hkept _ (by simp; omega), hen]
  · rw [State.rcsLocked, hkept _ (by simp; omega)]
    exact hlock
  · rw [State.shutDown, hkept _ (by simp; omega)]
    exact hshut
  · rw [hkept _ (by simp; omega), hbusy]
  · rw [hrest]
    exact htrim

theorem powered (n : Nat) (s : State) : PoweredTo n s ((List.range n).foldl powerFacet s) := by
  induction n with
  | zero => exact ⟨⟨.refl _ s, rfl⟩, fun k hk => absurd hk (Nat.not_lt_zero k)⟩
  | succ n ih =>
    rw [List.range_succ, List.foldl_append]
    have hstep := powerFacet_onlyRegs ((List.range n).foldl powerFacet s) n
    refine ⟨?_, fun k hk hs => ?_⟩
    · rw [List.range_succ, List.map_append]
      exact (ih.only.mono (by simp)).trans (hstep.mono (by simp))
    · obtain hlt | rfl := Nat.lt_succ_iff_lt_or_eq.1 hk
      · exact (hstep.1.fld (Fld.CVA_FACET_STAT_READY k) (by simp; omega)).trans (ih.ready k hlt hs)
      · exact powerFacet_ready _ k (ih.restores hs)

/-! ### The facets come up (R468) -/

/-- The trims of the facets of a mask are lost. -/
def loseTrims (s : State) (fail : Nat) : State :=
  (List.range 4).foldl (fun t k => if fail.testBit k then t.updCva (fun x => { x with trims := x.trims.put k false }) else t) s

/-- The facets have power, and those that fail lost their trims. -/
def facetsOn (s : State) (fail : Nat) : State :=
  let t := loseTrims (s.updPws (fun x => { x with facetsOff := false, quiet := false })) fail
  t.updRcs (fun r => { r with lockedAt := s.time.now, waitPulse := t.rcsLocked && t.syncMode == 2 })

theorem facetsUp_eq (s : State) (fail : Nat) : facetsUp s fail = (List.range 4).foldl powerFacet (facetsOn s fail) := (rfl)

section

variable (s : State) (fail : Nat)

theorem foldl_loseTrims (l : List Nat) : ∃ m, l.foldl (fun t k => if fail.testBit k then
      t.updCva (fun x => { x with trims := x.trims.put k false }) else t) s = { s with cva := { s.cva with trims := m } }
    ∧ ∀ k, m.at k = (s.cva.trims.at k && !(decide (k ∈ l) && fail.testBit k)) := by
  induction l generalizing s with
  | nil => exact ⟨s.cva.trims, rfl, by simp⟩
  | cons i l ih =>
    rw [List.foldl_cons]
    by_cases hi : fail.testBit i = true
    · obtain ⟨m, heq, hm⟩ := ih (s.updCva (fun x => { x with trims := x.trims.put i false }))
      refine ⟨m, by rw [if_pos hi, heq]; rfl, fun k => ?_⟩
      by_cases hk : k = i <;> simp [hm, hk, hi]
    · obtain ⟨m, heq, hm⟩ := ih s
      refine ⟨m, by rw [if_neg hi, heq], fun k => ?_⟩
      by_cases hk : k = i <;> simp [hm, hk, hi]

theorem loseTrims_trims : ∃ m, loseTrims s fail = { s with cva := { s.cva with trims := m } }
    ∧ ∀ k, k < 4 → m.at k = (s.cva.trims.at k && !fail.testBit k) := by
  obtain ⟨m, heq, hm⟩ := foldl_loseTrims s fail (List.range 4)
  exact ⟨m, heq, fun k hk => by simp [hm, hk]⟩

/-- The facets come up with the trims that did not fail; the part is no longer quiet. -/
structure FacetsOn (s : State) (fail : Nat) (t : State) : Prop where
  regs : t.regs = s.regs
  pws : t.pws = { s.pws with facetsOff := false, quiet := false }
  boot : t.boot = s.boot
  time : t.time = s.time
  trims : ∀ k, k < 4 → t.cva.trims.at k = (s.cva.trims.at k && !fail.testBit k)

theorem facetsOn_on : FacetsOn s fail (facetsOn s fail) := by
  obtain ⟨m, heq, hm⟩ := loseTrims_trims (s.updPws (fun x => { x with facetsOff := false, quiet := false })) fail
  unfold facetsOn
  rw [heq]
  exact ⟨rfl, rfl, rfl, rfl, hm⟩

theorem FacetsOn.fld {t : State} (h : FacetsOn s fail t) (g : Fld) : t.fld g = s.fld g := State.fld_congr h.regs g

theorem facetsUp_powered : PoweredTo 4 (facetsOn s fail) (facetsUp s fail) := by
  rw [facetsUp_eq]
  exact powered 4 _

theorem facetsUp_sameRegs : SameRegs facetStatRegs s (facetsUp s fail) :=
  ((SameRegs.refl _ s).regs_eq (facetsOn_on s fail).regs).trans (facetsUp_powered s fail).only.1

@[simp] theorem facetsUp_pws : (facetsUp s fail).pws = { s.pws with facetsOff := false, quiet := false } := by
  rw [(facetsUp_powered s fail).only.2]
  exact (facetsOn_on s fail).pws

@[simp] theorem facetsUp_boot : (facetsUp s fail).boot = s.boot := by
  rw [(facetsUp_powered s fail).only.2]
  exact (facetsOn_on s fail).boot

@[simp] theorem facetsUp_time : (facetsUp s fail).time = s.time := by
  rw [(facetsUp_powered s fail).only.2]
  exact (facetsOn_on s fail).time

theorem facetsUp_trims {k : Nat} (hk : k < 4) : (facetsUp s fail).cva.trims.at k = (s.cva.trims.at k && !fail.testBit k) := by
  rw [(facetsUp_powered s fail).only.2]
  exact (facetsOn_on s fail).trims k hk

theorem facetsUp_fld (g : Fld) (hg : g.reg / 2 ^ 24 ≠ 9 := by decide) : (facetsUp s fail).fld g = s.fld g :=
  (facetsUp_sameRegs s fail).fld g (not_mem_facetStatRegs hg)

/-- A facet that keeps its trims and has all it needs is READY. -/
theorem facetsUp_ready {k : Nat} (hk : k < 4) (h : s.restores k) (hfail : fail.testBit k = false) :
    (facetsUp s fail).fld (Fld.CVA_FACET_STAT_READY k) = 1 := by
  obtain ⟨hen, hlock, hshut, hbusy, htrim⟩ := h
  have hon := facetsOn_on s fail
  refine (facetsUp_powered s fail).ready k hk ⟨?_, ?_, ?_, ?_, ?_⟩
  · rw [hon.fld, hen]
  · rw [State.rcsLocked, hon.fld]
    exact hlock
  · rw [State.shutDown, hon.fld]
    exact hshut
  · rw [hon.fld, hbusy]
  · simp [hon.trims k hk, htrim, hfail]

end

/-! ### ARRAY_SLEEP_WAKE -/

/-- The part is ACTIVE again, and the wake counts. -/
def arrayAwake (s : State) (fail : Nat) : State := (setPhase (facetsUp s fail) .active).bump Fld.PWS_CNT0_WAKES

section

variable (s : State) (fail : Fin 16)

theorem exec_arraySleepWake : exec (.arraySleepWake fail) s =
    if s.pws.phase == .waking false && (!(s.fld Fld.PWS_PMIC_AUX_OFF).testBit 0 || s.pgOk 5) then
      .next (settle s (if fail.val = 0 then arrayAwake s fail else keepFailed (arrayAwake s fail) 7))
    else .next s := (rfl)

theorem arraySleepWake_stays (h : s.pws.phase ≠ .waking false ∨ ((s.fld Fld.PWS_PMIC_AUX_OFF).testBit 0 = true ∧ s.pgOk 5 = false)) :
    exec (.arraySleepWake fail) s = .next s := by
  rw [exec_arraySleepWake, if_neg]
  obtain h | ⟨haux, hpg⟩ := h
  · simp [h]
  · simp [haux, hpg]

@[simp] theorem arrayAwake_pws (n : Nat) :
    (arrayAwake s n).pws = { s.pws with phase := .active, facetsOff := false, quiet := false } := by simp [arrayAwake]

theorem arrayAwake_trims {k : Nat} (hk : k < 4) (n : Nat) : (arrayAwake s n).cva.trims.at k = (s.cva.trims.at k && !n.testBit k) := by
  rw [← facetsUp_trims s n hk]
  simp [arrayAwake]

theorem arrayAwake_ready {k : Nat} (hk : k < 4) (n : Nat) :
    (arrayAwake s n).fld (Fld.CVA_FACET_STAT_READY k) = (facetsUp s n).fld (Fld.CVA_FACET_STAT_READY k) := by
  rw [arrayAwake, State.bump, State.fld_setFld_ne _ _ _ _ (by simp; omega), setPhase_fld_ne _ _ _ (by simp; omega)]

theorem facetStat_not_mem_settleRegs {k : Nat} (hk : k < 4) : Reg.CVA_FACET_STAT k ∉ settleRegs := by
  simp only [settleRegs, List.cons_append, List.mem_cons, List.mem_append, List.mem_map, List.mem_range]
  rintro (h | ⟨p, hp, h⟩ | ⟨i, hi, h⟩)
  · simp at h; omega
  · simp at h; omega
  · simp at h; omega

variable (hphase : s.pws.phase = .waking false) (hpower : (s.fld Fld.PWS_PMIC_AUX_OFF).testBit 0 = false ∨ s.pgOk 5 = true)

include hphase hpower

theorem exec_arraySleepWake_powered : exec (.arraySleepWake fail) s =
    .next (settle s (if fail.val = 0 then arrayAwake s fail else keepFailed (arrayAwake s fail) 7)) := by
  rw [exec_arraySleepWake, if_pos (by simpa [hphase] using hpower)]

theorem arraySleepWake_wakes (hfail : fail.val = 0) : Completes (.arraySleepWake fail) s fun t =>
    t.pws.phase = .active ∧ t.pws.facetsOff = false ∧ t.pws.quiet = false ∧ t.fld Fld.PWS_STATUS_STATE = 0
    ∧ t.fld Fld.PWS_STATUS_BUSY = 0 ∧ t.fld Fld.PWS_CNT0_WAKES = min (s.fld Fld.PWS_CNT0_WAKES + 1) 65535
    ∧ ∀ k, k < 4 → s.restores k → t.fld (Fld.CVA_FACET_STAT_READY k) = 1 := by
  have hset := settle_settled s (arrayAwake s fail)
  refine .intro (by rw [exec_arraySleepWake_powered s fail hphase hpower, if_pos hfail]) ?_
  refine ⟨by simp [hset.pws], by simp [hset.pws], by simp [hset.pws], ?_, ?_, ?_, fun k hk hs => ?_⟩
  · rw [hset.fld Fld.PWS_STATUS_STATE]
    simp [arrayAwake, PwsPhase.shown]
  · rw [hset.fld Fld.PWS_STATUS_BUSY]
    simp [arrayAwake, PwsPhase.busy]
  · rw [hset.fld Fld.PWS_CNT0_WAKES, ← facetsUp_fld s fail Fld.PWS_CNT0_WAKES]
    simp [arrayAwake]
  · rw [hset.sameRegs.fld _ (facetStat_not_mem_settleRegs hk), arrayAwake_ready s hk]
    exact facetsUp_ready s fail hk hs (by simp [hfail])

theorem arraySleepWake_fails (hfail : fail.val ≠ 0) : ∃ u, exec (.arraySleepWake fail) s = .next (settle s (keepFailed u 7))
    ∧ u.pws.phase = .active ∧ u.pws.facetsOff = false ∧ ∀ k, k < 4 → fail.val.testBit k = true → u.cva.trims.at k = false := by
  refine ⟨arrayAwake s fail, ?_, by simp, by simp, fun k hk hbit => ?_⟩
  · rw [exec_arraySleepWake_powered s fail hphase hpower, if_neg hfail]
  · simp [arrayAwake_trims s hk, hbit]

end

end Sys2Proof.Machine
end

section
/-! The wake from STANDBY (R472 to R475): what the steps of the wake leave to the power steward. -/

namespace Sys2Proof.Machine

/-! ### The sample clock (R279, R282) -/

section

variable (s : State)

theorem updRcs_steward (f : RcsState → RcsState) : StewardKept s (s.updRcs f) := (StewardKept.refl s).other rfl rfl rfl rfl

theorem updCva_steward (f : CvaState → CvaState) : StewardKept s (s.updCva f) := (StewardKept.refl s).other rfl rfl rfl rfl

theorem updFacet_steward (k : Nat) (f : FacetTime → FacetTime) : StewardKept s (s.updFacet k f) :=
  (StewardKept.refl s).other rfl rfl rfl rfl

theorem updLine_steward (c : Nat) (f : Timeline → Timeline) : StewardKept s (s.updLine c f) :=
  (StewardKept.refl s).other rfl rfl rfl rfl

theorem setAlarm_steward (bit : Nat) : StewardKept s (setAlarm s bit) := .ite ((StewardKept.refl s).other rfl rfl rfl rfl) (.refl s)

theorem clearPath_steward {p : Nat} (hp : p < 64) : StewardKept s (clearPath s p) :=
  .ite ((((StewardKept.refl s).flag (f := Fld.CVA_RX_STAT_OVR p) false).flag (f := Fld.CVA_RX_STAT_OVR_HI p) false).trans
    (updCva_steward _ _)) (.refl s)

theorem clearDead_steward : StewardKept s (clearDead s) := by
  rw [clearDead_eq]
  exact .foldl_range (fun t p hp => clearPath_steward t hp) s

theorem stopStandby_steward : StewardKept s (stopStandby s) :=
  ((StewardKept.refl s).flag (f := Fld.RCS_STATUS_STBY_OK) false).trans (updRcs_steward _ _)

theorem abandonFgcal_steward : StewardKept s (abandonFgcal s) :=
  .foldl_range (fun t k _ => (StewardKept.refl t).flag (f := Fld.CVA_FACET_STAT_FGCAL_BUSY k) false) s

theorem endCmd_steward : StewardKept s (endCmd s) := by
  unfold endCmd
  exact .ite ((((StewardKept.refl s).flag (f := Fld.RCS_CMD_STAT_BUSY) false).trans (updRcs_steward _ _)).ceEvent 1 11) (.refl s)

theorem endIf_steward (c : RcsCmd) : StewardKept s (endIf s c) := .ite (endCmd_steward s) (.refl s)

theorem leaveLocked_steward (st : Nat) : StewardKept s (leaveLocked s st) := by
  have hstate := (StewardKept.refl s).setFld (f := Fld.RCS_STATUS_STATE) st
  unfold leaveLocked
  extract_lets t1 t2 t3 t4 t5 t6 t7 t8
  have h2 : StewardKept s t2 := ((hstate.bump (f := Fld.RCS_CNT1_UNLOCKS)).flag (f := Fld.RCS_STATUS_UNLOCK_EVT) true).trans
    (setAlarm_steward _ 4)
  have h3 : StewardKept s t3 := (h2.flag (f := Fld.RCS_STATUS_ANCHORED) false).flag (f := Fld.RCS_SYNC_STAT_FOLLOWING) false
  have h4 : StewardKept s t4 := h3.trans (.foldl_range (fun t k _ => updFacet_steward t k _) _)
  have h6 : StewardKept s t6 := (h4.trans (updCva_steward _ _)).flag (f := Fld.TIM_STATUS_REALIGNING) false
  have h7 : StewardKept s t7 := (((h6.trans (abandonFgcal_steward _)).trans (stopStandby_steward _)).trans
    (endIf_steward _ .switch)).trans (endIf_steward _ .calStby)
  have h8 : StewardKept s t8 := h7.trans (updRcs_steward _ _)
  exact .ite hstate (((h8.trans (refreshHub_steward _)).settled (settle_settled s _)).trans (clearDead_steward _))

theorem tuneTo_steward (cal : Bool) (e : Nat) : StewardKept s (tuneTo s cal e) := by
  unfold tuneTo
  extract_lets full t1 t2
  have h1 : StewardKept s t1 := (leaveLocked_steward s _).trans (stopStandby_steward _)
  have h2 : StewardKept s t2 := h1.trans (updRcs_steward _ _)
  have h3 := (h2.setFld (f := Fld.RCS_STATUS_ENTRY) e).flag (f := Fld.RCS_CMD_STAT_BUSY) true
  exact (h3.trans (updRcs_steward _ _)).flag (f := Fld.RCS_SYNC_STAT_SYNC_BAD) _

theorem rcsTune_steward (e : Nat) : StewardKept s (rcsTune s e) :=
  .ite (tuneTo_steward s false e)
    (((StewardKept.refl s).flag (f := Fld.RCS_CMD_STAT_REFUSED) true).setFld (f := Fld.RCS_CMD_STAT_CAUSE) _)

end

/-! ### Memories and sections (R508, R512) -/

section

variable (s : State)

theorem putByte_steward (dram : Bool) (a : Nat) (b : Byte) : StewardKept s (putByte s dram a b) :=
  (StewardKept.refl s).other rfl rfl rfl rfl

theorem putBytes_steward (dram : Bool) (a : Nat) (l : List Byte) : StewardKept s (putBytes s dram a l) :=
  .foldl (fun t _ _ => putByte_steward t _ _ _) s

theorem loadFirmware_steward (n : Nat) (l : List Byte) : StewardKept s (loadFirmware s n l) :=
  (putBytes_steward s _ _ _).trans (putBytes_steward _ _ _ _)

theorem loadCalSequence_steward (l : List Byte) : StewardKept s (loadCalSequence s l) :=
  .foldl (fun t _ _ => putBytes_steward t _ _ _) s

theorem loadDram_steward (l : List Byte) : StewardKept s (loadDram s l) :=
  ((StewardKept.refl s).setFld (f := Fld.MEM_DRAM_CFG_CAP) _).setFld (f := Fld.MEM_DRAM_CFG_RATE) _

/-- The sections that a wake loads again: firmware and the calibration sequence. -/
def wakeSection (x : ImgSec) : Bool := x.typ == 3 || x.typ == 7

theorem loadSection_steward {x : ImgSec} (h : wakeSection x = true) (l : List Byte) : StewardKept s (loadSection s x l) := by
  have htyp : x.typ = 3 ∨ x.typ = 7 := by simpa [wakeSection] using h
  obtain h | h := htyp
  · rw [loadSection, h]
    exact loadFirmware_steward s _ l
  · rw [loadSection, h]
    exact loadCalSequence_steward s l

theorem loadSections_steward (b : Bool) (l : List ImgSec) : StewardKept s (loadSections b wakeSection l s).1 := by
  induction l generalizing s with
  | nil => exact .refl s
  | cons x rest ih =>
    rw [loadSections]
    split
    · exact ih s
    · next hx =>
      split
      · exact .refl s
      · exact ((StewardKept.refl s).flag (f := Fld.BOOT_STATUS_USER_REJ) true).trans (ih _)
      · split
        · exact .refl s
        · exact (loadSection_steward s (by simpa using hx) _).trans (ih _)

theorem reloadSections_steward : StewardKept s (reloadSections s wakeSection) := .ite (loadSections_steward s _ _) (.refl s)

theorem blocksReady_steward : StewardKept s (blocksReady s) :=
  ((((StewardKept.refl s).flag (f := Fld.MEM_STATUS_SRAM_READY) true).flag (f := Fld.LPE_STATUS_READY) true).flag
    (f := Fld.BFE_STATUS_READY) true).flag (f := Fld.GRL_STATUS_READY) true

/-- The settings of the DRAM are loaded again. -/
def reloadDram (s : State) : State :=
  match (s.imgSecs (s.on Fld.BOOT_STATUS_SLOT)).find? (fun x => x.typ == 6) with
  | some x => match s.checkSec (s.on Fld.BOOT_STATUS_SLOT) x with
    | .ok l => loadDram s l
    | _ => s
  | none => s

theorem reloadDram_steward : StewardKept s (reloadDram s) := by
  unfold reloadDram
  split
  · split
    · exact loadDram_steward s _
    · exact .refl s
  · exact .refl s

/-- Memories outside the KEEP banks are loaded again. -/
def reloadMemories (s : State) : State :=
  let t := reloadDram (reloadSections (blocksReady s) wakeSection)
  t.flag Fld.MEM_STATUS_DRAM_READY t.boot.dram

theorem reloadMemories_steward : StewardKept s (reloadMemories s) :=
  (((blocksReady_steward s).trans (reloadSections_steward _)).trans (reloadDram_steward _)).flag (f := Fld.MEM_STATUS_DRAM_READY) _

/-! ### Cores, engines, ports and timelines start again (R472) -/

theorem runCore_steward (n : Nat) : StewardKept s (runCore s n true) := by
  have hrun := (StewardKept.refl s).setFld (f := Fld.DSP_CTRL_RUN) (putBit (s.fld Fld.DSP_CTRL_RUN) n true)
  unfold runCore
  extract_lets t
  have ht : StewardKept s t := hrun
  rw [if_pos rfl]
  refine .ite ?_ ht
  exact (ht.setFld (f := Fld.DSP_STATUS_HALTED) _).trans ((StewardKept.refl _).other rfl rfl rfl rfl)

theorem restart_steward : StewardKept s (restart s) := by
  unfold restart
  extract_lets s1 s2 s3 t1 t2 t3
  have h1 : StewardKept s s1 := .foldl (fun t e _ => .ite ((StewardKept.refl t).setFld (f := Fld.CLS_CE_STAT_STATE e) 1) (.refl t)) s
  have h2 : StewardKept s1 s2 := .foldl_range (fun t n _ => .ite (runCore_steward t n) (.refl t)) s1
  have h3 : StewardKept s s3 := ((h1.trans h2).flag (f := Fld.DSP_STATUS_FW_OK) true).flag (f := Fld.LDE_STATUS_READY) true
  have h4 : StewardKept s3 t1 := .foldl (fun t n _ => (StewardKept.refl t).flag (f := Fld.FPE_PORT_CFG_EN n) true) s3
  have h5 : StewardKept s t2 := ((h3.trans h4).trans (updFpe_steward _ _)).trans (judge_steward _ _ _)
  have h6 : StewardKept t2 t3 := .foldl_range (fun t l _ => beginLane_steward t l) t2
  exact (h5.trans h6).trans (.foldl_range (fun t c _ => .ite (updLine_steward t c _) (.refl t)) t3)

end

end Sys2Proof.Machine
end

section
/-! STANDBY_WAKE with every KEEP bank intact (R472 to R475): what the power steward shows of it. -/

namespace Sys2Proof.Machine

/-! ### The KEEP banks (R475) -/

section

variable (s : State) (h : s.pws.kept = 255)

include h

theorem bankLost_intact {b : Nat} (hb : b < 8) : s.bankLost 0 b = false := by
  have hkept : (255 : Nat).testBit b = true := by
    rw [show (255 : Nat) = 2 ^ 8 - 1 from rfl, Nat.testBit_two_pow_sub_one]
    simpa using hb
  simp [State.bankLost, h, hkept]

theorem banks_intact {n : Nat} (hn : n ≤ 8) : (List.range n).any (s.bankLost 0) = false := by
  rw [List.any_eq_false]
  intro b hb
  rw [bankLost_intact s h (Nat.lt_of_lt_of_le (List.mem_range.1 hb) hn)]
  decide

theorem bankMask_intact : maskOf 8 (fun b => !s.bankLost 0 b) = 255 := by
  refine Nat.eq_of_testBit_eq fun b => ?_
  rw [testBit_maskOf, show (255 : Nat) = 2 ^ 8 - 1 from rfl, Nat.testBit_two_pow_sub_one]
  by_cases hb : b < 8
  · rw [bankLost_intact s h hb]
    simp [hb]
  · simp [hb]

/-- With every bank intact the check shows it, and reports nothing. -/
theorem checkKeep_intact : checkKeep s 0 = (s.setFld Fld.PWS_KEEP_KEEP_OK 255).setFld Fld.PWS_KEEP_KEEP_FAIL 0 := by
  unfold checkKeep
  rw [bankMask_intact s h]
  refine List.foldlRecOn (motive := fun t => t = _) _ _ rfl fun t ht b _ => ?_
  rw [if_neg (by simp), ht]

end

/-! ### The steps of the wake -/

section

variable (s : State) (count : Nat) (fail : Byte)

/-- DOM_CORE is powered, and the PHC goes on from its saved value, or from 0 without bank 6. -/
def corePowered : State :=
  (s.updPws (fun x => { x with coreOff := false })).setPhc (if s.bankLost fail 6 then {} else s.phcAfter count)

/-- What the lost banks held is built again. -/
def rebuildLost (lost : Nat → Bool) (t : State) : State :=
  let t := if (List.range 4).any lost then rebuildConfig t else t
  let t := if lost 7 then reloadCalibration t else t
  if (List.range 6).any lost then refetchLocked t else t

/-- The entry that was in use is tuned again. -/
def retune (tuned : Option Nat) (t : State) : State :=
  match tuned with
  | some e => rcsTune t e
  | none => t

/-- TX release waits for TIME_OK again (R474). -/
def holdTx (t : State) : State :=
  (t.flag Fld.BOOT_TXREL_RELEASED false).updBoot (fun b => { b with txHold := true, timeLost := some s.time.now })

/-- The part awake, before it enters WAKE_TO. -/
def standbyAwake : State :=
  let t := rebuildLost (s.bankLost fail) (reloadMemories (checkKeep (corePowered s count fail) fail))
  (restart (holdTx s (retune s.pws.tuned t))).bump Fld.PWS_CNT0_WAKES

/-- The part enters WAKE_TO. -/
def enterWakeTo (t : State) : State :=
  if t.fld Fld.PWS_MODE_WAKE_TO = 1 then setPhase t .array else settle s (setPhase (facetsUp t 0) .active)

/-- What STANDBY_WAKE waits for (R472). -/
def State.standbyReady : Prop := s.pws.phase = .waking true ∧ s.boot.pll = true ∧ (∀ g, g < 5 → s.pgOk g = true)
  ∧ ((s.fld Fld.PWS_PMIC_AUX_OFF).testBit 1 = false ∨ s.pgOk 5 = true)

/-- The guard of STANDBY_WAKE, as the model decides it. -/
def State.standbyWaits : Bool := s.pws.phase != .waking true || !s.boot.pll || !s.supplied [0, 1, 2, 3, 4]
  || ((s.fld Fld.PWS_PMIC_AUX_OFF).testBit 1 && !s.pgOk 5)

theorem supplied_core : s.supplied [0, 1, 2, 3, 4] = true ↔ ∀ g, g < 5 → s.pgOk g = true := by
  rw [State.supplied, List.all_eq_true]
  exact forall_congr' fun g => imp_congr_left (by simp; omega)

theorem standbyWaits_iff : s.standbyWaits = false ↔ s.standbyReady := by
  rw [State.standbyReady, ← supplied_core]
  simp only [State.standbyWaits, Bool.or_eq_false_iff, Bool.and_eq_false_iff, Bool.not_eq_false', bne_eq_false_iff_eq, and_assoc]

theorem exec_standbyWake : exec (.standbyWake count fail) s =
    if s.standbyWaits then .next s else .next (enterWakeTo s (standbyAwake s count fail)) := (rfl)

theorem standbyWake_stays (h : ¬s.standbyReady) : exec (.standbyWake count fail) s = .next s := by
  rw [← standbyWaits_iff, Bool.not_eq_false] at h
  rw [exec_standbyWake, if_pos h]

theorem standbyWake_enters (h : s.standbyReady) :
    exec (.standbyWake count fail) s = .next (enterWakeTo s (standbyAwake s count fail)) := by
  rw [exec_standbyWake, (standbyWaits_iff s).2 h, if_neg (by decide)]

theorem retune_steward (tuned : Option Nat) (t : State) : StewardKept t (retune tuned t) := by
  cases tuned with
  | none => exact .refl t
  | some e => exact rcsTune_steward t e

theorem rebuildLost_intact (h : s.pws.kept = 255) (t : State) : rebuildLost (s.bankLost 0) t = t := by
  unfold rebuildLost
  rw [bankLost_intact s h (b := 7) (by decide), banks_intact s h (n := 4) (by decide), banks_intact s h (n := 6) (by decide)]
  rfl

/-! ### The wake with every bank intact -/

/-- The part powered and checked, every bank intact. -/
def keepChecked : State :=
  (((s.updPws (fun x => { x with coreOff := false })).setPhc (s.phcAfter count)).setFld Fld.PWS_KEEP_KEEP_OK 255).setFld
    Fld.PWS_KEEP_KEEP_FAIL 0

theorem standbyAwake_intact (h : s.pws.kept = 255) : standbyAwake s count 0 =
    (restart (holdTx s (retune s.pws.tuned (reloadMemories (keepChecked s count))))).bump Fld.PWS_CNT0_WAKES := by
  have hcore : corePowered s count 0 = (s.updPws (fun x => { x with coreOff := false })).setPhc (s.phcAfter count) := by
    rw [corePowered, bankLost_intact s h (by decide), if_neg (by decide)]
  have hchecked : checkKeep (corePowered s count 0) 0 = keepChecked s count := by
    rw [hcore]
    exact checkKeep_intact _ (by simpa using h)
  rw [standbyAwake, hchecked, rebuildLost_intact s h]

/-- What the power steward finds of a part awake with every bank intact. -/
structure AwakeIntact (s : State) (count : Nat) (t : State) : Prop where
  pws : t.pws = { s.pws with coreOff := false }
  txHold : t.boot.txHold = true
  phc : t.time.phc = s.phcAfter count
  keepOk : t.fld Fld.PWS_KEEP_KEEP_OK = 255
  keepFail : t.fld Fld.PWS_KEEP_KEEP_FAIL = 0
  wakeTo : t.fld Fld.PWS_MODE_WAKE_TO = s.fld Fld.PWS_MODE_WAKE_TO
  wakes : t.fld Fld.PWS_CNT0_WAKES = min (s.fld Fld.PWS_CNT0_WAKES + 1) 65535

theorem standbyAwake_awake (h : s.pws.kept = 255) : AwakeIntact s count (standbyAwake s count 0) := by
  have hbefore := (reloadMemories_steward (keepChecked s count)).trans (retune_steward s.pws.tuned _)
  have hafter := restart_steward (holdTx s (retune s.pws.tuned (reloadMemories (keepChecked s count))))
  have hfld (g : Fld) (hg : g.reg / 2 ^ 24 = 2) :
      (restart (holdTx s (retune s.pws.tuned (reloadMemories (keepChecked s count))))).fld g = (keepChecked s count).fld g := by
    rw [hafter.fld g hg, holdTx, State.updBoot_fld, State.fld_flag_ne _ _ _ _ (.inl (by simp; omega)), hbefore.fld g hg]
  rw [standbyAwake_intact s count h]
  refine ⟨?_, ?_, ?_, ?_, ?_, ?_, ?_⟩
  · rw [State.bump_pws, hafter.pws, holdTx, State.updBoot_pws, State.flag_pws, hbefore.pws]
    simp [keepChecked]
  · rw [State.bump_boot, hafter.boot, holdTx, State.updBoot_boot]
  · rw [State.bump_time, hafter.phc, holdTx, State.updBoot_time, State.flag_time, hbefore.phc]
    simp [keepChecked, State.setPhc]
  · rw [State.fld_bump_ne _ _ _ _ (by simp), hfld _ (by decide)]
    simp [keepChecked]
  · rw [State.fld_bump_ne _ _ _ _ (by simp), hfld _ (by decide)]
    simp [keepChecked]
  · rw [State.fld_bump_ne _ _ _ _ (by simp), hfld _ (by decide)]
    simp [keepChecked]
  · rw [State.fld_bump _ _ _ (by simp), hfld _ (by decide)]
    simp [keepChecked]

/-- What the part shows in the state that it woke to. -/
structure Woken (s : State) (count : Nat) (t : State) : Prop where
  coreOff : t.pws.coreOff = false
  busy : t.fld Fld.PWS_STATUS_BUSY = 0
  phc : t.time.phc = s.phcAfter count
  keepOk : t.fld Fld.PWS_KEEP_KEEP_OK = 255
  keepFail : t.fld Fld.PWS_KEEP_KEEP_FAIL = 0
  wakes : t.fld Fld.PWS_CNT0_WAKES = min (s.fld Fld.PWS_CNT0_WAKES + 1) 65535
  txHold : t.boot.txHold = true

section

variable {s : State} {count : Nat} {u : State} (h : AwakeIntact s count u)

include h

theorem setPhase_array_woken : Woken s count (setPhase u .array) :=
  ⟨by simp [h.pws], by simp [PwsPhase.busy], by simp [h.phc], by rw [setPhase_fld_ne _ _ _ (by simp), h.keepOk],
    by rw [setPhase_fld_ne _ _ _ (by simp), h.keepFail], by rw [setPhase_fld_ne _ _ _ (by simp), h.wakes], by simp [h.txHold]⟩

theorem setPhase_active_woken : Woken s count (settle s (setPhase (facetsUp u 0) .active)) := by
  have hset := settle_settled s (setPhase (facetsUp u 0) .active)
  have hfld (g : Fld) (hg : g.reg / 2 ^ 24 = 2) (hne : g.reg ≠ Reg.PWS_STATUS) :
      (settle s (setPhase (facetsUp u 0) .active)).fld g = u.fld g := by
    rw [hset.fld g (by omega) (by omega), setPhase_fld_ne _ _ _ (.inl hne), facetsUp_fld u 0 g (by omega)]
  refine ⟨by simp [hset.pws, h.pws], ?_, by simp [hset.time, h.phc], ?_, ?_, ?_, by simp [hset.boot, h.txHold]⟩
  · rw [hset.fld Fld.PWS_STATUS_BUSY]
    simp [PwsPhase.busy]
  · rw [hfld _ (by decide) (by decide), h.keepOk]
  · rw [hfld _ (by decide) (by decide), h.keepFail]
  · rw [hfld _ (by decide) (by decide), h.wakes]

/-- The part enters ARRAY_SLEEP or ACTIVE by WAKE_TO. -/
theorem enterWakeTo_woken :
    (s.fld Fld.PWS_MODE_WAKE_TO = 1 → (enterWakeTo s u).pws.phase = .array ∧ (enterWakeTo s u).fld Fld.PWS_STATUS_STATE = 1)
    ∧ (s.fld Fld.PWS_MODE_WAKE_TO ≠ 1 → (enterWakeTo s u).pws.phase = .active ∧ (enterWakeTo s u).fld Fld.PWS_STATUS_STATE = 0
      ∧ (enterWakeTo s u).pws.facetsOff = false ∧ (enterWakeTo s u).pws.quiet = false)
    ∧ Woken s count (enterWakeTo s u) := by
  rw [enterWakeTo, h.wakeTo]
  by_cases hto : s.fld Fld.PWS_MODE_WAKE_TO = 1
  · rw [if_pos hto]
    exact ⟨fun _ => ⟨by simp, by simp [PwsPhase.shown]⟩, fun hne => absurd hto hne, setPhase_array_woken h⟩
  · have hset := settle_settled s (setPhase (facetsUp u 0) .active)
    rw [if_neg hto]
    refine ⟨fun hone => absurd hone hto, fun _ => ⟨by simp [hset.pws], ?_, by simp [hset.pws], by simp [hset.pws]⟩,
      setPhase_active_woken h⟩
    rw [hset.fld Fld.PWS_STATUS_STATE]
    simp [PwsPhase.shown]

end

theorem standbyWake_wakes (hready : s.standbyReady) (hkept : s.pws.kept = 255) :
    Completes (.standbyWake count 0) s fun t =>
      (s.fld Fld.PWS_MODE_WAKE_TO = 1 → t.pws.phase = .array ∧ t.fld Fld.PWS_STATUS_STATE = 1)
      ∧ (s.fld Fld.PWS_MODE_WAKE_TO ≠ 1 → t.pws.phase = .active ∧ t.fld Fld.PWS_STATUS_STATE = 0 ∧ t.pws.facetsOff = false
        ∧ t.pws.quiet = false)
      ∧ Woken s count t :=
  .intro (standbyWake_enters s count 0 hready) (enterWakeTo_woken (standbyAwake_awake s count hkept))

end

end Sys2Proof.Machine
end

section
/-! O48: wake sources, wakes, failed attempts, supplies, the budget and ramps. -/

namespace Sys2Proof.Machine

/-- A due window: what it shows, and which client it throttles or relieves (R477, R478). -/
theorem budgetWindow_throttles (s : State) (est : List (Fin 65536)) (hdue : windowDue s) :
    let budget := s.fld Fld.PWS_BUDGET_BUDGET_MW
    let level := fun (t : State) (c : Nat) => t.fld (Fld.PWS_CLIENT_LEVEL c)
    let prio := fun (c : Nat) => s.fld (Fld.PWS_CLIENT_PRIO c)
    ∃ u b, exec (.budgetWindow est) s = .next (watchBudget u b (totalMw est)) ∧ (b = true ↔ ∀ c, 7 ≤ c → c < 11 → level s c = 3)
      ∧ u.pws = { s.pws with winFrom := s.time.now } ∧ (∀ c, c < 14 → u.fld (Fld.PWS_CLIENT_EST_MW c) = clientMw est c)
      ∧ (totalMw est < 65536 → u.fld Fld.PWS_EST_TOTAL_MW = totalMw est
        ∧ u.fld Fld.PWS_EST_PEAK_MW = max (s.fld Fld.PWS_EST_PEAK_MW) (totalMw est))
      ∧ (budget < totalMw est → ∀ c, 7 ≤ c → c < 11 → level s c < 3 →
        (∀ d, 7 ≤ d → d < 11 → d ≠ c → level s d < 3 → prio c < prio d ∨ (prio c = prio d ∧ d < c)) → level u c = level s c + 1
        ∧ (∀ d, d < 14 → d ≠ c → level u d = level s d) ∧ u.fld Fld.PWS_CNT1_THROTTLES = min (s.fld Fld.PWS_CNT1_THROTTLES + 1) 65535)
      ∧ (10 * totalMw est ≤ 9 * budget → ∀ c, 7 ≤ c → c < 11 → 0 < level s c →
        (∀ d, 7 ≤ d → d < 11 → d ≠ c → 0 < level s d → prio d < prio c ∨ (prio c = prio d ∧ c < d)) → level u c + 1 = level s c
        ∧ (∀ d, d < 14 → d ≠ c → level u d = level s d) ∧ u.fld Fld.PWS_CNT1_THROTTLES = min (s.fld Fld.PWS_CNT1_THROTTLES + 1) 65535)
      ∧ (totalMw est ≤ budget → 9 * budget < 10 * totalMw est → ∀ c, c < 14 → level u c = level s c)
      ∧ SameRegs budgetRegs s u := by
  intro budget level prio
  refine ⟨windowThrottled s est, allThree s, budgetWindow_due s est hdue, allThree_iff s, windowThrottled_pws s est,
    fun c hc => windowThrottled_est s est hc, windowThrottled_total s est, ?_, ?_,
    fun hwithin habove c _ => windowThrottled_between s est hwithin habove c, windowThrottled_sameRegs s est⟩
  · intro hover c h7 h11 hlevel hbest
    have hchanged := windowThrottled_over h7 h11 hover hlevel hbest
    exact ⟨hchanged.level, fun d _ hd => hchanged.other d hd, hchanged.throttles⟩
  · intro hunder c h7 h11 hlevel hbest
    have hchanged := windowThrottled_under h7 h11 hunder hlevel hbest
    exact ⟨(congrArg (· + 1) hchanged.level).trans (Nat.sub_add_cancel hlevel), fun d _ hd => hchanged.other d hd,
      hchanged.throttles⟩

/-- Settles O48: each clause by the lemma of its command; the budget's clauses by the window's throttling and PWR_OVER. -/
theorem wakesBudgetAndRamps : Obligations.WakesBudgetAndRamps := by
  unfold Obligations.WakesBudgetAndRamps
  refine ⟨fun s src hsrc => ⟨wakeSource_active s src, fun _ => wakeSource_entering s src, array_wakes s src hsrc,
      standby_wakes s src hsrc, fun _ => waking_records s src hsrc⟩,
    fun s => ⟨wakeLaneEnergy_wakes s, wakeLaneEnergy_stays s, exec_wakeNAssert s, wakeTimer_wakes s, wakeTimer_stays s⟩,
    ?wakeFrame, ?arrayWake, fun s fail => arraySleepWake_stays s fail, ?standbyWake,
    fun s locked hphase _ hstage => ⟨wakeAttemptFail_retries s locked hphase hstage,
      wakeAttemptFail_ends s locked hphase hstage⟩,
    ?supplies, wakeAdvance_stages, ?budget, fireRamp_starts,
    fun s r hr hdelta hstart hdue => ⟨rampBallastStep_ends s hr hdue, rampBallastStep_moves s hr hdue hdelta hstart⟩, ?rampWaits⟩
  case wakeFrame =>
    intro s port elems el hel hmem
    have hmsg := wakeMsg_of_mem s elems hel hmem
    refine ⟨fun hphase hlane hmode hport => ?_, fun hphase hlane hup => ?_, fun hphase => ?_⟩
    · have hstrict := (s.on_bit Fld.PWS_LISTEN_MODE rfl).2 hmode
      rw [exec_wakeFrame, hmsg, wakePort_standby s port hphase, hlane, hstrict, if_pos (by simpa using hport)]
    · have hon := (s.on_bit Fld.PWS_WAKE_LANE rfl).2 hlane
      rw [exec_wakeFrame, hmsg, wakePort_array s port hphase, hon, hup, if_pos (by decide)]
    · rw [exec_wakeFrame, wakePort_active s port hphase, Bool.and_false, if_neg (by decide)]
  case arrayWake =>
    intro s fail hphase hpower
    refine ⟨fun hfail => ?_, arraySleepWake_fails s fail hphase hpower⟩
    obtain ⟨t, hexec, hactive, hon, hquiet, hstate, hbusy, hwakes, hready⟩ := arraySleepWake_wakes s fail hphase hpower hfail
    exact ⟨t, hexec, hactive, hon, hquiet, hstate, hbusy, hwakes,
      fun k hk hen hlock hshut hidle htrim => hready k hk ⟨hen, hlock, hshut, hidle, htrim⟩⟩
  case standbyWake =>
    intro s count fail ready
    refine ⟨standbyWake_stays s count fail, fun hready hkept hfail => ?_⟩
    subst hfail
    obtain ⟨t, hexec, harray, hactive, hwoken⟩ := standbyWake_wakes s count hready hkept
    exact ⟨t, hexec, harray, hactive, hwoken.coreOff, hwoken.busy, hwoken.phc, hwoken.keepOk, hwoken.keepFail, hwoken.wakes,
      hwoken.txHold⟩
  case supplies =>
    exact fun s g level => ⟨pgChange_same s g level, pgChange_shows s g level, fun hchange =>
      ⟨pgChanged s g level, pgChange_advances s g level hchange, pgChanged_this s g level, pgChanged_onlyRegs s g level⟩⟩
  case budget =>
    intro s est due mw total budget level prio all3
    have htotal : totalMw est = total := totalMw_eq est
    have hthree : allThree s = true ↔ all3 := allThree_iff s
    clear_value total
    subst htotal
    exact ⟨budgetWindow_early s est, budgetWindow_throttles s est,
      fun hdue h3 hover => budgetWindow_counts est hdue hover (hthree.2 h3),
      fun hdue h3 hover => budgetWindow_reports est hdue hover (hthree.2 h3),
      fun hdue h3 hover => budgetWindow_said est hdue hover (hthree.2 h3),
      fun hdue h3 hover => budgetWindow_room est hdue hover (mt hthree.1 h3),
      fun hdue => budgetWindow_within est hdue⟩
  case rampWaits =>
    rintro s (hnone | ⟨r, hr, hearly⟩)
    · exact rampBallastStep_none s hnone
    · exact rampBallastStep_waits s hr hearly

end Sys2Proof.Machine
end

section
/-! The named changes of the Fault Hub's own state, and what showing the reactions in force leaves alone (R487, R488, R492,
R498). -/

namespace Sys2Proof.Machine

section

variable (s : State) (i : Nat) (f : SrcEntry → SrcEntry) (h : Option Nat)

@[simp] theorem State.updSrc_regs : (s.updSrc i f).regs = s.regs := (rfl)
@[simp] theorem State.updSrc_fpe : (s.updSrc i f).fpe = s.fpe := (rfl)
@[simp] theorem State.updSrc_cva : (s.updSrc i f).cva = s.cva := (rfl)
@[simp] theorem State.updSrc_fld (g : Fld) : (s.updSrc i f).fld g = s.fld g := (rfl)
@[simp] theorem State.updSrc_srcState (j : Nat) : (s.updSrc i f).srcState j = s.srcState j := (rfl)
@[simp] theorem State.updSrc_isRaised (num info : Nat) : (s.updSrc i f).isRaised num info = s.isRaised num info := (rfl)
@[simp] theorem State.updSrc_at (j : Nat) : (s.updSrc i f).flt.src.at j = if j = i then f (s.flt.src.at i) else s.flt.src.at j :=
  SMap.at_upd _ _ _ _

@[simp] theorem State.setHostFrom_regs : (s.setHostFrom h).regs = s.regs := (rfl)
@[simp] theorem State.setHostFrom_src : (s.setHostFrom h).flt.src = s.flt.src := (rfl)
@[simp] theorem State.setHostFrom_hostFrom : (s.setHostFrom h).flt.hostFrom = h := (rfl)

end

theorem State.srcState_congr {s t : State} (h : t.regs = s.regs) (i : Nat) : t.srcState i = s.srcState i := State.fld_congr h _

theorem OnlyRegs.wr {l : List Nat} (s : State) {a : Nat} (ha : a ∈ l) (v : Word) : OnlyRegs l s (s.wr a v) :=
  ⟨(SameRegs.refl l s).wr ha v, rfl⟩

theorem OnlyRegs.wr64 {l : List Nat} (s : State) {a : Nat} (ha : a ∈ l) (ha' : a + 4 ∈ l) (n : Nat) : OnlyRegs l s (s.wr64 a n) :=
  (OnlyRegs.wr s ha _).trans (.wr _ ha' _)

theorem OnlyRegs.refl (l : List Nat) (s : State) : OnlyRegs l s s := ⟨.refl l s, rfl⟩

/-! ### The registers that show the reactions in force -/

/-- The registers of the Fault Hub and the elision masks that `refreshHub` brings to the reactions in force. -/
def hubRegs : List Nat :=
  [Reg.FLT_STATUS, Reg.FLT_QUIET, Reg.FLT_QPATH_LO, Reg.FLT_QPATH_HI, Reg.FLT_HUB_TX_LO, Reg.FLT_HUB_TX_HI, Reg.FLT_HUB_RX_LO,
    Reg.FLT_HUB_RX_HI, Reg.BFE_ELIDE_TX_LO, Reg.BFE_ELIDE_TX_HI, Reg.BFE_ELIDE_RX_LO, Reg.BFE_ELIDE_RX_HI, Reg.BFE_STATUS,
    Reg.BFE_CNT2]

/-- With them, the registers that show what the reactions do to facets, paths and strobes. -/
def reactionRegs : List Nat := hubRegs ++ facetStatRegs ++ settleRegs

theorem not_mem_reactionRegs {a : Nat} : a ∉ reactionRegs ↔ a ∉ hubRegs ∧ a ∉ facetStatRegs ∧ a ∉ settleRegs := by
  simp only [reactionRegs, List.mem_append, not_or, and_assoc]

/-- The source table shows its entries elsewhere. -/
theorem srcStat_not_mem_reactionRegs {i : Nat} (hi : i < 64) : Reg.FLT_SRC_STAT i ∉ reactionRegs := by
  have hblock : Reg.FLT_SRC_STAT i / 2 ^ 24 = 1 := by simp only [Reg.FLT_SRC_STAT]; omega
  refine not_mem_reactionRegs.2 ⟨?_, not_mem_facetStatRegs (by omega), not_mem_settleRegs (by omega) (by omega)⟩
  simp [hubRegs]
  omega

theorem facetCfg_not_mem_reactionRegs {k : Nat} (hk : k < 4) : Reg.CVA_FACET_CFG k ∉ reactionRegs := by
  refine not_mem_reactionRegs.2 ⟨by simp [hubRegs]; omega, ?_, ?_⟩
  · simp only [facetStatRegs, List.mem_map, List.mem_range, Reg.CVA_FACET_STAT, Reg.CVA_FACET_CFG]
    omega
  · simp only [settleRegs, List.cons_append, List.mem_cons, List.mem_append, List.mem_map, List.mem_range,
      Reg.CVA_FACET_CFG, Reg.FEN_STB_STAT, Reg.CVA_TX_CNT0, Reg.FEN_STB_CFG]
    omega

/-! ### What showing the reactions leaves alone -/

/-- From s to t only reactions were shown: the Fault Hub's own state but FAULT_N, the events, the requests of supervision and every
other register stay. -/
structure SourcesKept (s t : State) : Prop where
  regs : SameRegs reactionRegs s t
  flt : ∃ b, t.flt = { s.flt with faultN := b }
  fpe : t.fpe = s.fpe
  sup : t.cva.sup = s.cva.sup

namespace SourcesKept

variable {s t u : State}

theorem trans (h : SourcesKept s t) (h' : SourcesKept t u) : SourcesKept s u := by
  obtain ⟨b, hb⟩ := h.flt
  obtain ⟨b', hb'⟩ := h'.flt
  exact ⟨h.regs.trans h'.regs, ⟨b', by rw [hb', hb]⟩, h'.fpe.trans h.fpe, h'.sup.trans h.sup⟩

theorem of_onlyRegs {l : List Nat} (h : OnlyRegs l s t) (hl : l ⊆ reactionRegs) : SourcesKept s t := by
  obtain ⟨hregs, hrest⟩ := h
  exact ⟨hregs.mono hl, ⟨s.flt.faultN, by rw [hrest]⟩, by rw [hrest], by rw [hrest]⟩

theorem of_settled (h : SettledFrom s t) : SourcesKept s t := by
  obtain ⟨hregs, r, w, m, rfl⟩ := h
  exact ⟨hregs.mono (List.subset_append_right _ _), ⟨s.flt.faultN, rfl⟩, rfl, rfl⟩

variable (h : SourcesKept s t)

include h

theorem fld (g : Fld) (hg : g.reg ∉ reactionRegs := by decide) : t.fld g = s.fld g := h.regs.fld g hg

theorem srcState {i : Nat} (hi : i < 64) : t.srcState i = s.srcState i := h.fld _ (srcStat_not_mem_reactionRegs hi)

theorem isRaised (num info : Nat) : t.isRaised num info = s.isRaised num info := by
  rw [State.isRaised, h.fpe, State.isRaised]

theorem src : t.flt.src = s.flt.src := by obtain ⟨b, hb⟩ := h.flt; rw [hb]
theorem hostFrom : t.flt.hostFrom = s.flt.hostFrom := by obtain ⟨b, hb⟩ := h.flt; rw [hb]
theorem overflow : t.flt.overflow = s.flt.overflow := by obtain ⟨b, hb⟩ := h.flt; rw [hb]

end SourcesKept

section

variable (s : State)

theorem refreshElided_onlyRegs : OnlyRegs hubRegs s (refreshElided s) := by
  unfold refreshElided
  extract_lets tx rx changed t1 t2 t3 t4
  have h1 : OnlyRegs hubRegs s t1 := .wr64 s (a := Reg.BFE_ELIDE_TX_LO) (by simp [hubRegs]) (by simp [hubRegs]) tx
  have h2 : OnlyRegs hubRegs t1 t2 := .wr64 t1 (a := Reg.BFE_ELIDE_RX_LO) (by simp [hubRegs]) (by simp [hubRegs]) rx
  have h3 : OnlyRegs hubRegs t2 t3 := .setFld t2 (f := Fld.BFE_STATUS_ELIDED_TX) (by simp [hubRegs]) _
  have h4 : OnlyRegs hubRegs t3 t4 := .setFld t3 (f := Fld.BFE_STATUS_ELIDED_RX) (by simp [hubRegs]) _
  have h : OnlyRegs hubRegs s t4 := ((h1.trans h2).trans h3).trans h4
  split
  · exact h
  · exact h.trans (.setFld t4 (f := Fld.BFE_CNT2_ELISIONS) (by simp [hubRegs]) _)

theorem refreshHub_kept : SourcesKept s (refreshHub s) := by
  unfold refreshHub
  extract_lets rs part shut facet shutShown qpath tx rx elided corr fn flt shown faultN fatal active
  have hmasks : OnlyRegs hubRegs s rx :=
    (((((OnlyRegs.flag s (f := Fld.FLT_QUIET_PART) (by simp [hubRegs]) _).trans
      (.setFld part (f := Fld.FLT_QUIET_FACET) (by simp [hubRegs]) _)).trans
      (.setFld facet (f := Fld.FLT_QUIET_SHUT) (by simp [hubRegs]) _)).trans
      (.wr64 shutShown (a := Reg.FLT_QPATH_LO) (by simp [hubRegs]) (by simp [hubRegs]) _)).trans
      (.wr64 qpath (a := Reg.FLT_HUB_TX_LO) (by simp [hubRegs]) (by simp [hubRegs]) _)).trans
      (.wr64 tx (a := Reg.FLT_HUB_RX_LO) (by simp [hubRegs]) (by simp [hubRegs]) _)
  have hstatus : OnlyRegs hubRegs shown (active.setFld Fld.FLT_STATUS_LATCHED
      ((List.range 64).filter (fun i => active.srcState i == 2)).length) :=
    (((OnlyRegs.flag shown (f := Fld.FLT_STATUS_FAULT_N) (by simp [hubRegs]) fn).trans
      (.flag faultN (f := Fld.FLT_STATUS_FATAL) (by simp [hubRegs]) _)).trans
      (.setFld fatal (f := Fld.FLT_STATUS_ACTIVE) (by simp [hubRegs]) _)).trans
      (.setFld active (f := Fld.FLT_STATUS_LATCHED) (by simp [hubRegs]) _)
  have hsub : hubRegs ⊆ reactionRegs := by simp [reactionRegs]
  have hfn : SourcesKept elided shown := ⟨.refl _ _, ⟨fn, rfl⟩, rfl, rfl⟩
  exact ((SourcesKept.of_onlyRegs (hmasks.trans (refreshElided_onlyRegs rx)) hsub).trans hfn).trans (.of_onlyRegs hstatus hsub)

theorem settle_kept (old : State) : SourcesKept s (settle old s) := .of_settled (settle_settled old s)

/-- How the commands of the Fault Hub end. -/
theorem settle_refreshHub_kept (old : State) : SourcesKept s (settle old (refreshHub s)) :=
  (refreshHub_kept s).trans (settle_kept _ old)

end

end Sys2Proof.Machine
end

section
/-! The release of a source (R494): its entry is IDLE, its event has ceased, and the facets it shut down start again. -/

namespace Sys2Proof.Machine

/-! ### Facets start again (R488) -/

section

variable (kind : Nat) (r : Reactions) (s : State)

theorem restartFacet_onlyRegs (k : Nat) : OnlyRegs [Reg.CVA_FACET_STAT k] s (restartFacet kind r s k) := by
  unfold restartFacet
  split
  · split
    · exact .flag s (f := Fld.CVA_FACET_STAT_FGCAL_BUSY k) (by simp) _
    · exact .flag s (f := Fld.CVA_FACET_STAT_READY k) (by simp) _
  · exact .refl _ s

theorem restartFacets_onlyRegs (l : List Nat) :
    OnlyRegs (l.map Reg.CVA_FACET_STAT) s (l.foldl (restartFacet kind r) s) := by
  induction l generalizing s with
  | nil => exact .refl _ s
  | cons k l ih => exact ((restartFacet_onlyRegs kind r s k).mono (by simp)).trans ((ih _).mono (by simp))

/-- A facet does not see that another started again. -/
theorem restartFacet_stat_congr {t : State} {j k : Nat} (h : OnlyRegs [Reg.CVA_FACET_STAT j] s t) (hjk : k ≠ j) :
    (restartFacet kind r t k).rd (Reg.CVA_FACET_STAT k) = (restartFacet kind r s k).rd (Reg.CVA_FACET_STAT k) := by
  have hfld (g : Fld) (hg : g.reg ≠ Reg.CVA_FACET_STAT j) : t.fld g = s.fld g := h.1.fld g (by simpa using hg)
  have hstat : t.rd (Reg.CVA_FACET_STAT k) = s.rd (Reg.CVA_FACET_STAT k) := h.1 _ (by simp; omega)
  have hlocked : t.rcsLocked = s.rcsLocked := by rw [State.rcsLocked, hfld _ (by simp; omega), State.rcsLocked]
  unfold restartFacet
  rw [hfld _ (by simp; omega), State.on, hfld _ (by simp; omega), ← State.on, hlocked]
  split
  · split <;> simp [State.flag, State.setFld, hstat]
  · exact hstat

theorem restartFacets_stat {l : List Nat} (hl : l.Nodup) {k : Nat} (hk : k ∈ l) :
    (l.foldl (restartFacet kind r) s).rd (Reg.CVA_FACET_STAT k) = (restartFacet kind r s k).rd (Reg.CVA_FACET_STAT k) := by
  induction l generalizing s with
  | nil => simp at hk
  | cons j l ih =>
    obtain ⟨hj, hl⟩ := List.nodup_cons.1 hl
    rw [List.foldl_cons]
    obtain rfl | hk := List.mem_cons.1 hk
    · refine (restartFacets_onlyRegs kind r _ l).1 _ ?_
      simp only [List.mem_map, Reg.CVA_FACET_STAT]
      rintro ⟨i, hi, heq⟩
      exact hj ((by omega : i = k) ▸ hi)
    · rw [ih _ hl hk]
      exact restartFacet_stat_congr kind r s (restartFacet_onlyRegs kind r s j) (ne_of_mem_of_not_mem hk hj)

variable {kind r s} {k : Nat} (hshut : r.shut.testBit k = true) (hquiet : (s.fld Fld.FLT_QUIET_SHUT).testBit k = false)
  (hen : s.fld (Fld.CVA_FACET_CFG_EN k) = 1)

include hshut hquiet hen

theorem restartFacet_ready (hkind : kind ≠ 0x18) : (restartFacet kind r s k).fld (Fld.CVA_FACET_STAT_READY k) = 1 := by
  simp [restartFacet, hshut, hquiet, (s.on_bit (Fld.CVA_FACET_CFG_EN k) rfl).2 hen, hkind]

theorem restartFacet_fgcal (hkind : kind = 0x18) :
    (restartFacet kind r s k).fld (Fld.CVA_FACET_STAT_FGCAL_BUSY k) = s.rcsLocked.toNat := by
  simp [restartFacet, hshut, hquiet, (s.on_bit (Fld.CVA_FACET_CFG_EN k) rfl).2 hen, hkind]

end

/-! ### The entry of a released source -/

section

variable (s : State) (num info : Nat) (flow : Option Nat)

@[simp] theorem ceaseEvent_regs : (ceaseEvent s num info flow).regs = s.regs := by
  unfold ceaseEvent
  split
  · rfl
  · rfl

@[simp] theorem ceaseEvent_cva : (ceaseEvent s num info flow).cva = s.cva := by
  unfold ceaseEvent
  split
  · rfl
  · rfl

@[simp] theorem ceaseEvent_isRaised : (ceaseEvent s num info flow).isRaised num info = false := by
  unfold ceaseEvent
  split
  · simp only [State.isRaised, State.updFpe, List.any_filter, List.any_eq_false]
    intro e he
    cases hmatch : (e.num == num && e.info == info) <;> simp
  · rename_i h
    exact Bool.eq_false_iff.2 h

end

section

variable (s : State) (kind unit : Nat)

@[simp] theorem askProbation_regs : (askProbation s kind unit).regs = s.regs := by
  unfold askProbation
  split
  · rfl
  · rfl

theorem askProbation_sup (h : kind = 0x10 ∨ kind = 0x11 ∨ kind = 0x12) :
    ((askProbation s kind unit).cva.sup.at (unit % 64)).want = true
      ∧ ((askProbation s kind unit).cva.sup.at (unit % 64)).probation = true := by
  simp [askProbation, h]

end

@[simp] theorem idleEntry_regs (s : State) (i : Nat) : (idleEntry s i).regs = (s.setFld (Fld.FLT_SRC_STAT_STATE i) 0).regs := by
  simp [idleEntry]

/-- Entry i IDLE, its probation capture asked for and its event ceased, before the reactions in force are shown. -/
def sourceIdled (s : State) (i : Nat) : State :=
  ceaseEvent (askProbation (idleEntry s i) (codeKind (s.srcCode i)) (codeUnit (s.srcCode i))) 0x000 (s.srcCode i)

section

variable (s : State) (i : Nat)

theorem sourceIdled_regs : (sourceIdled s i).regs = (s.setFld (Fld.FLT_SRC_STAT_STATE i) 0).regs := by
  rw [sourceIdled, ceaseEvent_regs, askProbation_regs, idleEntry_regs]

theorem sourceIdled_fld (g : Fld) (hg : g.reg ≠ Reg.FLT_SRC_STAT i) : (sourceIdled s i).fld g = s.fld g :=
  (State.fld_congr (sourceIdled_regs s i) g).trans (State.fld_setFld_ne _ _ _ _ (.inl hg))

theorem setSrcState_srcState (n j : Nat) :
    (s.setFld (Fld.FLT_SRC_STAT_STATE i) n).srcState j = if j = i then n % 4 else s.srcState j := by
  split
  · rename_i h
    rw [h]
    exact State.fld_setFld _ _ _ (by simp)
  · exact State.fld_setFld_ne _ _ _ _ (.inl (by simp; omega))

theorem sourceIdled_srcState (j : Nat) : (sourceIdled s i).srcState j = if j = i then 0 else s.srcState j :=
  (State.srcState_congr (sourceIdled_regs s i) j).trans (setSrcState_srcState s i 0 j)

theorem sourceIdled_isRaised : (sourceIdled s i).isRaised 0 (s.srcCode i) = false := ceaseEvent_isRaised _ _ _ _

/-! ### The release -/

/-- A release shows the reactions in force without the entry, then its facets start again. -/
theorem releaseSource_eq_restart : releaseSource s i =
    (List.range 4).foldl (restartFacet (codeKind (s.srcCode i)) (reactionsOf s (codeKind (s.srcCode i)) (codeUnit (s.srcCode i))))
      (refreshHub (sourceIdled s i)) := (rfl)

theorem releaseSource_onlyRegs : OnlyRegs facetStatRegs (refreshHub (sourceIdled s i)) (releaseSource s i) :=
  restartFacets_onlyRegs _ _ _ _

theorem releaseSource_kept : SourcesKept (sourceIdled s i) (releaseSource s i) :=
  (refreshHub_kept _).trans (.of_onlyRegs (releaseSource_onlyRegs s i) (by simp [reactionRegs]))

theorem releaseSource_fld (g : Fld) (hg : g.reg ≠ Reg.FLT_SRC_STAT i) (hr : g.reg ∉ reactionRegs := by decide) :
    (releaseSource s i).fld g = s.fld g :=
  ((releaseSource_kept s i).fld g hr).trans (sourceIdled_fld s i g hg)

theorem releaseSource_srcState {j : Nat} (hj : j < 64) :
    (releaseSource s i).srcState j = if j = i then 0 else s.srcState j :=
  ((releaseSource_kept s i).srcState hj).trans (sourceIdled_srcState s i j)

theorem releaseSource_isRaised : (releaseSource s i).isRaised 0 (s.srcCode i) = false :=
  ((releaseSource_kept s i).isRaised _ _).trans (sourceIdled_isRaised s i)

/-- A released supervision source waits for a probation capture. -/
theorem releaseSource_sup (h : codeKind (s.srcCode i) = 0x10 ∨ codeKind (s.srcCode i) = 0x11 ∨ codeKind (s.srcCode i) = 0x12) :
    ((releaseSource s i).cva.sup.at (codeUnit (s.srcCode i) % 64)).want = true
      ∧ ((releaseSource s i).cva.sup.at (codeUnit (s.srcCode i) % 64)).probation = true := by
  rw [(releaseSource_kept s i).sup, sourceIdled, ceaseEvent_cva]
  exact askProbation_sup _ _ _ h

section

variable {s i} {k : Nat} (hk : k < 4)
  (hshut : (reactionsOf s (codeKind (s.srcCode i)) (codeUnit (s.srcCode i))).shut.testBit k = true)
  (hquiet : ((releaseSource s i).fld Fld.FLT_QUIET_SHUT).testBit k = false) (hen : s.fld (Fld.CVA_FACET_CFG_EN k) = 1)

include hk

theorem releaseSource_stat (g : Fld) (hg : g.reg = Reg.CVA_FACET_STAT k) : (releaseSource s i).fld g =
    (restartFacet (codeKind (s.srcCode i)) (reactionsOf s (codeKind (s.srcCode i)) (codeUnit (s.srcCode i)))
      (refreshHub (sourceIdled s i)) k).fld g := by
  rw [State.fld, hg, releaseSource_eq_restart, restartFacets_stat _ _ _ List.nodup_range (List.mem_range.2 hk), State.fld, hg]

theorem refreshHub_sourceIdled_cfg : (refreshHub (sourceIdled s i)).fld (Fld.CVA_FACET_CFG_EN k) = s.fld (Fld.CVA_FACET_CFG_EN k) :=
  ((refreshHub_kept _).fld _ (facetCfg_not_mem_reactionRegs hk)).trans (sourceIdled_fld s i _ (by simp; omega))

include hshut hquiet hen

theorem releaseSource_ready (hkind : codeKind (s.srcCode i) ≠ 0x18) :
    (releaseSource s i).fld (Fld.CVA_FACET_STAT_READY k) = 1 := by
  rw [(releaseSource_onlyRegs s i).1.fld _ (by decide)] at hquiet
  rw [releaseSource_stat hk _ rfl]
  exact restartFacet_ready hshut hquiet ((refreshHub_sourceIdled_cfg hk).trans hen) hkind

theorem releaseSource_fgcal (hi : i < 64) (hkind : codeKind (s.srcCode i) = 0x18) :
    (releaseSource s i).fld (Fld.CVA_FACET_STAT_FGCAL_BUSY k) = s.rcsLocked.toNat := by
  rw [(releaseSource_onlyRegs s i).1.fld _ (by decide)] at hquiet
  have hlocked : (refreshHub (sourceIdled s i)).rcsLocked = s.rcsLocked := by
    rw [State.rcsLocked, (refreshHub_kept _).fld _, sourceIdled_fld _ _ _ (by simp; omega), State.rcsLocked]
  rw [releaseSource_stat hk _ rfl, restartFacet_fgcal hshut hquiet ((refreshHub_sourceIdled_cfg hk).trans hen) hkind, hlocked]

end

end

end Sys2Proof.Machine
end

section
/-! The commands of the Fault Hub: recovery and lockout (R494, R496), clears (R497), the log (R502), the host watchdog (R575), and
the return of a failed unit (R490). -/

namespace Sys2Proof.Machine

/-! ### Recovery and lockout (R494 to R496) -/

section

variable (s : State) (i : Fin 64)

theorem exec_sourceRecover :
    exec (.sourceRecover i) s = if s.mayRecover i then .next (recoverSource s i) else .next s := (rfl)

theorem mayRecover_iff : s.mayRecover i = true ↔ s.srcState i = 1 ∧ (s.flt.src.at i).cond = false
    ∧ (s.flt.src.at i).last + max 1 (min 60000 (s.fld Fld.FLT_CTRL_QUIET_PERIOD)) * 800000 ≤ s.time.now
    ∧ s.flt.fullReset = false := by
  simp only [State.mayRecover, Bool.and_eq_true, beq_iff_eq, Bool.not_eq_true', decide_eq_true_eq, and_assoc]
  rw [State.quietPeriod]

theorem sourceRecover_waits (h : s.mayRecover i ≠ true) : exec (.sourceRecover i) s = .next s := by
  rw [exec_sourceRecover, if_neg h]

/-- The entry LATCHED in place of a ninth recovery (R496). -/
def lockedOut (s : State) (i : Nat) : State := (s.setFld (Fld.FLT_SRC_STAT_STATE i) 2).bump Fld.FLT_CNT0_LATCHES

theorem lockedOut_srcState : (lockedOut s i).srcState i = 2 := by
  rw [State.srcState, lockedOut, State.fld_bump_ne _ _ _ _ (.inl (by simp; omega))]
  exact (setSrcState_srcState s i 2 i).trans (if_pos rfl)

theorem lockedOut_latches : (lockedOut s i).fld Fld.FLT_CNT0_LATCHES = min (s.fld Fld.FLT_CNT0_LATCHES + 1) 65535 := by
  rw [lockedOut, State.fld_bump _ _ _ (by simp), State.fld_setFld_ne _ _ _ _ (.inl (by simp; omega))]
  rfl

theorem lockedOut_recoveries : (lockedOut s i).fld Fld.FLT_CNT0_RECOVERIES = s.fld Fld.FLT_CNT0_RECOVERIES := by
  rw [lockedOut, State.fld_bump_ne _ _ _ _ (by simp), State.fld_setFld_ne _ _ _ _ (.inl (by simp; omega))]

theorem lockedOut_src : (lockedOut s i).flt.src = s.flt.src := by simp [lockedOut]

theorem sourceRecover_latches (hmay : s.mayRecover i = true) (hnine : 8 ≤ (s.recentRecov i).length) :
    Completes (.sourceRecover i) s fun t => t.srcState i = 2
      ∧ t.fld Fld.FLT_CNT0_LATCHES = min (s.fld Fld.FLT_CNT0_LATCHES + 1) 65535
      ∧ t.fld Fld.FLT_CNT0_RECOVERIES = s.fld Fld.FLT_CNT0_RECOVERIES ∧ t.flt.src = s.flt.src := by
  have hexec : exec (.sourceRecover i) s = .next (settle s (refreshHub (lockedOut s i))) := by
    rw [exec_sourceRecover, if_pos hmay, recoverSource, if_pos hnine, lockedOut]
  have hkept := settle_refreshHub_kept (lockedOut s i) s
  exact .intro hexec ⟨(hkept.srcState i.isLt).trans (lockedOut_srcState s i), (hkept.fld _).trans (lockedOut_latches s i),
    (hkept.fld _).trans (lockedOut_recoveries s i),
    hkept.src.trans (lockedOut_src s i)⟩

/-- The entry released, its recovery recorded and counted (R494). -/
def recovered (s : State) (i : Nat) : State :=
  ((releaseSource s i).updSrc i (fun e => { e with recov := s.time.now :: s.recentRecov i })).bump Fld.FLT_CNT0_RECOVERIES

theorem recovered_fld (g : Fld) (hg : g.reg ≠ Reg.FLT_CNT0) : (recovered s i).fld g = (releaseSource s i).fld g :=
  State.fld_bump_ne _ _ _ _ (.inl hg)

theorem recovered_srcState {j : Nat} (hj : j < 64) : (recovered s i).srcState j = if j = i then 0 else s.srcState j :=
  (recovered_fld s i _ (by simp; omega)).trans (releaseSource_srcState s i hj)

theorem recovered_recoveries : (recovered s i).fld Fld.FLT_CNT0_RECOVERIES = min (s.fld Fld.FLT_CNT0_RECOVERIES + 1) 65535 := by
  rw [recovered, State.fld_bump _ _ _ (by simp), State.updSrc_fld, releaseSource_fld s i _ (by simp; omega)]
  rfl

theorem recovered_cva : (recovered s i).cva = (releaseSource s i).cva := by simp [recovered]

theorem recovered_isRaised (num info : Nat) : (recovered s i).isRaised num info = (releaseSource s i).isRaised num info := by
  simp [State.isRaised, recovered]

theorem recovered_recov : ((recovered s i).flt.src.at i).recov = s.time.now :: s.recentRecov i := by
  rw [recovered, State.bump_flt, State.updSrc_at, if_pos rfl]

/-- Settling leaves the facets what the release gave them. -/
theorem settle_recovered_facet {k : Nat} (hk : k < 4) (g : Fld) (hg : g.reg = Reg.CVA_FACET_STAT k) :
    (settle s (recovered s i)).fld g = (releaseSource s i).fld g := by
  rw [(settle_settled s _).sameRegs.fld g (hg ▸ facetStat_not_mem_settleRegs hk), recovered_fld s i g (by simp [hg]; omega)]

theorem sourceRecover_recovers (hmay : s.mayRecover i = true) (hfew : (s.recentRecov i).length < 8) :
    Completes (.sourceRecover i) s fun t => t = settle s (recovered s i) ∧ t.srcState i = 0
      ∧ t.fld Fld.FLT_CNT0_RECOVERIES = min (s.fld Fld.FLT_CNT0_RECOVERIES + 1) 65535
      ∧ (t.flt.src.at i).recov = s.time.now :: s.recentRecov i ∧ t.isRaised 0 (s.srcCode i) = false
      ∧ ∀ j, j ≠ i.val → j < 64 → t.srcState j = s.srcState j := by
  have hexec : exec (.sourceRecover i) s = .next (settle s (recovered s i)) := by
    rw [exec_sourceRecover, if_pos hmay, recoverSource, if_neg (by omega), recovered]
  have hkept := settle_kept (recovered s i) s
  refine .intro hexec ⟨rfl, ?_, (hkept.fld _).trans (recovered_recoveries s i), ?_, ?_, fun j hne hj => ?_⟩
  · rw [hkept.srcState i.isLt, recovered_srcState s i i.isLt, if_pos rfl]
  · rw [hkept.src, recovered_recov]
  · rw [hkept.isRaised, recovered_isRaised, releaseSource_isRaised]
  · rw [hkept.srcState hj, recovered_srcState s i hj, if_neg hne]

theorem settle_recovered_sup (h : codeKind (s.srcCode i) = 0x10 ∨ codeKind (s.srcCode i) = 0x11 ∨ codeKind (s.srcCode i) = 0x12) :
    ((settle s (recovered s i)).cva.sup.at (codeUnit (s.srcCode i) % 64)).want = true
      ∧ ((settle s (recovered s i)).cva.sup.at (codeUnit (s.srcCode i) % 64)).probation = true := by
  rw [(settle_kept _ s).sup, recovered_cva]
  exact releaseSource_sup s i h

theorem settle_recovered_restarts {k : Nat} (hk : k < 4)
    (hshut : (reactionsOf s (codeKind (s.srcCode i)) (codeUnit (s.srcCode i))).shut.testBit k = true)
    (hquiet : ((settle s (recovered s i)).fld Fld.FLT_QUIET_SHUT).testBit k = false) (hen : s.fld (Fld.CVA_FACET_CFG_EN k) = 1) :
    (codeKind (s.srcCode i) ≠ 0x18 → (settle s (recovered s i)).fld (Fld.CVA_FACET_STAT_READY k) = 1)
      ∧ (codeKind (s.srcCode i) = 0x18 →
        (settle s (recovered s i)).fld (Fld.CVA_FACET_STAT_FGCAL_BUSY k) = if s.rcsLocked then 1 else 0) := by
  rw [(settle_settled s _).fld _, recovered_fld s i _ (by decide)] at hquiet
  rw [settle_recovered_facet s i hk _ rfl, settle_recovered_facet s i hk _ rfl]
  refine ⟨releaseSource_ready hk hshut hquiet hen, fun hkind => ?_⟩
  rw [releaseSource_fgcal hk hshut hquiet hen i.isLt hkind, Bool.toNat, Bool.cond_eq_ite]

end

/-! ### Clears (R483, R497) -/

section

variable (s : State)

theorem exec_fltClearOne (i : Fin 64) : exec (.fltClearOne i) s = .next (settle s (clearSource s i)) := (rfl)

theorem clearSource_latched {i : Nat} (h : s.srcState i = 2) :
    clearSource s i = (releaseSource s i).updSrc i (fun e => { e with recov := [] }) := if_pos (by simp [h])

theorem clearSource_other {i : Nat} (h : s.srcState i ≠ 2) : clearSource s i = s := if_neg (by simp [h])

theorem clearSource_srcState (i : Nat) {j : Nat} (hj : j < 64) :
    (clearSource s i).srcState j = if j = i ∧ s.srcState j = 2 then 0 else s.srcState j := by
  by_cases h : s.srcState i = 2
  · rw [clearSource_latched s h, State.updSrc_srcState, releaseSource_srcState s i hj]
    by_cases hji : j = i <;> simp [hji, h]
  · rw [clearSource_other s h, if_neg]
    rintro ⟨rfl, h'⟩
    exact h h'

theorem fltClearOne_clears (i : Fin 64) (h : s.srcState i = 2) : Completes (.fltClearOne i) s fun t => t.srcState i = 0
    ∧ (t.flt.src.at i).recov = [] ∧ t.isRaised 0 (s.srcCode i) = false
    ∧ t.fld Fld.FLT_CNT0_RECOVERIES = s.fld Fld.FLT_CNT0_RECOVERIES
    ∧ ∀ j, j ≠ i.val → j < 64 → t.srcState j = s.srcState j := by
  have hkept := settle_kept (clearSource s i) s
  refine .intro (exec_fltClearOne s i) ⟨?_, ?_, ?_, ?_, fun j hne hj => ?_⟩
  · rw [hkept.srcState i.isLt, clearSource_srcState s i i.isLt, if_pos ⟨rfl, h⟩]
  · rw [hkept.src, clearSource_latched s h, State.updSrc_at, if_pos rfl]
  · rw [hkept.isRaised, clearSource_latched s h, State.updSrc_isRaised, releaseSource_isRaised]
  · rw [hkept.fld _, clearSource_latched s h, State.updSrc_fld, releaseSource_fld s i _ (by simp; omega)]
  · rw [hkept.srcState hj, clearSource_srcState s i hj, if_neg fun hc => hne hc.1]

theorem fltClearOne_stays (i : Fin 64) (h : s.srcState i ≠ 2) : Completes (.fltClearOne i) s fun t => t.flt = s.flt
    ∧ t.fpe = s.fpe ∧ ∀ a, a / 2 ^ 24 ≠ 9 → a / 2 ^ 24 ≠ 15 → t.rd a = s.rd a := by
  have hset := settle_settled s s
  refine .intro ((exec_fltClearOne s i).trans (by rw [clearSource_other s h])) ⟨?_, hset.fpe, fun a h9 h15 => hset.rd h9 h15⟩
  obtain ⟨r, w, m, heq⟩ := hset.rest
  rw [heq]

/-- The first n entries are cleared where they are LATCHED. -/
theorem clearSources_srcState (n : Nat) {j : Nat} (hj : j < 64) :
    ((List.range n).foldl clearSource s).srcState j = if j < n ∧ s.srcState j = 2 then 0 else s.srcState j := by
  induction n with
  | zero => simp
  | succ n ih =>
    rw [List.range_succ, List.foldl_append, List.foldl_cons, List.foldl_nil, clearSource_srcState _ n hj, ih]
    by_cases hn : j = n
    · subst hn
      simp only [Nat.lt_irrefl, Nat.lt_add_one, true_and, false_and, if_false]
    · have hlt : j < n + 1 ↔ j < n := by omega
      simp only [hlt, hn, false_and, if_false]

/-- Every LATCHED entry cleared, and the reactions without an entry ended. -/
def allCleared (s : State) : State :=
  let t := (List.range 64).foldl clearSource s
  { t with flt := { t.flt with overflow := [] } }

theorem exec_fltClearAll : exec .fltClearAll s = .next (settle s (refreshHub (allCleared s))) := (rfl)

theorem fltClearAll_clears : Completes .fltClearAll s fun t => t.flt.overflow = []
    ∧ ∀ i, i < 64 → t.srcState i = if s.srcState i = 2 then 0 else s.srcState i := by
  have hkept := settle_refreshHub_kept (allCleared s) s
  refine .intro (exec_fltClearAll s) ⟨hkept.overflow, fun i hi => ?_⟩
  have hstate : (allCleared s).srcState i = ((List.range 64).foldl clearSource s).srcState i := State.srcState_congr rfl i
  rw [hkept.srcState hi, hstate, clearSources_srcState s 64 hi]
  simp [hi]

end

/-! ### The host watchdog (R501, R575) -/

section

variable (s : State)

@[simp] theorem endCondition_regs (kind unit : Nat) : (endCondition s kind unit).regs = s.regs := (endCondition_keeps s kind unit).1

@[simp] theorem endCondition_hostFrom (kind unit : Nat) : (endCondition s kind unit).flt.hostFrom = s.flt.hostFrom := by
  unfold endCondition
  split
  · rfl
  · rfl

theorem endCondition_cond {kind unit i : Nat} (h : s.knownEntry (faultCode s kind unit) = some i) :
    ((endCondition s kind unit).flt.src.at i).cond = false := by
  simp [endCondition, h]

/-- HOST_LOST is CONTAINED whatever its quiet. -/
theorem faultCode_hostLost (t : State) : faultCode t 0x44 0 = faultCode s 0x44 0 := (rfl)

/-- A write outside the source table leaves the entry of a code where it is. -/
theorem knownEntry_writeRw {a : Nat} (ha : ∀ i, i < 64 → a ≠ Reg.FLT_SRC_CODE i) (v : Word) (code : Nat) :
    (s.writeRw a v).knownEntry code = s.knownEntry code := by
  have hcode (i : Nat) (hi : i ∈ List.range 64) : (s.writeRw a v).srcCode i = s.srcCode i :=
    State.fld_writeRw_ne _ _ _ _ (ha i (List.mem_range.1 hi)).symm
  rw [State.knownEntry, State.knownEntry, ← List.head?_filter, ← List.head?_filter,
    List.filter_congr fun i hi => by rw [hcode i hi]]

/-- The RW bits of FLT_HOST: EN, QUIET and TO. -/
theorem accessBits_fltHost : accessBits (fun t => t == .rw) Reg.FLT_HOST = 0xC000FFFF := by decide

/-- A field that is RW throughout reads as written. -/
theorem fltHost_written (v : Word) (g : Fld) (hreg : g.reg = Reg.FLT_HOST)
    (hrw : ∀ i, i < g.width → (0xC000FFFF : Nat).testBit (i + g.lo) = true) (hle : g.lo + g.width ≤ 32) :
    (s.writeRw Reg.FLT_HOST v).fld g = fieldOf g.lo g.width v := by
  rw [← hreg]
  exact State.fld_writeRw s g v (fun i hi => by rw [hreg, accessBits_fltHost, hrw i hi]) hle

theorem fltHost_en (v : Word) : (s.writeRw Reg.FLT_HOST v).fld Fld.FLT_HOST_EN = v.toNat / 2 ^ 31 := by
  rw [fltHost_written s v _ rfl (by decide) (by decide)]
  exact Nat.mod_eq_of_lt (by have := v.isLt; simp; omega)

/-- FLT_HOST written: the count starts again, or stops and HOST_LOST ends. -/
def hostWritten (s : State) (v : Word) : State :=
  let t := s.writeRw Reg.FLT_HOST v
  if t.on Fld.FLT_HOST_EN then t.setHostFrom (some s.time.now) else (endCondition t 0x44 0).setHostFrom none

theorem exec_fltHostWrite (v : Word) : exec (.fltHostWrite v) s = .next (settle s (refreshHub (hostWritten s v))) := (rfl)

theorem hostWritten_regs (v : Word) : (hostWritten s v).regs = (s.writeRw Reg.FLT_HOST v).regs := by
  unfold hostWritten
  extract_lets t
  split
  · exact State.setHostFrom_regs t _
  · rw [State.setHostFrom_regs, endCondition_regs]

theorem fltHost_on (v : Word) : (s.writeRw Reg.FLT_HOST v).on Fld.FLT_HOST_EN = true ↔ 2 ^ 31 ≤ v.toNat := by
  have := v.isLt
  rw [State.on_eq_true, fltHost_en]
  omega

theorem hostWritten_starts (v : Word) (h : 2 ^ 31 ≤ v.toNat) :
    hostWritten s v = (s.writeRw Reg.FLT_HOST v).setHostFrom (some s.time.now) := if_pos ((fltHost_on s v).2 h)

theorem hostWritten_stops (v : Word) (h : v.toNat < 2 ^ 31) :
    hostWritten s v = (endCondition (s.writeRw Reg.FLT_HOST v) 0x44 0).setHostFrom none :=
  if_neg (mt (fltHost_on s v).1 (by omega))

theorem fltHostWrite_writes (v : Word) :
    Completes (.fltHostWrite v) s fun t => t.fld Fld.FLT_HOST_EN = v.toNat / 2 ^ 31
      ∧ t.fld Fld.FLT_HOST_QUIET = v.toNat / 2 ^ 30 % 2 ∧ t.fld Fld.FLT_HOST_TO = v.toNat % 2 ^ 16
      ∧ (2 ^ 31 ≤ v.toNat → t.flt.hostFrom = some s.time.now ∧ t.flt.src = s.flt.src)
      ∧ (v.toNat < 2 ^ 31 → t.flt.hostFrom = none
        ∧ ∀ i, s.knownEntry (faultCode s 0x44 0) = some i → (t.flt.src.at i).cond = false)
      ∧ ∀ j, j < 64 → t.srcState j = s.srcState j := by
  have hkept := settle_refreshHub_kept (hostWritten s v) s
  have hfld (g : Fld) := State.fld_congr (hostWritten_regs s v) g
  refine .intro (exec_fltHostWrite s v) ⟨?_, ?_, ?_, fun hrun => ?_, fun hstop => ?_, fun j hj => ?_⟩
  · rw [hkept.fld _, hfld, fltHost_en]
  · rw [hkept.fld _, hfld, fltHost_written s v _ rfl (by decide) (by decide)]
    rfl
  · rw [hkept.fld _, hfld, fltHost_written s v _ rfl (by decide) (by decide), fieldOf, Nat.pow_zero, Nat.div_one]
  · rw [hkept.hostFrom, hkept.src, hostWritten_starts s v hrun, State.setHostFrom_src, State.setHostFrom_hostFrom,
      State.writeRw_flt]
    exact ⟨rfl, rfl⟩
  · rw [hkept.hostFrom, hkept.src, hostWritten_stops s v hstop, State.setHostFrom_src, State.setHostFrom_hostFrom]
    refine ⟨rfl, fun i hi => endCondition_cond _ ?_⟩
    rw [knownEntry_writeRw s (by simp; omega), faultCode_hostLost s]
    exact hi
  · rw [hkept.srcState hj, State.srcState, hfld, State.fld_writeRw_ne _ _ _ _ (by simp; omega), State.srcState]

/-- The watchdog kicked: HOST_LOST ends, and the count starts again where it is enabled. -/
theorem exec_hostWatchdogKick : exec .hostWatchdogKick s = .next (if (endCondition s 0x44 0).on Fld.FLT_HOST_EN then
    (endCondition s 0x44 0).setHostFrom (some s.time.now) else endCondition s 0x44 0) := (rfl)

theorem hostWatchdogKick_kicks : Completes .hostWatchdogKick s fun t => t.regs = s.regs
    ∧ t.flt.hostFrom = (if s.fld Fld.FLT_HOST_EN = 1 then some s.time.now else s.flt.hostFrom)
    ∧ ∀ i, s.knownEntry (faultCode s 0x44 0) = some i → (t.flt.src.at i).cond = false := by
  have hregs := endCondition_regs s 0x44 0
  have hon : (endCondition s 0x44 0).on Fld.FLT_HOST_EN = true ↔ s.fld Fld.FLT_HOST_EN = 1 := by
    rw [State.on_bit _ _ rfl, State.fld_congr hregs]
  refine .intro (exec_hostWatchdogKick s) ?_
  by_cases hen : s.fld Fld.FLT_HOST_EN = 1
  · rw [if_pos (hon.2 hen), if_pos hen]
    exact ⟨hregs, rfl, fun i => endCondition_cond s⟩
  · rw [if_neg (mt hon.1 hen), if_neg hen]
    exact ⟨hregs, endCondition_hostFrom s _ _, fun i => endCondition_cond s⟩

theorem exec_hostWatchdogExpire_running {f : Nat} (hfrom : s.flt.hostFrom = some f) : exec .hostWatchdogExpire s =
    if f + s.hostTimeout ≤ s.time.now then .next (reportCondition (s.setHostFrom none) 0x44 0) else .next s := by
  show execHostWatchdogExpire s = _
  rw [execHostWatchdogExpire, hfrom]

theorem hostWatchdogExpire_stopped (hfrom : s.flt.hostFrom = none) : exec .hostWatchdogExpire s = .next s := by
  show execHostWatchdogExpire s = _
  rw [execHostWatchdogExpire, hfrom]

theorem hostWatchdogExpire_due {f : Nat} (hfrom : s.flt.hostFrom = some f)
    (hdue : f + max 1 (s.fld Fld.FLT_HOST_TO) * 800000 ≤ s.time.now) :
    exec .hostWatchdogExpire s = .next (reportCondition (s.setHostFrom none) 0x44 0) :=
  (exec_hostWatchdogExpire_running s hfrom).trans (if_pos hdue)

theorem hostWatchdogExpire_early {f : Nat} (hfrom : s.flt.hostFrom = some f)
    (hearly : s.time.now < f + max 1 (s.fld Fld.FLT_HOST_TO) * 800000) : exec .hostWatchdogExpire s = .next s :=
  (exec_hostWatchdogExpire_running s hfrom).trans (if_neg (Nat.not_le.2 hearly))

end

/-! ### The log (R502) -/

theorem fltLogPop_pops (s : State) : Completes .fltLogPop s fun t =>
    t.flt.log = s.flt.log.drop 1 ∧ t.flt.src = s.flt.src ∧ t.regs = s.regs := ⟨_, rfl, rfl, rfl, rfl⟩

/-! ### A failed unit comes back (R490) -/

section

variable (s : State) (n : Fin 4)

theorem State.setYBit_testBit (f : Fld) (n j : Nat) (b : Bool) (hf : f.lo + f.width ≤ 32) :
    ((s.setYBit f n b).fld f).testBit j = (decide (j < f.width) && if j = n then b else (s.fld f).testBit j) := by
  rw [State.setYBit, State.testBit_fld_setFld _ _ _ _ hf, testBit_putBit]

/-- A core that is set to run shows RUN. -/
theorem runCore_run : ((runCore s n true).fld Fld.DSP_CTRL_RUN).testBit n = true := by
  have hset : ((s.setYBit Fld.DSP_CTRL_RUN n true).fld Fld.DSP_CTRL_RUN).testBit n = true := by
    rw [State.setYBit_testBit _ _ _ _ _ (by simp)]
    simp [n.isLt]
  unfold runCore
  extract_lets t
  rw [if_pos rfl]
  split
  · exact (congrArg (·.testBit n) (State.fld_setFld_ne t Fld.DSP_STATUS_HALTED Fld.DSP_CTRL_RUN _ (by simp))).trans hset
  · exact hset

theorem runCore_reload : (runCore s n true).dsp.reload = s.dsp.reload := by
  unfold runCore
  extract_lets t
  rw [if_pos rfl]
  split
  · rfl
  · rfl

/-- The reload of core n is over. -/
def reloadEnded (s : State) (n : Nat) : State := { s with dsp := { s.dsp with reload := putBit s.dsp.reload n false } }

theorem exec_subsystemReinitDone_core : exec (.subsystemReinitDone false n) s = if !s.dsp.reload.testBit n then .next s else
    .next (runCore (reloadEnded (reloadSections s (fun x => x.typ == 3 && x.index == n.val)) n) n true) := (rfl)

theorem subsystemReinitDone_core (h : s.dsp.reload.testBit n = true) : Completes (.subsystemReinitDone false n) s fun t =>
    t.dsp.reload.testBit n = false ∧ (t.fld Fld.DSP_CTRL_RUN).testBit n = true := by
  refine .intro ((exec_subsystemReinitDone_core s n).trans (if_neg (by simp [h]))) ⟨?_, runCore_run _ n⟩
  rw [runCore_reload, reloadEnded, testBit_putBit, if_pos rfl]

theorem subsystemReinitDone_stays (h : s.dsp.reload.testBit n = false) : exec (.subsystemReinitDone false n) s = .next s := by
  rw [exec_subsystemReinitDone_core, if_pos (by simp [h])]

theorem resetEngine_ctrl (e : Nat) (g : Fld) (hg : g.reg = Reg.CLS_CE_CTRL e) : (resetEngine s e).fld g = s.fld g := by
  unfold resetEngine
  extract_lets u pending slot
  rw [State.fld_setFld_ne _ _ _ _ (by simp [hg]), State.fld_setFld_ne _ _ _ _ (by simp [hg]),
    State.fld_setFld_ne _ _ _ _ (by simp [hg])]
  exact State.fld_congr (t := u) rfl g

/-- RUN of CE1 to CE3 shows what was written, whatever else the write starts, stops or resets. -/
theorem writeCeCtrl_run {e : Nat} (he : e ≠ 0) (v : Word) :
    (writeCeCtrl s e v).fld (Fld.CLS_CE_CTRL_RUN e) = (v.getLsbD 31).toNat := by
  unfold writeCeCtrl
  rw [if_neg he]
  extract_lets was run st shown moved
  have hshown : shown.fld (Fld.CLS_CE_CTRL_RUN e) = run.toNat := State.fld_flag _ _ _ (by simp) (by simp)
  have hstate (u : State) (n : Nat) :
      (u.setFld (Fld.CLS_CE_STAT_STATE e) n).fld (Fld.CLS_CE_CTRL_RUN e) = u.fld (Fld.CLS_CE_CTRL_RUN e) :=
    State.fld_setFld_ne _ _ _ _ (.inl (by simp))
  have hce (u : State) (f : CeState → CeState) : (u.updCe e f).fld (Fld.CLS_CE_CTRL_RUN e) = u.fld (Fld.CLS_CE_CTRL_RUN e) :=
    State.fld_congr rfl _
  have hmoved : moved.fld (Fld.CLS_CE_CTRL_RUN e) = run.toNat := by
    unfold moved
    split
    · rw [hstate, hce, hshown]
    · split
      · rw [hce, hstate, hshown]
      · exact hshown
  split
  · rw [hce, resetEngine_ctrl _ _ _ rfl, hmoved]
  · exact hmoved

theorem exec_subsystemReinitDone_engine : exec (.subsystemReinitDone true n) s = if n.val = 0 then .next s else
    let t := reloadSections s (fun x => (x.typ == 1 || x.typ == 2) && x.index == n.val)
    .next (writeCeCtrl t n (t.rd (Reg.CLS_CE_CTRL n) ||| 0x80000000)) := (rfl)

theorem subsystemReinitDone_engine (hn : n.val ≠ 0) : Completes (.subsystemReinitDone true n) s fun t =>
    t.fld (Fld.CLS_CE_CTRL_RUN n) = 1 := by
  refine .intro ((exec_subsystemReinitDone_engine s n).trans (if_neg hn)) ?_
  rw [writeCeCtrl_run _ hn]
  simp

theorem subsystemReinitDone_ce0 (hn : n.val = 0) : exec (.subsystemReinitDone true n) s = .next s := by
  rw [exec_subsystemReinitDone_engine, if_pos hn]

end

end Sys2Proof.Machine
end

section
/-! O50: sources recover, latch and are cleared, the log is popped, the host watchdog runs and expires, failed units come back. -/

namespace Sys2Proof.Machine

/-- Settles O50: each clause by the lemma of its command. -/
theorem sourcesRecoverLatchAndClear : Obligations.SourcesRecoverLatchAndClear := by
  unfold Obligations.SourcesRecoverLatchAndClear
  refine ⟨?recover, fun s i => ⟨fltClearOne_clears s i, fltClearOne_stays s i⟩, fltClearAll_clears, fltHostWrite_writes,
    hostWatchdogKick_kicks, ?expire, fltLogPop_pops, fun s n => ⟨subsystemReinitDone_core s n, subsystemReinitDone_stays s n,
      subsystemReinitDone_engine s n, subsystemReinitDone_ce0 s n⟩⟩
  case recover =>
    intro s i r e code kind period may
    have hmay : s.mayRecover i = true ↔ may := mayRecover_iff s i
    refine ⟨fun hnot => sourceRecover_waits s i (mt hmay.1 hnot), fun h => sourceRecover_latches s i (hmay.2 h),
      fun h hfew => ?_⟩
    obtain ⟨t, hexec, rfl, hidle, hcount, hrecov, hceased, hothers⟩ := sourceRecover_recovers s i (hmay.2 h) hfew
    exact ⟨_, hexec, hidle, hcount, hrecov, hceased, hothers, settle_recovered_sup s i,
      fun k hk hshut hquiet hen => settle_recovered_restarts s i hk hshut hquiet hen⟩
  case expire =>
    intro s w
    refine ⟨fun f hfrom hdue => ⟨s.setHostFrom none, hostWatchdogExpire_due s hfrom hdue, rfl⟩, ?_⟩
    rintro (hstopped | ⟨f, hfrom, hearly⟩)
    · exact hostWatchdogExpire_stopped s hstopped
    · exact hostWatchdogExpire_early s hfrom hearly

end Sys2Proof.Machine
end

section
/-! The flash as bytes and numbers (R507, R522): what its bytes read as after a write, and numbers as bytes, most significant
first. -/

namespace Sys2Proof.Machine

/-- Induction over a list from its front: bytes are written, and digits read, in this order. -/
theorem appendInduction {α : Type} {motive : List α → Prop} (nil : motive [])
    (append : ∀ l b, motive l → motive (l ++ [b])) (l : List α) : motive l := by
  have hrev : ∀ r : List α, motive r.reverse := fun r => by
    induction r with
    | nil => exact nil
    | cons b r ih =>
      rw [List.reverse_cons]
      exact append _ b ih
  have h := hrev l.reverse
  rwa [List.reverse_reverse] at h

/-! ### Bytes after a write -/

theorem putFlash_append_singleton (m : SMap Byte) (a : Nat) (l : List Byte) (b : Byte) :
    putFlash m a (l ++ [b]) = mapSet (fun _ => 0xFF) (putFlash m a l) (a + l.length) b := by
  simp [putFlash, List.range_succ, List.zip_append]

/-- The bytes written read back, and every other byte reads as before. -/
theorem mapGet_putFlash (m : SMap Byte) (a x : Nat) (l : List Byte) : mapGet (fun _ => 0xFF) (putFlash m a l) x =
    if a ≤ x then l[x - a]?.getD (mapGet (fun _ => 0xFF) m x) else mapGet (fun _ => 0xFF) m x := by
  induction l using appendInduction with
  | nil => simp [putFlash]
  | append l b ih =>
    rw [putFlash_append_singleton, mapGet_set, ih]
    by_cases hx : x = a + l.length
    · simp [hx]
    · rw [if_neg hx]
      refine ite_congr rfl (fun ha => ?_) fun _ => rfl
      have hlast : ¬x - a = l.length := by omega
      rw [List.getElem?_append]
      split
      · rfl
      · rw [List.getElem?_eq_none (l := l) (by omega), List.getElem?_eq_none (by simp; omega)]

section

variable (s : State) (a : Nat)

@[simp] theorem State.flBytes_length (n : Nat) : (s.flBytes a n).length = n := by simp [State.flBytes]

theorem State.flBytes_getElem {n i : Nat} (hi : i < (s.flBytes a n).length) :
    (s.flBytes a n)[i] = mapGet (fun _ => 0xFF) s.boot.flash (a + i) := by simp [State.flBytes]

theorem State.flBytes_congr {s t : State} (h : t.boot.flash = s.boot.flash) (n : Nat) : t.flBytes a n = s.flBytes a n := by
  simp [State.flBytes, h]

/-- A part of some bytes of the flash. -/
theorem State.flBytes_take_drop {k m n : Nat} (h : k + n ≤ m) : ((s.flBytes a m).drop k).take n = s.flBytes (a + k) n := by
  refine List.ext_getElem (by simp; omega) fun i hi hi' => ?_
  simp [State.flBytes, Nat.add_assoc]

@[simp] theorem writeFlash_regs (l : List Byte) : (writeFlash s a l).regs = s.regs := (rfl)
@[simp] theorem writeFlash_flash (l : List Byte) : (writeFlash s a l).boot.flash = putFlash s.boot.flash a l := (rfl)

/-- Bytes inside those written. -/
theorem writeFlash_flBytes {l : List Byte} {k n : Nat} (h : k + n ≤ l.length) :
    (writeFlash s a l).flBytes (a + k) n = (l.drop k).take n := by
  refine List.ext_getElem (by simp; omega) fun i hi hi' => ?_
  have hin : k + i < l.length := by simp at hi; omega
  have hoff : a + k + i - a = k + i := by omega
  rw [State.flBytes_getElem, writeFlash_flash, mapGet_putFlash, if_pos (by omega), hoff, List.getElem?_eq_getElem hin]
  simp

/-- Bytes outside those written. -/
theorem writeFlash_flBytes_ne {l : List Byte} {x n : Nat} (h : x + n ≤ a ∨ a + l.length ≤ x) :
    (writeFlash s a l).flBytes x n = s.flBytes x n := by
  refine List.map_congr_left fun i hi => ?_
  rw [List.mem_range] at hi
  rw [writeFlash_flash, mapGet_putFlash]
  split
  · rw [List.getElem?_eq_none (by omega), Option.getD_none]
  · rfl

/-- An erased byte reads 0xFF (R507). -/
theorem writeFlash_erased {i n : Nat} (h : i < n) : (writeFlash s a (List.replicate n 0xFF)).flBytes (a + i) 1 = [0xFF] := by
  rw [writeFlash_flBytes s a (by rw [List.length_replicate]; omega), List.drop_replicate, List.take_replicate,
    Nat.min_eq_left (by omega), List.replicate_one]

end

/-! ### Numbers as bytes -/

theorem ofBytes_append_singleton (l : List Nat) (b : Nat) : ofBytes (l ++ [b]) = ofBytes l * 256 + b % 256 := by
  simp [ofBytes]

theorem ofBytes_lt (l : List Nat) : ofBytes l < 256 ^ l.length := by
  induction l using appendInduction with
  | nil => simp [ofBytes]
  | append l b ih =>
    rw [ofBytes_append_singleton, List.length_append, List.length_singleton, Nat.pow_succ]
    omega

theorem bytesOf_succ (n k : Nat) : bytesOf n (k + 1) = bytesOf (n / 256) k ++ [n % 256] := by
  rw [bytesOf, List.range_succ, List.map_append, List.map_singleton, bytesOf]
  have hlast : n / 256 ^ (k + 1 - 1 - k) % 256 = n % 256 := by
    rw [Nat.add_sub_cancel, Nat.sub_self, Nat.pow_zero, Nat.div_one]
  rw [hlast]
  refine congrArg (· ++ [n % 256]) (List.map_congr_left fun i hi => ?_)
  have hexp : k + 1 - 1 - i = k - 1 - i + 1 := by rw [List.mem_range] at hi; omega
  rw [hexp, Nat.pow_succ', Nat.div_div_eq_div_mul]

@[simp] theorem beBytes_length (n k : Nat) : (beBytes n k).length = k := by simp [beBytes, bytesOf]

/-- A number reads back from its bytes. -/
theorem ofBytes_beBytes (n k : Nat) : ofBytes ((beBytes n k).map (·.toNat)) = n % 256 ^ k := by
  induction k generalizing n with
  | zero => simp [beBytes, bytesOf, ofBytes, Nat.mod_one]
  | succ k ih =>
    unfold beBytes at ih ⊢
    rw [bytesOf_succ, List.map_append, List.map_append, List.map_singleton, List.map_singleton, ofBytes_append_singleton, ih,
      BitVec.toNat_ofNat, Nat.pow_succ' (m := 256), Nat.mod_mul]
    omega

/-- A word reads back from its four bytes. -/
theorem ofBytes_word (v : Word) : ofBytes ((beBytes v.toNat 4).map (·.toNat)) = v.toNat := by
  exact (ofBytes_beBytes _ 4).trans (Nat.mod_eq_of_lt v.isLt)

/-! ### Runs of equal length -/

section

variable {α : Type} (f : Nat → List α) {k : Nat} (hf : ∀ i, (f i).length = k)

include hf

theorem flatMap_range_length (n : Nat) : ((List.range n).flatMap f).length = k * n := by
  induction n with
  | zero => rfl
  | succ n ih => rw [List.range_succ, List.flatMap_append, List.flatMap_singleton, List.length_append, ih, hf, Nat.mul_succ]

/-- The i-th of n runs of equal length. -/
theorem flatMap_range_take_drop {i n : Nat} (hi : i < n) : (((List.range n).flatMap f).drop (k * i)).take k = f i := by
  induction n with
  | zero => omega
  | succ n ih =>
    have hlen := flatMap_range_length f hf n
    rw [List.range_succ, List.flatMap_append, List.flatMap_singleton]
    obtain hlt | rfl := Nat.lt_succ_iff_lt_or_eq.1 hi
    · have hroom : k * i + k ≤ k * n := Nat.mul_le_mul_left k hlt
      have hrun : k ≤ (((List.range n).flatMap f).drop (k * i)).length := by rw [List.length_drop, hlen]; omega
      rw [List.drop_append_of_le_length (by omega), List.take_append_of_le_length hrun, ih hlt]
    · rw [List.drop_append_of_le_length (by omega), List.drop_eq_nil_of_le (by omega), List.nil_append,
        List.take_of_length_le (Nat.le_of_eq (hf i))]

end

end Sys2Proof.Machine
end

section
/-! Flash commands (R519, R522): the first cause for which one is refused, and what one that runs starts. -/

namespace Sys2Proof.Machine

/-! ### The cause of a refusal -/

section

variable (s : State)

theorem inCal_iff (a : Nat) : s.inCal a = true ↔ s.boot.flashSize - 0x40000 ≤ a ∧ a < s.boot.flashSize := by
  unfold State.inCal State.calBase
  rw [Bool.and_eq_true, decide_eq_true_eq, decide_eq_true_eq]

/-- Where the slot starts that BOOT_STATUS names (R507). -/
def State.namedSlot : Nat := if s.fld Fld.BOOT_STATUS_SLOT = 1 then (s.boot.flashSize - 0x40000) / 2 else 0

theorem slotBase_named : s.slotBase (s.on Fld.BOOT_STATUS_SLOT) = s.namedSlot :=
  ite_congr (propext (s.on_bit _ rfl)) (fun _ => rfl) fun _ => rfl

theorem inBooted_iff (a : Nat) : s.inBooted a = true ↔
    s.boot.booted = true ∧ s.namedSlot ≤ a ∧ a < s.namedSlot + (s.boot.flashSize - 0x40000) / 2 := by
  rw [State.inBooted, slotBase_named, Bool.and_eq_true, Bool.and_eq_true, decide_eq_true_eq, decide_eq_true_eq, and_assoc]
  rfl

variable (op arg : Nat) (unlock : Byte)

/-- An operation on the slot that booted (cause 2). -/
def State.hitsBooted : Prop := (op = 2 ∨ op = 3) ∧ s.inBooted (s.fld Fld.BOOT_FL_ADDR_ADDR) = true

/-- An operation that the unlock value has to allow, without it (cause 3). -/
def State.staysLocked : Prop := op ≠ 1 ∧ (s.inCal (s.fld Fld.BOOT_FL_ADDR_ADDR) = true ∨ op = 5) ∧ unlock ≠ 0xCA

/-- An address off its page or sector, or beyond the flash (cause 4). -/
def State.badAddress : Prop :=
  s.fld Fld.BOOT_FL_ADDR_ADDR % (if op = 3 then 65536 else 256) ≠ 0 ∨ s.boot.flashSize ≤ s.fld Fld.BOOT_FL_ADDR_ADDR

/-- A key that is not to be programmed (cause 5). -/
def State.keyRefused : Prop := s.fld Fld.BOOT_STATUS_RECOVERY = 0 ∨ s.keyThere arg = true

open Classical in
/-- The causes in their order (R522). -/
theorem flCause_eq : s.flCause op arg unlock =
    if s.fld Fld.BOOT_FL_STAT_BUSY = 1 then 1 else if s.hitsBooted op then 2 else if s.staysLocked op unlock then 3
    else if s.badAddress op then 4 else if op = 6 ∧ s.keyRefused arg then 5 else 0 := by
  unfold State.flCause State.hitsBooted State.staysLocked State.badAddress State.keyRefused
  simp only [State.on_bit, Bool.and_eq_true, Bool.or_eq_true, decide_eq_true_eq, bne_iff_ne, Bool.not_eq_true', State.on_eq_false,
    and_assoc]
  congr

theorem flCause_lt : s.flCause op arg unlock < 8 := by
  classical
  rw [flCause_eq]
  exact ite_lt_of_lt (by decide) (ite_lt_of_lt (by decide) (ite_lt_of_lt (by decide) (ite_lt_of_lt (by decide)
    (ite_lt_of_lt (by decide) (by decide)))))

theorem flCause_busy (h : s.fld Fld.BOOT_FL_STAT_BUSY = 1) : s.flCause op arg unlock = 1 := by
  classical
  rw [flCause_eq, if_pos h]

section

variable {s op arg unlock} (hfree : s.fld Fld.BOOT_FL_STAT_BUSY = 0)

include hfree

open Classical in
/-- The causes of a part that is not busy. -/
theorem flCause_free : s.flCause op arg unlock = if s.hitsBooted op then 2 else if s.staysLocked op unlock then 3
    else if s.badAddress op then 4 else if op = 6 ∧ s.keyRefused arg then 5 else 0 := by
  rw [flCause_eq, if_neg (by omega)]

theorem flCause_booted (h : s.hitsBooted op) : s.flCause op arg unlock = 2 := by
  rw [flCause_free hfree, if_pos h]

variable (hbooted : ¬s.hitsBooted op)

include hbooted

theorem flCause_locked (h : s.staysLocked op unlock) : s.flCause op arg unlock = 3 := by
  rw [flCause_free hfree, if_neg hbooted, if_pos h]

variable (hlocked : ¬s.staysLocked op unlock)

include hlocked

theorem flCause_address (h : s.badAddress op) : s.flCause op arg unlock = 4 := by
  rw [flCause_free hfree, if_neg hbooted, if_neg hlocked, if_pos h]

variable (haddress : ¬s.badAddress op)

include haddress

theorem flCause_key (h : op = 6 ∧ s.keyRefused arg) : s.flCause op arg unlock = 5 := by
  rw [flCause_free hfree, if_neg hbooted, if_neg hlocked, if_neg haddress, if_pos h]

theorem flCause_none (h : ¬(op = 6 ∧ s.keyRefused arg)) : s.flCause op arg unlock = 0 := by
  rw [flCause_free hfree, if_neg hbooted, if_neg hlocked, if_neg haddress, if_neg h]

end

end

/-! ### Starting an operation, or refusing it -/

section

variable (s : State)

/-- The operation that a command starts. -/
def State.flOp (op arg : Nat) : FlOp :=
  match op with
  | 1 => .read (s.fld Fld.BOOT_FL_ADDR_ADDR)
  | 2 => .program (s.fld Fld.BOOT_FL_ADDR_ADDR)
  | 3 => .erase (s.fld Fld.BOOT_FL_ADDR_ADDR)
  | 4 => .verify (arg % 2 == 1)
  | 5 => .calSave s.newCal
  | _ => .key arg

/-- An operation in progress, shown as BUSY. -/
def startFl (o : FlOp) : State := (s.flag Fld.BOOT_FL_STAT_BUSY true).updBoot (fun b => { b with op := some o })

/-- An operation refused for a cause. -/
def refuseFl (cause : Nat) : State := (s.flag Fld.BOOT_FL_STAT_REFUSED true).setFld Fld.BOOT_FL_STAT_CAUSE cause

theorem flCommand_eq (op arg : Nat) (unlock : Byte) : flCommand s op arg unlock =
    if s.flCause op arg unlock != 0 then refuseFl s (s.flCause op arg unlock) else startFl s (s.flOp op arg) := (rfl)

/-- What a command that runs leaves. -/
def FlRuns (o : FlOp) (t : State) : Prop := t.fld Fld.BOOT_FL_STAT_BUSY = 1 ∧ t.boot.op = some o
  ∧ SameRegs [Reg.BOOT_FL_STAT] s t ∧ t.boot.flash = s.boot.flash

/-- What a refused command leaves. -/
def FlRefused (cause : Nat) (t : State) : Prop := t.fld Fld.BOOT_FL_STAT_REFUSED = 1 ∧ t.fld Fld.BOOT_FL_STAT_CAUSE = cause
  ∧ OnlyRegs [Reg.BOOT_FL_STAT] s t

theorem startFl_boot (o : FlOp) : (startFl s o).boot = { s.boot with op := some o } := by simp [startFl]

theorem startFl_runs (o : FlOp) : FlRuns s o (startFl s o) := by
  have hbusy : (startFl s o).fld Fld.BOOT_FL_STAT_BUSY = 1 := by
    rw [startFl, State.updBoot_fld, State.fld_flag _ _ _ (by simp) (by simp), Bool.toNat_true]
  have hregs : SameRegs [Reg.BOOT_FL_STAT] s (startFl s o) :=
    ((SameRegs.refl _ s).flag (f := Fld.BOOT_FL_STAT_BUSY) List.mem_cons_self _).updBoot _
  exact ⟨hbusy, by rw [startFl_boot], hregs, by rw [startFl_boot]⟩

theorem refuseFl_refused {cause : Nat} (h : cause < 8) : FlRefused s cause (refuseFl s cause) := by
  have hflag : (refuseFl s cause).fld Fld.BOOT_FL_STAT_REFUSED = 1 := by
    rw [refuseFl, State.fld_setFld_ne _ _ _ _ (by simp), State.fld_flag _ _ _ (by simp) (by simp), Bool.toNat_true]
  have hcause : (refuseFl s cause).fld Fld.BOOT_FL_STAT_CAUSE = cause := by
    rw [refuseFl, State.fld_setFld _ _ _ (by simp)]
    exact Nat.mod_eq_of_lt h
  exact ⟨hflag, hcause, (OnlyRegs.flag s (by simp) true).trans (OnlyRegs.setFld _ (by simp) cause)⟩

/-- A command runs or is refused with the first cause. -/
theorem flCommand_completes {c : Instr} {op arg : Nat} {unlock : Byte} (hexec : exec c s = .next (flCommand s op arg unlock)) :
    (s.flCause op arg unlock = 0 → Completes c s (FlRuns s (s.flOp op arg)))
      ∧ (s.flCause op arg unlock ≠ 0 → Completes c s (FlRefused s (s.flCause op arg unlock))) := by
  rw [flCommand_eq] at hexec
  refine ⟨fun h => .intro (hexec.trans ?_) (startFl_runs s _),
    fun h => .intro (hexec.trans ?_) (refuseFl_refused s (flCause_lt s op arg unlock))⟩
  · rw [if_neg (by simpa using h)]
  · rw [if_pos (by simpa using h)]

end

end Sys2Proof.Machine
end

section
/-! What a flash operation leaves when it is done (R510, R522). -/

namespace Sys2Proof.Machine

/-! ### Registers written in a row -/

section

variable {f : Nat → Nat} (v : Nat → Word) (s : State)

/-- Writes of n registers: each reads as the value written. -/
theorem rd_foldl_wr (hf : Function.Injective f) {i n : Nat} (hi : i < n) :
    ((List.range n).foldl (fun s i => s.wr (f i) (v i)) s).rd (f i) = v i := by
  induction n with
  | zero => omega
  | succ n ih =>
    rw [List.range_succ, List.foldl_append, List.foldl_cons, List.foldl_nil, State.rd_wr]
    by_cases hlast : i = n
    · rw [hlast, if_pos rfl]
    · rw [if_neg (hf.ne hlast), ih (by omega)]

theorem foldl_wr_onlyRegs (l : List Nat) : OnlyRegs (l.map f) s (l.foldl (fun s i => s.wr (f i) (v i)) s) :=
  List.foldlRecOn (motive := OnlyRegs (l.map f) s) l _ (.refl _ s) fun t h _ hi => h.trans (.wr t (List.mem_map_of_mem hi) _)

end

/-! ### FL_OP_DONE -/

section

variable (s t : State)

/-- The operation is over. -/
def flEnded : State := (t.flag Fld.BOOT_FL_STAT_BUSY false).updBoot (fun b => { b with op := none })

@[simp] theorem flEnded_boot : (flEnded t).boot = { t.boot with op := none } := by simp [flEnded]

theorem flEnded_busy : (flEnded t).fld Fld.BOOT_FL_STAT_BUSY = 0 := by
  rw [flEnded, State.updBoot_fld, State.fld_flag _ _ _ (by simp) (by simp), Bool.toNat_false]

theorem flEnded_fld_ne (g : Fld) (h : g.reg ≠ Reg.BOOT_FL_STAT ∨ g.lo + g.width ≤ 31 ∨ 32 ≤ g.lo) :
    (flEnded t).fld g = t.fld g := by
  rw [flEnded, State.updBoot_fld, State.fld_flag_ne _ _ _ _ h]

theorem flEnded_flBytes (a n : Nat) : (flEnded t).flBytes a n = t.flBytes a n :=
  State.flBytes_congr a (by rw [flEnded_boot]) n

theorem flEnded_flNum (a n : Nat) : (flEnded t).flNum a n = t.flNum a n := by rw [State.flNum, flEnded_flBytes, State.flNum]

variable {s t}

theorem SameRegs.flEnded {l : List Nat} (h : SameRegs l s t) : SameRegs (Reg.BOOT_FL_STAT :: l) s (flEnded t) :=
  ((h.mono (List.subset_cons_self _ l)).flag (f := Fld.BOOT_FL_STAT_BUSY) List.mem_cons_self _).updBoot _

theorem exec_flOpDone {o : FlOp} (h : s.boot.op = some o) : exec .flOpDone s = .next (flEnded (performFl s o)) := by
  show execFlOpDone s = _
  rw [execFlOpDone, h]
  rfl

theorem exec_flOpDone_idle (h : s.boot.op = none) : exec .flOpDone s = .next s := by
  show execFlOpDone s = _
  rw [execFlOpDone, h]

end

/-! ### FL_READ -/

section

variable (s : State)

/-- The word of the flash at an address. -/
def State.flWord (a : Nat) : Word := BitVec.ofNat 32 (s.flNum a 4)

theorem flWord_toNat (a : Nat) : (s.flWord a).toNat = s.flNum a 4 := by
  rw [State.flWord, BitVec.toNat_ofNat]
  have hlt := ofBytes_lt ((s.flBytes a 4).map (·.toNat))
  rw [List.length_map, State.flBytes_length] at hlt
  exact Nat.mod_eq_of_lt hlt

/-- The 64 words from an address. -/
theorem wordsOf_flBytes (a : Nat) : wordsOf (s.flBytes a 256) 64 = (List.range 64).map (fun i => s.flWord (a + 4 * i)) := by
  refine List.map_congr_left fun i hi => ?_
  rw [List.mem_range] at hi
  rw [State.flBytes_take_drop s a (by omega)]
  rfl

/-- A read fills the buffer (R522). -/
theorem performFl_read (a : Nat) :
    performFl s (.read a) = (List.range 64).foldl (fun t i => t.wr (Reg.BOOT_FL_BUF i) (s.flWord (a + 4 * i))) s := by
  have hzip : (wordsOf (s.flBytes a 256) 64).zip (List.range 64) = (List.range 64).map (fun i => (s.flWord (a + 4 * i), i)) := by
    have h := List.zip_map' (f := fun i => s.flWord (a + 4 * i)) (g := id) (l := List.range 64)
    rwa [List.map_id, ← wordsOf_flBytes] at h
  rw [performFl, hzip, List.foldl_map]

theorem flBuf_injective : Function.Injective Reg.BOOT_FL_BUF := fun i j h => by
  simp only [Reg.BOOT_FL_BUF] at h
  omega

theorem performFl_read_onlyRegs (a : Nat) : OnlyRegs ((List.range 64).map Reg.BOOT_FL_BUF) s (performFl s (.read a)) :=
  performFl_read s a ▸ foldl_wr_onlyRegs _ s _

theorem performFl_read_buf (a : Nat) {i : Nat} (hi : i < 64) :
    ((performFl s (.read a)).rd (Reg.BOOT_FL_BUF i)).toNat = s.flNum (a + 4 * i) 4 := by
  rw [performFl_read, rd_foldl_wr (fun i => s.flWord (a + 4 * i)) s flBuf_injective hi, flWord_toNat]

theorem flEnded_buf (t : State) (i : Nat) : (flEnded t).rd (Reg.BOOT_FL_BUF i) = t.rd (Reg.BOOT_FL_BUF i) :=
  (SameRegs.refl [] t).flEnded _ (by simp; omega)

theorem flRead_ended (a : Nat) : (flEnded (performFl s (.read a))).boot.flash = s.boot.flash
    ∧ (∀ i, i < 64 → ((flEnded (performFl s (.read a))).rd (Reg.BOOT_FL_BUF i)).toNat = s.flNum (a + 4 * i) 4)
    ∧ SameRegs (Reg.BOOT_FL_STAT :: (List.range 64).map Reg.BOOT_FL_BUF) s (flEnded (performFl s (.read a))) := by
  obtain ⟨hregs, hrest⟩ := performFl_read_onlyRegs s a
  refine ⟨by rw [flEnded_boot, hrest], fun i hi => ?_, hregs.flEnded⟩
  rw [flEnded_buf, performFl_read_buf s a hi]

end

/-! ### FL_PROGRAM -/

section

variable (s : State)

/-- The bytes of a buffer word. -/
theorem bufBytes_word {i n : Nat} (hi : i < n) :
    ((s.bufBytes n).drop (4 * i)).take 4 = beBytes (s.rd (Reg.BOOT_FL_BUF i)).toNat 4 :=
  flatMap_range_take_drop _ (fun _ => beBytes_length _ 4) hi

theorem bufBytes_length (n : Nat) : (s.bufBytes n).length = 4 * n :=
  flatMap_range_length _ (fun _ => beBytes_length _ 4) n

theorem performFl_program_regs (a : Nat) : (performFl s (.program a)).regs = s.regs := by rw [performFl, writeFlash_regs]

/-- A page programmed reads as the buffer (R522). -/
theorem performFl_program_word (a : Nat) {i : Nat} (hi : i < 64) :
    (performFl s (.program a)).flNum (a + 4 * i) 4 = (s.rd (Reg.BOOT_FL_BUF i)).toNat := by
  rw [performFl, State.flNum, writeFlash_flBytes s a (by rw [bufBytes_length]; omega), bufBytes_word s hi, ofBytes_word]

theorem performFl_program_outside (a : Nat) {x : Nat} (hx : x < a ∨ a + 256 ≤ x) :
    (performFl s (.program a)).flBytes x 1 = s.flBytes x 1 := by
  rw [performFl]
  exact writeFlash_flBytes_ne s a (by rw [bufBytes_length]; omega)

theorem flProgram_ended (a : Nat) :
    (∀ i, i < 64 → (flEnded (performFl s (.program a))).flNum (a + 4 * i) 4 = (s.rd (Reg.BOOT_FL_BUF i)).toNat)
    ∧ (∀ x, x < a ∨ a + 256 ≤ x → (flEnded (performFl s (.program a))).flBytes x 1 = s.flBytes x 1)
    ∧ SameRegs [Reg.BOOT_FL_STAT] s (flEnded (performFl s (.program a))) := by
  refine ⟨fun i hi => ?_, fun x hx => ?_, ((SameRegs.refl [] s).regs_eq (performFl_program_regs s a)).flEnded⟩
  · rw [flEnded_flNum, performFl_program_word s a hi]
  · rw [flEnded_flBytes, performFl_program_outside s a hx]

end

/-! ### FL_ERASE -/

section

variable (s : State) (a : Nat)

theorem performFl_erase_regs : (performFl s (.erase a)).regs = s.regs := by rw [performFl, writeFlash_regs]

/-- A sector erased reads 0xFF (R507, R522). -/
theorem performFl_erase_inside {i : Nat} (hi : i < 65536) : (performFl s (.erase a)).flBytes (a + i) 1 = [0xFF] := by
  rw [performFl, writeFlash_erased s a hi]

theorem performFl_erase_outside {x : Nat} (hx : x < a ∨ a + 65536 ≤ x) :
    (performFl s (.erase a)).flBytes x 1 = s.flBytes x 1 := by
  rw [performFl]
  exact writeFlash_flBytes_ne s a (by rw [List.length_replicate]; omega)

theorem flErase_ended : (∀ i, i < 65536 → (flEnded (performFl s (.erase a))).flBytes (a + i) 1 = [0xFF])
    ∧ (∀ x, x < a ∨ a + 65536 ≤ x → (flEnded (performFl s (.erase a))).flBytes x 1 = s.flBytes x 1)
    ∧ SameRegs [Reg.BOOT_FL_STAT] s (flEnded (performFl s (.erase a))) := by
  refine ⟨fun i hi => ?_, fun x hx => ?_, ((SameRegs.refl [] s).regs_eq (performFl_erase_regs s a)).flEnded⟩
  · rw [flEnded_flBytes, performFl_erase_inside s a hi]
  · rw [flEnded_flBytes, performFl_erase_outside s a hx]

end

/-! ### FL_VERIFY -/

section

variable (s : State) (b : Bool)

theorem performFl_verify_onlyRegs : OnlyRegs [Reg.BOOT_FL_STAT] s (performFl s (.verify b)) := by
  rw [performFl]
  exact (OnlyRegs.setFld s (by simp) _).trans (OnlyRegs.setFld _ (by simp) _)

theorem performFl_verify_vres : (performFl s (.verify b)).fld Fld.BOOT_FL_STAT_VRES = if s.slotCode b = 0 then 1 else 2 := by
  have hlt : (if s.slotCode b = 0 then 1 else 2) < 4 := ite_lt_of_lt (by decide) (by decide)
  rw [performFl, State.fld_setFld_ne _ _ _ _ (by simp), State.fld_setFld _ _ _ (by simp)]
  exact Nat.mod_eq_of_lt hlt

theorem performFl_verify_verr : (performFl s (.verify b)).fld Fld.BOOT_FL_STAT_VERR = s.slotCode b % 256 := by
  rw [performFl, State.fld_setFld _ _ _ (by simp)]
  rfl

theorem flVerify_ended :
    (flEnded (performFl s (.verify b))).fld Fld.BOOT_FL_STAT_VRES = (if s.slotCode b = 0 then 1 else 2)
    ∧ (flEnded (performFl s (.verify b))).fld Fld.BOOT_FL_STAT_VERR = s.slotCode b % 256
    ∧ (flEnded (performFl s (.verify b))).boot.flash = s.boot.flash
    ∧ SameRegs [Reg.BOOT_FL_STAT] s (flEnded (performFl s (.verify b))) := by
  obtain ⟨hregs, hrest⟩ := performFl_verify_onlyRegs s b
  refine ⟨?_, ?_, by rw [flEnded_boot, hrest], hregs.flEnded.mono (by simp)⟩
  · rw [flEnded_fld_ne _ _ (by simp), performFl_verify_vres]
  · rw [flEnded_fld_ne _ _ (by simp), performFl_verify_verr]

end

/-! ### OTP_KEY_PROGRAM (R510) -/

section

variable (s : State)

theorem showKeys_boot : (showKeys s).boot = s.boot := by simp [showKeys]

theorem showKeys_img : (showKeys s).fld Fld.BOOT_OTP_IMG_KEY = s.boot.imgHash.isSome.toNat := by
  rw [showKeys, State.fld_flag_ne _ _ _ _ (by simp), State.fld_flag_ne _ _ _ _ (by simp),
    State.fld_flag _ _ _ (by simp) (by simp)]

theorem showKeys_user : (showKeys s).fld Fld.BOOT_OTP_USER_KEY = s.boot.userHash.isSome.toNat := by
  rw [showKeys, State.fld_flag_ne _ _ _ _ (by simp), State.fld_flag _ _ _ (by simp) (by simp)]

theorem showKeys_aes : (showKeys s).fld Fld.BOOT_OTP_AES_KEY = s.boot.aesKey.isSome.toNat := by
  rw [showKeys, State.fld_flag _ _ _ (by simp) (by simp)]

/-- A key programmed is shown and kept (R510). -/
theorem imgKey_ended : (flEnded (performFl s (.key 0))).fld Fld.BOOT_OTP_IMG_KEY = 1
    ∧ (flEnded (performFl s (.key 0))).boot.imgHash = some (s.bufBytes 12) := by
  rw [flEnded_fld_ne _ _ (by simp), flEnded_boot, performFl, showKeys_img, showKeys_boot, State.updBoot_boot]
  exact ⟨rfl, rfl⟩

theorem userKey_ended : (flEnded (performFl s (.key 1))).fld Fld.BOOT_OTP_USER_KEY = 1
    ∧ (flEnded (performFl s (.key 1))).boot.userHash = some (s.bufBytes 12) := by
  rw [flEnded_fld_ne _ _ (by simp), flEnded_boot, performFl, showKeys_user, showKeys_boot, State.updBoot_boot]
  exact ⟨rfl, rfl⟩

theorem aesKey_ended : (flEnded (performFl s (.key 2))).fld Fld.BOOT_OTP_AES_KEY = 1
    ∧ (flEnded (performFl s (.key 2))).boot.aesKey = some (s.bufBytes 8) := by
  rw [flEnded_fld_ne _ _ (by simp), flEnded_boot, performFl, showKeys_aes, showKeys_boot, State.updBoot_boot]
  exact ⟨rfl, rfl⟩

end

end Sys2Proof.Machine
end

section
/-! The temperature correction (R518): each path's calibration words, and interpolation between points. -/

namespace Sys2Proof.Machine

/-! ### Interpolation -/

/-- Points below the temperature come before the segment that holds it. -/
theorem interpolate_append {x : Int} {p : Int × Int} (hp : p.1 ≤ x) (r : List (Int × Int)) {l : List (Int × Int)}
    (hl : ∀ y, y ∈ l → y.1 < p.1) : interpolate x (l ++ p :: r) = interpolate x (p :: r) := by
  induction l with
  | nil => rfl
  | cons y l ih =>
    have hy : y.1 < p.1 := hl y List.mem_cons_self
    have hrest : ∀ z, z ∈ l → z.1 < p.1 := fun z hz => hl z (List.mem_cons_of_mem y hz)
    have hnext : interpolate x (y :: (l ++ p :: r)) = interpolate x (l ++ p :: r) := by
      cases l with
      | nil => rw [List.nil_append, interpolate, if_neg (by omega), if_neg (by omega)]
      | cons z l =>
        have hz : z.1 < p.1 := hrest z List.mem_cons_self
        rw [List.cons_append, interpolate, if_neg (by omega), if_neg (by omega)]
    exact hnext.trans (ih hrest)

theorem interpolate_segment {x : Int} {p q : Int × Int} (hp : p.1 ≤ x) (hq : x < q.1) (r : List (Int × Int)) :
    interpolate x (p :: q :: r) =
      if x = p.1 then (p.2, 1) else (p.2 * (q.1 - p.1) + (q.2 - p.2) * (x - p.1), q.1 - p.1) := by
  rw [interpolate, if_pos hq]
  exact ite_congr (propext ⟨fun h => by omega, fun h => by omega⟩) (fun _ => rfl) fun _ => rfl

/-! ### Paths -/

section

variable (s : State)

/-- The TX and RX calibration words of a path. -/
def State.pathCal (p : Nat) : Word × Word := (s.rd (Reg.BFE_PATH_CAL_TX p), s.rd (Reg.BFE_PATH_CAL_RX p))

/-- A path's words corrected. -/
def correctPath (tx rx : Int × Int) (s : State) (p : Nat) : State :=
  (s.wr (Reg.BFE_PATH_CAL_TX p) (corrected (s.rd (Reg.BFE_PATH_CAL_TX p)) tx)).wr (Reg.BFE_PATH_CAL_RX p)
    (corrected (s.rd (Reg.BFE_PATH_CAL_RX p)) rx)

/-- A pair of words corrected. -/
def correctedPair (tx rx : Int × Int) (w : Word × Word) : Word × Word := (corrected w.1 tx, corrected w.2 rx)

theorem correctPath_pathCal (tx rx : Int × Int) (p q : Nat) : (correctPath tx rx s p).pathCal q =
    if q = p then correctedPair tx rx (s.pathCal p) else s.pathCal q := by
  have htr : Reg.BFE_PATH_CAL_TX q ≠ Reg.BFE_PATH_CAL_RX p := by simp only [Reg.BFE_PATH_CAL_TX, Reg.BFE_PATH_CAL_RX]; omega
  have hrt : Reg.BFE_PATH_CAL_RX q ≠ Reg.BFE_PATH_CAL_TX p := by simp only [Reg.BFE_PATH_CAL_TX, Reg.BFE_PATH_CAL_RX]; omega
  have htt : Reg.BFE_PATH_CAL_TX q = Reg.BFE_PATH_CAL_TX p ↔ q = p := by simp only [Reg.BFE_PATH_CAL_TX]; omega
  have hrr : Reg.BFE_PATH_CAL_RX q = Reg.BFE_PATH_CAL_RX p ↔ q = p := by simp only [Reg.BFE_PATH_CAL_RX]; omega
  unfold correctPath State.pathCal
  rw [State.rd_wr_ne _ htr, State.rd_wr, State.rd_wr, State.rd_wr_ne _ hrt]
  simp only [htt, hrr]
  split
  · rfl
  · rfl

/-- The registers of the 64 paths' calibration words. -/
def pathCalRegs : List Nat := (List.range 64).map Reg.BFE_PATH_CAL_TX ++ (List.range 64).map Reg.BFE_PATH_CAL_RX

theorem correctPath_onlyRegs (tx rx : Int × Int) {p : Nat} (hp : p < 64) : OnlyRegs pathCalRegs s (correctPath tx rx s p) :=
  (OnlyRegs.wr s (List.mem_append_left _ (List.mem_map_of_mem (List.mem_range.2 hp))) _).trans
    (.wr _ (List.mem_append_right _ (List.mem_map_of_mem (List.mem_range.2 hp))) _)

/-- Paths b to b + n − 1 corrected. -/
theorem foldl_correctPath_pathCal (tx rx : Int × Int) (b n q : Nat) :
    ((List.range n).foldl (fun s i => correctPath tx rx s (b + i)) s).pathCal q =
      if b ≤ q ∧ q < b + n then correctedPair tx rx (s.pathCal q) else s.pathCal q := by
  induction n with
  | zero => rw [if_neg (by omega)]; rfl
  | succ n ih =>
    rw [List.range_succ, List.foldl_append, List.foldl_cons, List.foldl_nil, correctPath_pathCal]
    by_cases hq : q = b + n
    · rw [if_pos hq, if_pos (by omega), ← hq, ih, if_neg (by omega)]
    · rw [if_neg hq, ih]
      exact ite_congr (propext ⟨fun h => by omega, fun h => by omega⟩) (fun _ => rfl) fun _ => rfl

end

/-! ### Facets -/

/-- The record of a facet's points in a calibration set (R516). -/
def facetRecord (recs : List CalRec) (k : Nat) : Option CalRec := recs.find? (fun r => r.typ == 5 && r.idx == k)

/-- The TX and RX gains that a record gives at a temperature. -/
def txGain (t : Int) (r : CalRec) : Int × Int := interpolate t ((calPoints r).map (fun p => (p.1, p.2.1)))
def rxGain (t : Int) (r : CalRec) : Int × Int := interpolate t ((calPoints r).map (fun p => (p.1, p.2.2)))

/-- A path's words after the correction of facet k. -/
def facetCorrected (temps : List Int) (recs : List CalRec) (k : Nat) (w : Word × Word) : Word × Word :=
  match facetRecord recs k with
  | none => w
  | some r => correctedPair (txGain (temps.getD k 0) r) (rxGain (temps.getD k 0) r) w

section

variable (temps : List Int) {recs : List CalRec} {k : Nat} (w : Word × Word)

theorem facetCorrected_none (h : facetRecord recs k = none) : facetCorrected temps recs k w = w := by
  rw [facetCorrected, h]

theorem facetCorrected_some {r : CalRec} (h : facetRecord recs k = some r) : facetCorrected temps recs k w =
    correctedPair (txGain (temps.getD k 0) r) (rxGain (temps.getD k 0) r) w := by
  rw [facetCorrected, h]

end

/-- The correction of a facet's paths at its temperature, where the set has a record of its points. -/
def correctFacet (temps : List Int) (s : State) (k : Nat) : State :=
  match facetRecord s.boot.calRecs k with
  | none => s
  | some r => (List.range 16).foldl (fun s i =>
      correctPath (txGain (temps.getD k 0) r) (rxGain (temps.getD k 0) r) s (16 * k + i)) s

section

variable (s : State) (temps : List Int)

theorem correctFacet_pathCal (k q : Nat) : (correctFacet temps s k).pathCal q =
    if q / 16 = k then facetCorrected temps s.boot.calRecs k (s.pathCal q) else s.pathCal q := by
  unfold correctFacet facetCorrected
  cases facetRecord s.boot.calRecs k with
  | none => exact (ite_self _).symm
  | some r =>
    show ((List.range 16).foldl _ s).pathCal q = _
    rw [foldl_correctPath_pathCal]
    exact ite_congr (propext ⟨fun h => by omega, fun h => by omega⟩) (fun _ => rfl) fun _ => rfl

theorem correctFacet_onlyRegs {k : Nat} (hk : k < 4) : OnlyRegs pathCalRegs s (correctFacet temps s k) := by
  unfold correctFacet
  cases facetRecord s.boot.calRecs k with
  | none => exact .refl _ s
  | some r =>
    refine List.foldlRecOn (motive := OnlyRegs pathCalRegs s) _ _ (.refl _ s) fun t h i hi => ?_
    rw [List.mem_range] at hi
    exact h.trans (correctPath_onlyRegs t _ _ (by omega))

theorem foldl_correctFacet_onlyRegs {n : Nat} (hn : n ≤ 4) :
    OnlyRegs pathCalRegs s ((List.range n).foldl (correctFacet temps) s) :=
  List.foldlRecOn (motive := OnlyRegs pathCalRegs s) _ _ (.refl _ s) fun t h _ hk =>
    h.trans (correctFacet_onlyRegs t temps (Nat.lt_of_lt_of_le (List.mem_range.1 hk) hn))

/-- Each path is corrected once, by its facet's record. -/
theorem foldl_correctFacet_pathCal {n : Nat} (hn : n ≤ 4) (q : Nat) :
    ((List.range n).foldl (correctFacet temps) s).pathCal q =
      if q / 16 < n then facetCorrected temps s.boot.calRecs (q / 16) (s.pathCal q) else s.pathCal q := by
  induction n with
  | zero => rfl
  | succ n ih =>
    have hrecs : ((List.range n).foldl (correctFacet temps) s).boot.calRecs = s.boot.calRecs := by
      rw [(foldl_correctFacet_onlyRegs s temps (n := n) (by omega)).2]
    rw [List.range_succ, List.foldl_append, List.foldl_cons, List.foldl_nil, correctFacet_pathCal, hrecs, ih (by omega)]
    by_cases hq : q / 16 = n
    · rw [if_pos hq, if_neg (by omega), if_pos (by omega), hq]
    · rw [if_neg hq]
      exact ite_congr (propext ⟨fun h => by omega, fun h => by omega⟩) (fun _ => rfl) fun _ => rfl

end

/-! ### CAL_TEMP_CORRECT -/

section

variable (s : State) (t0 t1 t2 t3 : Int)

theorem exec_calTempCorrect : exec (.calTempCorrect t0 t1 t2 t3) s =
    if !s.boot.calValid then .next s else .next ((List.range 4).foldl (correctFacet [t0, t1, t2, t3]) s) := (rfl)

theorem calTempCorrect_idle (h : s.boot.calValid = false) : exec (.calTempCorrect t0 t1 t2 t3) s = .next s := by
  rw [exec_calTempCorrect, h]
  rfl

theorem calTempCorrect_corrects (h : s.boot.calValid = true) : Completes (.calTempCorrect t0 t1 t2 t3) s fun t =>
    (∀ k i, k < 4 → i < 16 → t.pathCal (16 * k + i) =
      facetCorrected [t0, t1, t2, t3] s.boot.calRecs k (s.pathCal (16 * k + i))) ∧ SameRegs pathCalRegs s t := by
  refine .intro ((exec_calTempCorrect s t0 t1 t2 t3).trans (if_neg (by simp [h])))
    ⟨fun k i hk hi => ?_, (foldl_correctFacet_onlyRegs s _ (Nat.le_refl 4)).1⟩
  have hfacet : (16 * k + i) / 16 = k := by omega
  rw [foldl_correctFacet_pathCal s _ (Nat.le_refl 4), hfacet, if_pos hk]

end

end Sys2Proof.Machine
end

section
/-! The release of TX and its withdrawal (R520, R521). -/

namespace Sys2Proof.Machine

section

variable (s : State)

theorem freeRuns_iff : s.freeRuns = true ↔ s.boot.freeRun = true ∧ s.fld Fld.LKT_STAT_SEALED = 0 := by
  rw [State.freeRuns, Bool.and_eq_true, Bool.not_eq_true', State.on_eq_false]

theorem freeRuns_not_iff : s.freeRuns = false ↔ s.boot.freeRun = false ∨ s.fld Fld.LKT_STAT_SEALED = 1 := by
  rw [State.freeRuns, Bool.and_eq_false_iff, Bool.not_eq_false', State.on_bit _ _ rfl]

/-- The conditions of R520. -/
theorem mayRelease_iff : s.mayRelease = true ↔ s.fld Fld.BOOT_STATUS_RADIO_READY = 1 ∧ s.fld Fld.LKT_STAT_CRC_OK = 1
    ∧ (s.boot.calValid = true ∨ s.boot.noCalOk = true)
    ∧ (s.fld Fld.TIM_STATUS_TIME_OK = 1 ∨ (s.boot.freeRun = true ∧ s.fld Fld.LKT_STAT_SEALED = 0)) := by
  rw [State.mayRelease, Bool.and_eq_true, Bool.and_eq_true, Bool.and_eq_true, Bool.or_eq_true, State.calOk, Bool.or_eq_true,
    State.on_bit _ _ rfl, State.on_bit _ _ rfl, State.on_bit _ _ rfl, freeRuns_iff, and_assoc, and_assoc]

/-- The boot quiet of R520 holds every path. -/
theorem quietHeld_of_txHold (p : Nat) (h : s.boot.txHold = true) : s.quietHeld p = true := by
  simp [State.quietHeld, State.facetQuiet, h]

/-! ### TX_RELEASE -/

/-- The hold ended, and shown so. -/
def txReleased : State := (s.flag Fld.BOOT_TXREL_RELEASED true).updBoot (fun b => { b with txHold := false })

theorem txReleased_boot : (txReleased s).boot = { s.boot with txHold := false } := by simp [txReleased]

theorem txReleased_fld : (txReleased s).fld Fld.BOOT_TXREL_RELEASED = 1 := by
  rw [txReleased, State.updBoot_fld, State.fld_flag _ _ _ (by simp) (by simp), Bool.toNat_true]

theorem txReleased_sameRegs : SameRegs [Reg.BOOT_TXREL] s (txReleased s) :=
  ((SameRegs.refl _ s).flag (f := Fld.BOOT_TXREL_RELEASED) List.mem_cons_self _).updBoot _

theorem exec_txRelease : exec .txRelease s =
    if s.boot.txHold && s.mayRelease then .next (settle s (txReleased s)) else .next s := (rfl)

theorem txRelease_stays (h : s.boot.txHold = false ∨ s.mayRelease = false) : exec .txRelease s = .next s := by
  rw [exec_txRelease, Bool.and_eq_false_iff.2 h, if_neg Bool.false_ne_true]

theorem txRelease_releases (hhold : s.boot.txHold = true) (hmay : s.mayRelease = true) : Completes .txRelease s fun t =>
    t.fld Fld.BOOT_TXREL_RELEASED = 1 ∧ t.boot = { s.boot with txHold := false }
      ∧ ∀ a, a / 2 ^ 24 ≠ 9 → a / 2 ^ 24 ≠ 15 → a ≠ Reg.BOOT_TXREL → t.rd a = s.rd a := by
  have hset := settle_settled s (txReleased s)
  refine .intro ((exec_txRelease s).trans (if_pos (by rw [hhold, hmay]; rfl)))
    ⟨(hset.fld _).trans (txReleased_fld s), hset.boot.trans (txReleased_boot s), fun a h9 h15 ha => ?_⟩
  exact (hset.rd h9 h15).trans (txReleased_sameRegs s a (by simpa using ha))

/-! ### TX_RELEASE_WITHDRAW -/

/-- The release withdrawn, counted in HOLDS, and the boot quiet back. -/
def txWithdrawn : State :=
  ((s.flag Fld.BOOT_TXREL_RELEASED false).bump Fld.BOOT_TXREL_HOLDS).updBoot (fun b => { b with txHold := true })

theorem txWithdrawn_boot : (txWithdrawn s).boot = { s.boot with txHold := true } := by simp [txWithdrawn]

theorem txWithdrawn_released : (txWithdrawn s).fld Fld.BOOT_TXREL_RELEASED = 0 := by
  rw [txWithdrawn, State.updBoot_fld, State.fld_bump_ne _ _ _ _ (by simp), State.fld_flag _ _ _ (by simp) (by simp),
    Bool.toNat_false]

theorem txWithdrawn_holds : (txWithdrawn s).fld Fld.BOOT_TXREL_HOLDS = min (s.fld Fld.BOOT_TXREL_HOLDS + 1) 255 := by
  rw [txWithdrawn, State.updBoot_fld, State.fld_bump _ _ _ (by simp), State.fld_flag_ne _ _ _ _ (by simp)]
  rfl

theorem txWithdrawn_sameRegs : SameRegs [Reg.BOOT_TXREL] s (txWithdrawn s) :=
  (((SameRegs.refl _ s).flag (f := Fld.BOOT_TXREL_RELEASED) List.mem_cons_self _).bump (f := Fld.BOOT_TXREL_HOLDS)
    List.mem_cons_self).updBoot _

/-- The grace of R521 has run out for a release that only TIME_OK upheld. -/
def State.graceOver : Prop := s.fld Fld.BOOT_TXREL_RELEASED = 1 ∧ s.fld Fld.TIM_STATUS_TIME_OK = 0
  ∧ (s.boot.freeRun = false ∨ s.fld Fld.LKT_STAT_SEALED = 1)
  ∧ ∃ t, s.boot.timeLost = some t ∧ t + s.fld Fld.BOOT_TXREL_GRACE_MS * 800000 ≤ s.time.now

theorem exec_txReleaseWithdraw_lost {t : Nat} (h : s.boot.timeLost = some t) : exec .txReleaseWithdraw s =
    if s.on Fld.BOOT_TXREL_RELEASED && !s.on Fld.TIM_STATUS_TIME_OK && !s.freeRuns
      && t + s.fld Fld.BOOT_TXREL_GRACE_MS * ticksMs ≤ s.time.now then .next (settle s (txWithdrawn s)) else .next s := by
  show execTxReleaseWithdraw s = _
  rw [execTxReleaseWithdraw, h]
  rfl

theorem graceOver_lost {t : Nat} (h : s.boot.timeLost = some t) : (s.on Fld.BOOT_TXREL_RELEASED
    && !s.on Fld.TIM_STATUS_TIME_OK && !s.freeRuns && t + s.fld Fld.BOOT_TXREL_GRACE_MS * ticksMs ≤ s.time.now) = true
      ↔ s.graceOver := by
  simp only [Bool.and_eq_true, Bool.not_eq_true', decide_eq_true_eq, State.on_bit _ Fld.BOOT_TXREL_RELEASED rfl,
    State.on_eq_false, freeRuns_not_iff, and_assoc, State.graceOver, h, Option.some.injEq, exists_eq_left']

theorem txReleaseWithdraw_stays (h : ¬s.graceOver) : exec .txReleaseWithdraw s = .next s := by
  cases hlost : s.boot.timeLost with
  | none =>
    show execTxReleaseWithdraw s = _
    rw [execTxReleaseWithdraw, hlost]
  | some t => rw [exec_txReleaseWithdraw_lost s hlost, if_neg (mt (graceOver_lost s hlost).1 h)]

theorem txReleaseWithdraw_withdraws (h : s.graceOver) : Completes .txReleaseWithdraw s fun t =>
    t.fld Fld.BOOT_TXREL_RELEASED = 0 ∧ t.boot = { s.boot with txHold := true }
      ∧ t.fld Fld.BOOT_TXREL_HOLDS = min (s.fld Fld.BOOT_TXREL_HOLDS + 1) 255 ∧ (∀ p, p < 64 → t.quietHeld p = true)
      ∧ ∀ a, a / 2 ^ 24 ≠ 9 → a / 2 ^ 24 ≠ 15 → a ≠ Reg.BOOT_TXREL → t.rd a = s.rd a := by
  obtain ⟨t, hlost, -⟩ := h.2.2.2
  have hexec := (exec_txReleaseWithdraw_lost s hlost).trans (if_pos ((graceOver_lost s hlost).2 h))
  have hset := settle_settled s (txWithdrawn s)
  have hboot := hset.boot.trans (txWithdrawn_boot s)
  refine .intro hexec ⟨(hset.fld _).trans (txWithdrawn_released s), hboot,
    (hset.fld _).trans (txWithdrawn_holds s), fun p _ => quietHeld_of_txHold _ p (by rw [hboot]), fun a h9 h15 ha => ?_⟩
  exact (hset.rd h9 h15).trans (txWithdrawn_sameRegs s a (by simpa using ha))

end

end Sys2Proof.Machine
end

section
/-! O52: flash commands, the temperature correction, and the release of TX and its withdrawal. -/

namespace Sys2Proof.Machine

/-- Settles O52: each clause by the lemma of its command. -/
theorem flashCalibrationAndTxRelease : Obligations.FlashCalibrationAndTxRelease := by
  unfold Obligations.FlashCalibrationAndTxRelease
  refine ⟨?cause, ?starts, ?done, fun s => exec_flOpDone_idle, ?temperature, ?interpolation, ?release, ?withdrawal⟩
  case cause =>
    intro s op arg unlock a c cal base own bad4
    have hbooted : s.hitsBooted op ↔ (op = 2 ∨ op = 3) ∧ own := and_congr_right fun _ => inBooted_iff s a
    have hlocked : s.staysLocked op unlock ↔ op ≠ 1 ∧ (cal ∨ op = 5) ∧ unlock ≠ 0xCA :=
      and_congr_right fun _ => and_congr_left fun _ => or_congr_left (inCal_iff s a)
    refine ⟨flCause_busy s op arg unlock, fun hfree => ⟨fun h => flCause_booted hfree (hbooted.2 h), fun h => ?_⟩⟩
    have hb : ¬s.hitsBooted op := mt hbooted.1 h
    refine ⟨fun hop hcal hlock => flCause_locked hfree hb (hlocked.2 ⟨hop, .inl hcal, hlock⟩), fun h => ?_⟩
    have hl : ¬s.staysLocked op unlock := by
      intro hstays
      obtain ⟨hop, hwhere, hlock⟩ := hlocked.1 hstays
      obtain hread | hkey | ⟨hcal, hsave⟩ := h
      · exact hop hread
      · exact hlock hkey
      · exact hwhere.elim hcal hsave
    refine ⟨fun hbad => flCause_address hfree hb hl hbad,
      fun hbad hop => flCause_none hfree hb hl hbad fun h => hop h.1, fun hbad hop => ?_⟩
    by_cases hkey : s.keyRefused arg
    · have hc : c = 5 := flCause_key hfree hb hl hbad ⟨hop, hkey⟩
      exact ⟨iff_of_true hc hkey, fun h => absurd hc h⟩
    · have hc : c = 0 := flCause_none hfree hb hl hbad fun h => hkey h.2
      exact ⟨iff_of_false (by omega) hkey, fun _ => hc⟩
  case starts =>
    intro s unlock arg a runs refused
    obtain ⟨hread, hread'⟩ := flCommand_completes s (c := .flRead) (op := 1) (arg := 0) (unlock := 0) rfl
    obtain ⟨hprogram, hprogram'⟩ := flCommand_completes s (c := .flProgram unlock) (op := 2) (arg := 0) rfl
    obtain ⟨herase, herase'⟩ := flCommand_completes s (c := .flErase unlock) (op := 3) (arg := 0) rfl
    obtain ⟨hverify, hverify'⟩ := flCommand_completes s (c := .flVerify arg unlock) (op := 4) rfl
    obtain ⟨hsave, hsave'⟩ := flCommand_completes s (c := .calSave unlock) (op := 5) (arg := 0) rfl
    obtain ⟨hkey, hkey'⟩ := flCommand_completes s (c := .otpKeyProgram arg unlock) (op := 6) rfl
    exact ⟨hread, hread', hprogram, hprogram', herase, herase', hverify, hverify', hsave, hsave', hkey, hkey'⟩
  case done =>
    intro s o h
    refine .intro (exec_flOpDone h) ⟨flEnded_busy _, by rw [flEnded_boot], ?read, ?program, ?erase, ?verify, ?imgKey, ?userKey,
      ?aesKey⟩
    case read => rintro a rfl; exact flRead_ended s a
    case program => rintro a rfl; exact flProgram_ended s a
    case erase => rintro a rfl; exact flErase_ended s a
    case verify => rintro b rfl; exact flVerify_ended s b
    case imgKey => rintro rfl; exact imgKey_ended s
    case userKey => rintro rfl; exact userKey_ended s
    case aesKey => rintro rfl; exact aesKey_ended s
  case temperature =>
    intro s t0 t1 t2 t3
    refine ⟨calTempCorrect_idle s t0 t1 t2 t3, fun h => ?_⟩
    obtain ⟨t, hexec, hpaths, hregs⟩ := calTempCorrect_corrects s t0 t1 t2 t3 h
    refine ⟨t, hexec, fun k i hk hi => ⟨fun hnone => ?_, fun r hsome => ?_, hregs⟩⟩
    · have hsame : t.pathCal (16 * k + i) = s.pathCal (16 * k + i) := (hpaths k i hk hi).trans (facetCorrected_none _ _ hnone)
      exact Prod.ext_iff.1 hsame
    · exact Prod.ext_iff.1 ((hpaths k i hk hi).trans (facetCorrected_some _ _ hsome))
  case interpolation =>
    intro x l r p q hl hp
    exact ⟨fun hq => (interpolate_append hp _ hl).trans (interpolate_segment hp hq r), interpolate_append hp [] hl⟩
  case release =>
    intro s may
    refine ⟨fun hhold hmay => txRelease_releases s hhold ((mayRelease_iff s).2 hmay),
      fun h => txRelease_stays s (h.imp_right fun hmay => ?_)⟩
    rwa [← Bool.not_eq_true, mayRelease_iff]
  case withdrawal => exact fun s => ⟨txReleaseWithdraw_withdraws s, txReleaseWithdraw_stays s⟩

end Sys2Proof.Machine
end
